-- ==== Sys2Proof/Word.lean ====
section
/-! DEFINITION. The word types of the BX2 and their plainest arithmetic. -/

namespace Sys2Proof

/-- A byte of the target's bus or of the bench link. -/
abbrev Byte := BitVec 8

/-- A two-byte field of the bench link (R196). -/
abbrev Half := BitVec 16

/-- A four-byte field of the bench link (R196). -/
abbrev Word := BitVec 32

/-- A value of the 32-bit microsecond tick count (R127). -/
abbrev Tick := BitVec 32

/-- A count that stops at `limit` and does not wrap (00_scope.md 4.3). -/
def satAdd (limit n k : Nat) : Nat := min limit (n + k)

/-- The largest value of a 32-bit saturating count. -/
def max32 : Nat := 4294967295

/-- The largest value of a 16-bit saturating count. -/
def max16 : Nat := 65535

/-- `v` brought to the nearer end of `lo..hi` (00_scope.md 4.3). -/
def clampTo (lo hi v : Nat) : Nat := max lo (min hi v)

end Sys2Proof
end

