-- ==== Sys2Proof/Syntax.lean ====
section
/-! DEFINITION. The commands of the BX2: one constructor per row of spec/opcode_table.json, in the table's
order. The table gives no operands: those of a request are the parameters that R196 and the request's rule
name, at their wire widths and unchecked; those of an event are what the event's rule samples (log entry 1). -/

namespace Sys2Proof

/-- The two channels. -/
inductive Chan where
  | c0 | c1
  deriving DecidableEq, Repr

/-- The two sides of a channel. -/
inductive Side where
  | cSide | dSide
  deriving DecidableEq, Repr

/-- The clock line and the data line of a side. -/
inductive Line where
  | clock | data
  deriving DecidableEq, Repr

/-- The two values of an acknowledge bit (R4): low is ACK, high is NACK. -/
inductive AckBit where
  | ack | nack
  deriving DecidableEq, Repr

/-- A condition on a side (R3). -/
inductive Cond where
  | start | stop
  deriving DecidableEq, Repr

/-- The compare slots of a firing (R130). -/
inductive CompareSlot where
  | slotA | slotB
  deriving DecidableEq, Repr

/-- The contents of a WRITE RULE request as the wire carries them (R62, R196): unchecked bytes. -/
structure RawRule where
  kind : Byte
  enabled : Byte
  channels : Byte
  address : Byte
  addressMask : Byte
  direction : Byte
  action : Byte
  image : Option Byte
  timeout : Option Byte
  record : Byte
  trigger : Byte
  oneshot : Byte
  passCount : Half
  indexValue : Option Byte
  indexMask : Option Byte
  deriving DecidableEq, Repr

/-- The fields of a JOB START request as the wire carries them (R161, R162): unchecked. -/
structure RawJob where
  id : Byte
  kind : Byte
  channel : Byte
  device : Byte
  width : Byte
  page : Half
  start : Half
  length : Half
  staging : Option Half
  pollLimit : Option Byte
  verify : Option Byte
  holdReset : Option Byte
  deriving DecidableEq, Repr

/-- How a write chunk of the engine ends with its STOP (R166). -/
inductive ChunkResult where
  | complete | addressNack | dataNack
  deriving DecidableEq, Repr

/-- How a read burst of the engine ends with its STOP (R166); a complete one has read its bytes. -/
inductive BurstResult where
  | complete (bytes : List Byte) | addressNack | dataNack
  deriving DecidableEq, Repr

/-- The commands of the block, in the order of spec/opcode_table.json. The first operand of every request
is the tag of its REQUEST frame (R189). -/
inductive Instr where
  | identify (tag : Byte)
  | softReset (tag : Byte)
  | softResetTaken
  | noticeNow (tag : Byte)
  | linkConfig (tag : Byte) (interval : Half)
  | setChannel (tag chan : Byte) (settings : List (Byte × Half))
  | getChannel (tag chan : Byte)
  | channelReset (tag chan : Byte)
  | writeRule (tag index : Byte) (rule : RawRule)
  | eraseRule (tag index : Byte)
  | readRule (tag index : Byte)
  | rearm (tag index zeroHits : Byte)
  | enableRule (tag index : Byte)
  | disableRule (tag index : Byte)
  | imageConfig (tag image : Byte) (size : Half) (writeTime : Byte)
  | imageWrite (tag image start : Byte) (bytes : List Byte)
  | imageRead (tag image start : Byte) (count : Half) (clearCount : Byte)
  | imageProtect (tag image : Byte) (protect : BitVec 256)
  | release (tag chan disposition : Byte)
  | park (tag chan choice : Byte)
  | holdStatus (tag chan : Byte)
  | logConfig (tag : Byte) (settings : List (Byte × Half))
  | logRead (tag : Byte) (maxBytes : Half)
  | logClear (tag counts : Byte)
  | logStatus (tag : Byte)
  | timeRead (tag : Byte)
  | timeSet (tag : Byte) (count : Word)
  | compareConfig (tag slot : Byte) (delay period : Word)
  | compareArm (tag slot : Byte)
  | compareDisarm (tag slot : Byte)
  | trigInConfig (tag selection clearCount : Byte)
  | trigOut (tag operation : Byte) (width : Option Half)
  | routeWrite (tag index enabled source : Byte) (qualifier : Option Byte) (action : Byte)
  | routeRead (tag index clearCount : Byte)
  | triggerStatus (tag : Byte)
  | busClear (tag chan : Byte)
  | healthConfig (tag : Byte) (settings : List (Byte × Half))
  | healthStatus (tag chan : Byte)
  | statsSnapshot (tag : Byte)
  | statsRead (tag choice : Byte)
  | stageWrite (tag : Byte) (offset : Half) (bytes : List Byte)
  | stageRead (tag : Byte) (offset count : Half)
  | stageCheck (tag : Byte) (offset length : Half)
  | jobStart (tag : Byte) (job : RawJob)
  | jobAbort (tag : Byte)
  | jobStatus (tag : Byte)
  | supplyConfig (tag : Byte) (settings : List (Byte × Half))
  | powerOn (tag : Byte)
  | powerOff (tag : Byte)
  | clearTrip (tag : Byte)
  | tripTest (tag : Byte)
  | resetAssert (tag : Byte)
  | resetRelease (tag : Byte)
  | resetPulse (tag : Byte) (width : Option Half)
  | supplyStatus (tag : Byte)
  | powerOnReset
  | powerOnResetEnd (lrate1 lrate0 : Bool)
  | lrxByte (byte : Byte)
  | receiveTimeout
  | dispatch
  | transmitStart
  | frameSent
  | lholdChange (asserted lastByte : Bool)
  | noticeIntervalExpiry
  | tick (count : Nat)
  | cStart (ch : Chan) (bits : Nat)
  | cStop (ch : Chan) (bits : Nat)
  | busFreeTimeElapsed (ch : Chan) (side : Side)
  | addressByteComplete (ch : Chan) (byte : Byte)
  | dataByteComplete (ch : Chan) (byte : Byte)
  | cAckComplete (ch : Chan) (bit : AckBit)
  | grantWaitStuckLimit (ch : Chan)
  | dSideGrant (ch : Chan)
  | dAddressAck (ch : Chan) (bit : AckBit)
  | dWriteByteDone (ch : Chan) (bit : AckBit)
  | dReadByteDone (ch : Chan) (byte : Byte)
  | dReadAckDone (ch : Chan)
  | dStopComplete (ch : Chan)
  | dStopFailed (ch : Chan)
  | closePulsesFailed (ch : Chan)
  | arbitrationLoss (ch : Chan)
  | dStretchTimeout (ch : Chan)
  | modeChange (ch : Chan)
  | holdTimeout (ch : Chan)
  | imageWindowExpiry (image : Fin 4)
  | compareFire (slot : CompareSlot)
  | triginEdge (rising : Bool)
  | trigOutPulseEnd
  | stuckCDeclare (ch : Chan)
  | stuckCClear (ch : Chan)
  | stuckDLineTimeout (ch : Chan)
  | stuckDClear (ch : Chan)
  | busClearPulseDone (ch : Chan) (dataHigh : Bool)
  | busClearStopDone (ch : Chan) (dataHigh : Bool)
  | statsPeriodExpiry
  | chunkEnd (result : ChunkResult)
  | probeEnd (bit : AckBit)
  | burstEnd (result : BurstResult)
  | pollLimitExpiry
  | settleTimeElapsed
  | stoppingQuiesced
  | quiesceLimitExpiry
  | ocsenseChange (active : Bool)
  | overcurrentFilterExpiry
  | resetPulseEnd
  | dSideCondition (ch : Chan) (cond : Cond)
  | busLineChange (ch : Chan) (side : Side) (line : Line) (low : Bool)
  deriving DecidableEq, Repr

end Sys2Proof
end

