-- ==== Sys2Proof/Decode.lean ====
section
/-! DEFINITION. The command a table word spells. -/

namespace Sys2Proof

/-- No row of spec/opcode_table.json gives bits, so no word spells a command (log entry 1). A request reaches the
part as bytes of the bench link, which `Sys2Proof.Machine.requestOf` reads. -/
def decodeTableWord (_nbits _w : Nat) : Option Instr := none

end Sys2Proof
end

