-- ==== Sys2Proof/Config.lean ====
section
/-! DEFINITION. The capacities and codes the manual fixes (00_scope.md 1.3, R194), and the one free value. -/

namespace Sys2Proof

/-- The bytes the capture log holds (R105). -/
def Config.logCapacity : Nat := 8192

/-- The occupancy whose upward passage raises LOGFILL (R118). -/
def Config.logFillLevel : Nat := 4096

/-- The bytes of records a report or a LOG READ takes at most (R121, R122). -/
def Config.reportLimit : Nat := 480

/-- The bytes of the staging buffer (R158). -/
def Config.stagingSize : Nat := 4096

/-- The bytes of an image (R69). -/
def Config.imageSize : Nat := 256

/-- The bytes of a console line buffer (R80). -/
def Config.consoleSize : Nat := 64

/-- The free space below which console blocking refuses a write (R81). -/
def Config.consoleSpace : Nat := 128

/-- The replies the queue holds (R192). -/
def Config.replyPlaces : Nat := 4

/-- The request frames the receive buffer holds (R191). -/
def Config.receivePlaces : Nat := 2

/-- The minimum of a phase of the D-side clock, in reference cycles (R35). -/
def Config.minPhase : Nat := 12

/-- The largest delta a record header holds, in μs (R106). -/
def Config.maxDelta : Nat := 16777215

/-- FREE VALUE (log entry 13). Where one command acts on both channels and the manual lets the two come in
either order (R183: "the two channels in either order"), `true` takes channel 1 first. Applied to a counter
of the state, so that each such place has a choice of its own. -/
opaque Config.channelOneFirst : Nat → Bool

end Sys2Proof
end

