-- ==== Sys2Proof/Machine/State.lean ====
section
/-! DEFINITION. The state of the BX2 as plain data: every piece of state the manual gives, block by block
(INVENTORY.md, State), the queue of waiting commands, and the machine right after power-on reset. -/

namespace Sys2Proof.Machine

/-- No command of the block stops it with a fault: the manual names no condition that stops the part
(INVENTORY.md, Faults). -/
inductive Fault where
  deriving DecidableEq, Repr

/-- Why a command has no meaning. -/
inductive Refusal where
  /-- Raised by an arm of `exec` whose command is not modelled yet: safe, the model stops where the part
  goes on. No arm raises it. -/
  | notModelled (mnemonic : String)
  deriving DecidableEq, Repr

/-- A measurement of elapsed time: ticks counted so far and the limit it began with (R16, R129), in μs. -/
structure Timer where
  elapsed : Nat
  limit : Nat
  deriving DecidableEq, Repr

/-- A sparse buffer of bytes: (address, byte) pairs in rising address, none equal to the reset byte 0xFF. -/
abbrev Mem := List Host.Cell

/-! ### Channels (chapters 1 and 2) -/

/-- A channel's mode: requested, target or effective (R8, R14). -/
inductive Mode where
  | monitor | active | isolated
  deriving DecidableEq, Repr

/-- The channel's default action (R14). -/
inductive DefaultAction where
  | forward | deny
  deriving DecidableEq, Repr

/-- How DATA_NACKS counts (R154). -/
inductive NackCounting where
  | byte | exchange
  deriving DecidableEq, Repr

/-- The thirteen settings of a channel (section 1.6). -/
structure ChanSettings where
  requested : Mode
  defaultAction : DefaultAction
  defaultRecord : Bool
  rate : Nat
  lowShare : Nat
  dStretchLimit : Nat
  stuckLimit : Nat
  holdTimeout : Nat
  busFreeTime : Nat
  consoleBlocking : Bool
  nackCounting : NackCounting
  fallbackOnDegrade : Bool
  returnOnRecover : Bool
  deriving DecidableEq, Repr

/-- A D-side clock plan: low and high phase in reference cycles (R35). -/
structure Plan where
  low : Nat
  high : Nat
  deriving DecidableEq, Repr

/-- A channel's knowledge of where the bus stands (R7). -/
inductive Sync where
  | unknown | synced
  deriving DecidableEq, Repr

/-- The phase of a channel (sections 2.2 and 2.12); `localAnswer` is LOCAL. -/
inductive Phase where
  | free | address | decide | grantWait | dAddress | held | relayWrite | relayRead | localAnswer | refused
  | observing
  deriving DecidableEq, Repr

/-- The direction of an exchange (R4). -/
inductive Dir where
  | write | read
  deriving DecidableEq, Repr

/-- What was done with an exchange (R20). -/
inductive Disposition where
  | observed | forwarded | emulated | console | denied | busy
  deriving DecidableEq, Repr

/-- The timeout disposition of a HOLD entry (R47, R48). -/
inductive TimeoutAction where
  | forward | deny
  deriving DecidableEq, Repr

/-- The action of an ADDRESS entry or of the channel default (R47, R53). -/
inductive AddrAction where
  | forward
  | emulate (image : Fin 4)
  | deny
  | hold (timeout : TimeoutAction)
  | console
  deriving DecidableEq, Repr

/-- The action of an INDEX entry (R48). -/
inductive IndexAction where
  | pass
  | hold (timeout : TimeoutAction)
  | deny
  deriving DecidableEq, Repr

/-- The exchange in flight of a channel (R20, R54, R58, R70, R75). -/
structure Exchange where
  address : BitVec 7
  direction : Dir
  disposition : Option Disposition
  action : Option AddrAction
  addressEntry : Option Nat
  indexEntry : Option Nat
  recordIt : Bool
  addressAck : Option AckBit
  count : Nat
  shown : List Byte
  firstNack : Option Nat
  startTime : Tick
  misframe : Bool
  onImage : Option (Fin 4)
  stored : Bool
  deriving DecidableEq, Repr

/-- How an exchange ends (R20). -/
inductive EndKind where
  | stop | restart | aborted
  deriving DecidableEq, Repr

/-- The level of a line pair as pulled by one party: `true` is pulled low. -/
structure Pair where
  clock : Bool
  data : Bool
  deriving DecidableEq, Repr

/-- The four lines of a channel (R1). -/
structure Lines where
  c : Pair
  d : Pair
  deriving DecidableEq, Repr

/-- The requester that holds or held a D-side (R164). -/
inductive Holder where
  | none | relay | engine
  deriving DecidableEq, Repr

/-- A channel's D-side arbiter (R164). -/
structure Arbiter where
  holder : Holder
  last : Holder
  relayWaits : Bool
  engineWaits : Bool
  deriving DecidableEq, Repr

/-- What the part is generating on a D-side. `idle`: nothing, or the clock held low between bytes (R37).
`stop same` and `closing same` are a STOP and the closing pulses of R14; `same` says that it falls in the C-side
transaction in progress (R14, R26, R32), and not after the STOP, the reset or the abort that ended that transaction
(R33, log entry 25). `unit` is a transaction of the engine (R166). -/
inductive DOp where
  | idle | address | writeByte | readByte | readAck | unit
  | stop (same : Bool)
  | closing (same : Bool)
  deriving DecidableEq, Repr

/-- What the front end keeps to the end of a D-side bit (R31, log entry 38): a condition, with whether it fell inside
a byte and the tick count at it; or the address byte behind a kept START. -/
inductive Kept where
  | cond (cond : Cond) (inByte : Bool) (time : Tick)
  | address (byte : Byte)
  deriving DecidableEq, Repr

/-! ### Holds (chapter 5) -/

/-- What began a hold (R87). -/
inductive HoldOrigin where
  | entryAddress (entry : Nat) | entryIndex (entry : Nat) | park
  deriving DecidableEq, Repr

/-- A planned or applied disposition of a hold (R87, R101); `resume` is CONTINUE. -/
inductive Planned where
  | forward | emulate (image : Fin 4) | console | deny | resume
  deriving DecidableEq, Repr

/-- The timeout disposition of a hold (R87). -/
inductive HoldTimeout where
  | forward | deny | planned
  deriving DecidableEq, Repr

/-- Why a hold ended (R101). -/
inductive HoldCause where
  | released | timeout | abandoned
  deriving DecidableEq, Repr

/-- A hold record (R87); its channel is that of its slot. `elapsed` is in μs, so that the held time is its
whole milliseconds. -/
structure Hold where
  origin : HoldOrigin
  address : BitVec 7
  direction : Dir
  byte : Byte
  planned : Planned
  timeout : HoldTimeout
  start : Tick
  deadline : Option Tick
  elapsed : Nat
  deriving DecidableEq, Repr

/-- What an address stage is to do once its closing STOP is made (R26). -/
inductive NextAct where
  | apply (planned : Planned)
  | hold (origin : HoldOrigin) (planned : Planned) (timeout : HoldTimeout)
  deriving DecidableEq, Repr

/-! ### Health (chapter 8) -/

/-- The ten statistics counters (R153). -/
structure Stats where
  exchanges : Nat
  addressNacks : Nat
  dataNacks : Nat
  denied : Nat
  emulated : Nat
  held : Nat
  misframes : Nat
  arbLosses : Nat
  dStretchTimeouts : Nat
  bytes : Nat
  deriving DecidableEq, Repr

/-- A running bus clear: pulses used, its plan, and whether it is making its STOP (R151); `since` is the time in μs
since the pulse or the STOP in progress began (log entry 41). -/
structure BusClear where
  pulses : Nat
  plan : Plan
  stopping : Bool
  since : Nat
  deriving DecidableEq, Repr

/-- The last bus clear result (R143). -/
inductive ClearResult where
  | none | cleared | failed | abandoned
  deriving DecidableEq, Repr

/-- A channel's part of the health monitor (R143). -/
structure Health where
  misframes : Nat
  cleanRun : Nat
  degraded : Bool
  stuckC : Bool
  stuckD : Bool
  owed : Bool
  busClear : Option BusClear
  lastClear : ClearResult
  running : Stats
  snapshot : Stats
  deriving DecidableEq, Repr

/-- The measurements a channel makes on its lines (R5, R40, R149, R150). -/
structure Meters where
  cIdle : Option Timer
  dIdle : Option Timer
  dClear : Option Timer
  stuckClock : Option Timer
  stuckData : Option Timer
  stuckD : Option Timer
  dStretch : Option Timer
  deriving DecidableEq, Repr

/-- One channel: front end, relay engine, console buffer, hold slot and health. `highPhase`: the C-side clock is
still high after the last sampled bit, so that what `pull` says of the C-side lines comes only with the falling edge,
and till then the part leaves the clock released and pulls CnDA as `highData` says (R21, log entry 8). `bitsOut` is how
many bits of the byte the part gives have been put on CnDA (R21, R28, R73). `dataTold`: since the last event of the
C-side traffic CnDA has been told low (R149, log entry 7). -/
structure Channel where
  settings : ChanSettings
  mode : Mode
  fallback : Bool
  sync : Sync
  phase : Phase
  seenFree : Bool
  cFree : Bool
  dFree : Bool
  freePoint : Bool
  byteOpen : Bool
  curByte : Byte
  noted : Bool
  highPhase : Bool
  highData : Bool
  dataTold : Bool
  ext : Lines
  pull : Lines
  meters : Meters
  grantWait : Option Timer
  grantLimitTaken : Bool
  plan : Plan
  latched : Option Plan
  dOp : DOp
  dSpan : Nat
  arb : Arbiter
  deferred : List Kept
  nextAct : Option NextAct
  startTick : Tick
  exch : Option Exchange
  giving : Option Byte
  bitsOut : Nat
  console : List Byte
  hold : Option Hold
  park : Bool
  health : Health
  deriving DecidableEq, Repr

/-! ### Rule table (chapter 3) -/

/-- The directions an ADDRESS entry matches (R47). -/
inductive DirMatch where
  | write | read | either
  deriving DecidableEq, Repr

/-- The fields the two kinds of entry share (R47, R48). A set bit of a mask leaves its position out. -/
structure RuleHead where
  enabled : Bool
  onC0 : Bool
  onC1 : Bool
  address : BitVec 7
  addressMask : BitVec 7
  record : Bool
  trigger : Bool
  oneshot : Bool
  passCount : Nat
  deriving DecidableEq, Repr

/-- A live or pending copy of an entry (R46 to R48). -/
inductive Copy where
  | empty
  | address (head : RuleHead) (direction : DirMatch) (action : AddrAction)
  | index (head : RuleHead) (value mask : Byte) (action : IndexAction)
  deriving DecidableEq, Repr

/-- An entry: live copy, pending copy and runtime fields (R46, R49). -/
structure Entry where
  live : Copy
  pending : Option Copy
  remaining : Nat
  hits : Nat
  refs : Nat
  deriving DecidableEq, Repr

/-! ### Images (chapter 4) -/

/-- An emulated device image (R69); `busyUntil` is its until-time while BUSY. -/
structure Image where
  size : Nat
  writeTime : Nat
  protect : BitVec 256
  contents : Mem
  pointer : Nat
  busyUntil : Option Tick
  writeCount : Nat
  deriving DecidableEq, Repr

/-! ### Capture log (chapter 6) -/

/-- The supply states (R176). -/
inductive SupplyState where
  | off | ramping | on | stopping | tripped
  deriving DecidableEq, Repr

/-- A condition of an EVENT record with its new state (R108). -/
inductive Event where
  | mode (newMode : Mode)
  | degraded (declared : Bool)
  | stuckC (declared : Bool)
  | stuckD (declared : Bool)
  | supply (newState : SupplyState)
  deriving DecidableEq, Repr

/-- The trigger sources (R137). -/
inductive Source where
  | rule | compareA | compareB | trigIn | holdStart | fault | jobEnd
  deriving DecidableEq, Repr

/-- The body fields of an EXCHANGE record (R107). -/
structure ExchangeBody where
  address : BitVec 7
  direction : Dir
  disposition : Disposition
  entry : Option Nat
  ack : AckBit
  endKind : EndKind
  duration : Nat
  count : Nat
  firstNack : Option Nat
  repeats : Nat
  shown : List Byte
  deriving DecidableEq, Repr

/-- The outcome of a job (R173). -/
inductive JobOutcome where
  | done | failed | aborted
  deriving DecidableEq, Repr

/-- The cause of a job's end (R173). -/
inductive JobCause where
  | none | addressNack | dataNack | arbLost | pollTimeout | verifyMismatch | stuck | hostAbort | fault | mode
  | supplyOff
  deriving DecidableEq, Repr

/-- The body of a record (R108). -/
inductive Body where
  | exchange (body : ExchangeBody)
  | console (text : List Byte)
  | hold (origin : HoldOrigin) (address : BitVec 7) (direction : Dir) (byte : Byte)
  | holdEnd (applied : Option Planned) (cause : HoldCause) (heldMs : Nat)
  | event (event : Event)
  | trigger (source : Source) (entry : Option Nat)
  | timeMark (count : Tick)
  | gap (lost : Nat)
  | job (id : Byte) (outcome : JobOutcome) (cause : JobCause) (done : Nat) (failing : Nat)
  deriving DecidableEq, Repr

/-- A whole record; `chan` is `none` where the record belongs to no channel (R106). -/
structure Record where
  chan : Option Chan
  delta : Nat
  body : Body
  deriving DecidableEq, Repr

/-- The capture log (R105). -/
structure Log where
  records : List Record
  lastStamp : Tick
  crossings : Nat
  markNeeded : Bool
  gateOpen : Bool
  wrap : Bool
  gapCount : Nat
  dropped : Nat
  overwritten : Nat
  window : Nat
  stream : Bool
  deriving DecidableEq, Repr

/-! ### Timebase and trigger router (chapter 7) -/

/-- A compare slot (R130); it is armed exactly while it has a target. -/
structure Compare where
  delay : Nat
  period : Nat
  target : Option Tick
  fires : Nat
  deriving DecidableEq, Repr

/-- The TRIG-IN edge selection (R134). -/
inductive EdgeSel where
  | off | rise | fall | both
  deriving DecidableEq, Repr

/-- The TRIG-IN unit (R134) with the sampled level of its pin. -/
structure TrigIn where
  selection : EdgeSel
  level : Bool
  lastEdge : Tick
  count : Nat
  deriving DecidableEq, Repr

/-- The TRIG-OUT unit (R135): stored level (`true` HIGH), pulse width in μs, pulse timer. -/
structure TrigOut where
  stored : Bool
  width : Nat
  timer : Option Timer
  deriving DecidableEq, Repr

/-- A route's qualifier (R137). -/
inductive Qualifier where
  | any | entry (index : Nat)
  deriving DecidableEq, Repr

/-- A route's action (R137). -/
inductive RouteAction where
  | logOpen | logClose | park0 | park1 | pulseOut | toggleOut | snapshot | armA | armB | resetPulse
  deriving DecidableEq, Repr

/-- A trigger route (R137); `none` is the zeroed code 0. -/
structure Route where
  enabled : Bool
  source : Option Source
  qualifier : Option Qualifier
  action : Option RouteAction
  fires : Nat
  deriving DecidableEq, Repr

/-- The shared part of the health monitor: thresholds, period, snapshot time and number (R143, R155). `expiryDue`: an
expiry of the period timer fell together with a snapshot that was taken first, and its own is still to be taken. -/
structure Monitor where
  degrade : Nat
  clear : Nat
  recover : Nat
  period : Nat
  timer : Option Timer
  expiryDue : Bool
  snapTime : Tick
  snapNumber : Half
  deriving DecidableEq, Repr

/-! ### Programming engine (chapter 9) -/

/-- The phase of the engine while a job runs (R161); it is IDLE when there is no job. -/
inductive JobPhase where
  | write | poll | verify | read | check | ending
  deriving DecidableEq, Repr

/-- The kind of a job (R161). -/
inductive JobKind where
  | write | read | check
  deriving DecidableEq, Repr

/-- The unit of D-side work in progress or waited for. -/
inductive JobUnit where
  | chunk | probe | burst
  deriving DecidableEq, Repr

/-- One item of an engine transaction on the D-side (R166 to R169): a condition, a byte the engine sends, or a byte
it receives with the acknowledge bit it gives. -/
inductive UnitItem where
  | start | restart | stop
  | send (byte : Byte)
  | receive (ack : AckBit)
  deriving DecidableEq, Repr

/-- The job record (R161). `probeAck` is the acknowledge bit of the probe whose STOP is in progress (R168). -/
structure Job where
  id : Byte
  kind : JobKind
  chan : Chan
  device : BitVec 7
  width : Nat
  page : Nat
  start : Nat
  length : Nat
  staging : Option Nat
  pollLimit : Nat
  verify : Bool
  holdReset : Bool
  phase : JobPhase
  unit : JobUnit
  unitAddress : Nat
  unitLength : Nat
  attempt : Nat
  done : Nat
  sumA : Nat
  sumB : Nat
  endingCause : Option JobCause
  pollTimer : Option Timer
  pollExpired : Bool
  probeAck : Option AckBit
  deriving DecidableEq, Repr

/-- The last result (R173). -/
structure JobResult where
  id : Byte
  kind : JobKind
  chan : Chan
  outcome : JobOutcome
  cause : JobCause
  done : Nat
  failing : Nat
  check : Option Nat
  deriving DecidableEq, Repr

/-- The programming engine (R158, R161, R169). `unit` is the transaction the running job issued at its last START,
empty before its first; `burst` is the burst buffer. -/
structure Engine where
  staging : Mem
  job : Option Job
  last : Option JobResult
  unit : List UnitItem
  burst : List Byte
  deriving DecidableEq, Repr

/-! ### Supply controller (chapter 10) -/

/-- The last trip cause (R176). -/
inductive TripCause where
  | none | overcurrent | test
  deriving DecidableEq, Repr

/-- The last stop result (R176). -/
inductive StopResult where
  | none | quiesced | limit
  deriving DecidableEq, Repr

/-- The supply settings (R177), times in ms and the filter in μs. -/
structure SupplySettings where
  settle : Nat
  filter : Nat
  quiesce : Nat
  follow : Bool
  resetDuringRamp : Bool
  pulseWidth : Nat
  deriving DecidableEq, Repr

/-- The set of reset claims (R185). -/
structure Claims where
  host : Bool
  pulse : Bool
  ramp : Bool
  job : Bool
  deriving DecidableEq, Repr

/-- The supply controller (R176). -/
structure Supply where
  state : SupplyState
  tripCount : Nat
  tripTime : Tick
  lastCause : TripCause
  lastStop : StopResult
  settings : SupplySettings
  claims : Claims
  settleTimer : Option Timer
  quiesceTimer : Option Timer
  filterTimer : Option Timer
  pulseTimer : Option Timer
  ocsense : Bool
  deriving DecidableEq, Repr

/-! ### Bench link (chapter 11) -/

/-- The receiver's states (R190). -/
inductive RxState where
  | hunt | header | payload | check
  deriving DecidableEq, Repr

/-- The receiver: its state, the covered bytes so far, the check bytes so far, the bytes the state still
takes, and the measurement since the last byte (R190). -/
structure Receiver where
  state : RxState
  bytes : List Byte
  checks : List Byte
  left : Nat
  timer : Option Timer
  deriving DecidableEq, Repr

/-- A request frame in the receive buffer (R191). -/
structure Request where
  tag : Byte
  payload : List Byte
  deriving DecidableEq, Repr

/-- The status of a reply (R197). -/
inductive Status where
  | ok | adjusted | busy | badParam | badLength | unknownRequest | wrongMode | notHeld | tripped | stillActive
  deriving DecidableEq, Repr

/-- A reply in the queue (R191). -/
structure Reply where
  tag : Byte
  code : Byte
  status : Status
  results : List Byte
  deriving DecidableEq, Repr

/-- How far a SOFT RESET request has come (R195): `waiting` for its reply to be sent, `due` once it has. -/
inductive SoftReset where
  | none | waiting | due
  deriving DecidableEq, Repr

/-- The bench link (R188 to R195). -/
structure Link where
  baud : Nat
  rx : Receiver
  buffer : List Request
  replies : List Reply
  tx : Option (List Byte)
  lhold : Bool
  txLastByte : Bool
  errors : Nat
  overruns : Nat
  reportSeq : Byte
  notices : Half
  noticeDue : Bool
  interval : Nat
  noticeTimer : Timer
  softReset : SoftReset
  deriving DecidableEq, Repr

/-- The state of the part. -/
structure State where
  ch0 : Channel
  ch1 : Channel
  rules : List Entry
  images : List Image
  log : Log
  tick : Tick
  cmpA : Compare
  cmpB : Compare
  trigIn : TrigIn
  trigOut : TrigOut
  routes : List Route
  monitor : Monitor
  engine : Engine
  supply : Supply
  link : Link
  inReset : Bool
  freeIx : Nat
  pending : List Instr
  deriving DecidableEq, Repr

/-! ### The values after power-on reset -/

/-- The default settings of a channel (section 1.6). -/
def ChanSettings.default : ChanSettings :=
  { requested := .monitor, defaultAction := .forward, defaultRecord := true, rate := 100, lowShare := 50,
    dStretchLimit := 25, stuckLimit := 35, holdTimeout := 5000, busFreeTime := 100, consoleBlocking := false,
    nackCounting := .byte, fallbackOnDegrade := true, returnOnRecover := false }

/-- No line pulled low. -/
def Lines.released : Lines := ⟨⟨false, false⟩, ⟨false, false⟩⟩

/-- No measurement running. -/
def Meters.stopped : Meters := ⟨none, none, none, none, none, none, none⟩

/-- All ten counters at 0 (R153). -/
def Stats.zero : Stats := ⟨0, 0, 0, 0, 0, 0, 0, 0, 0, 0⟩

/-- A channel's health after reset (R143). -/
def Health.reset : Health :=
  { misframes := 0, cleanRun := 0, degraded := false, stuckC := false, stuckD := false, owed := false,
    busClear := none, lastClear := .none, running := .zero, snapshot := .zero }

/-- An arbiter after reset (R164). -/
def Arbiter.reset : Arbiter := ⟨.none, .none, false, false⟩

/-- A channel after reset in mode `mode` (R19, R45), with its input lines as `ext` says. The plan is the one
R35 gives for the defaults: L = 240, H = 240. -/
def Channel.reset (mode : Mode) (ext : Lines) : Channel :=
  { settings := .default, mode := mode, fallback := false, sync := .unknown, phase := .free, seenFree := false,
    cFree := false, dFree := false, freePoint := false, byteOpen := false, curByte := 0, noted := false,
    highPhase := false, highData := false, dataTold := false,
    ext := ext, pull := .released, meters := .stopped, grantWait := none, grantLimitTaken := false,
    plan := ⟨240, 240⟩, latched := none, dOp := .idle, dSpan := 0, arb := .reset, deferred := [],
    nextAct := none, startTick := 0, exch := none, giving := none, bitsOut := 0, console := [], hold := none,
    park := false, health := .reset }

/-- An entry after reset (R46). -/
def Entry.reset : Entry := ⟨.empty, none, 0, 0, 0⟩

/-- An image after reset (R69). -/
def Image.reset : Image :=
  { size := 256, writeTime := 0, protect := 0, contents := [], pointer := 0, busyUntil := none, writeCount := 0 }

/-- The log after reset, with the given last stamp (R126). -/
def Log.reset (lastStamp : Tick) : Log :=
  { records := [], lastStamp := lastStamp, crossings := 0, markNeeded := true, gateOpen := true, wrap := false,
    gapCount := 0, dropped := 0, overwritten := 0, window := 0, stream := false }

/-- A compare slot after reset (R130). -/
def Compare.reset : Compare := ⟨1000, 0, none, 0⟩

/-- The TRIG-IN unit after reset (R134), with its pin as `level` says. -/
def TrigIn.reset (level : Bool) : TrigIn := ⟨.off, level, 0, 0⟩

/-- The TRIG-OUT unit after reset (R135). -/
def TrigOut.reset : TrigOut := ⟨false, 10, none⟩

/-- A route after reset (R137). -/
def Route.reset : Route := ⟨false, none, none, none, 0⟩

/-- The shared part of the health monitor after reset (R143, R155). -/
def Monitor.reset : Monitor :=
  { degrade := 8, clear := 24, recover := 24, period := 1000, timer := some ⟨0, 1000000⟩, expiryDue := false,
    snapTime := 0, snapNumber := 0 }

/-- The engine after reset (R175). -/
def Engine.reset : Engine := ⟨[], none, none, [], []⟩

/-- The supply settings' defaults (R177). -/
def SupplySettings.default : SupplySettings := ⟨50, 64, 50, true, true, 10⟩

/-- The supply controller after power-on reset (R176), with OCSENSE as `ocsense` says. -/
def Supply.reset (ocsense : Bool) : Supply :=
  { state := .off, tripCount := 0, tripTime := 0, lastCause := .none, lastStop := .none, settings := .default,
    claims := ⟨false, false, false, false⟩, settleTimer := none, quiesceTimer := none, filterTimer := none,
    pulseTimer := none, ocsense := ocsense }

/-- The receiver after reset (R190). -/
def Receiver.reset : Receiver := ⟨.hunt, [], [], 0, none⟩

/-- The link after reset (R189, R190, R193), with its rate and its LHOLD pin. -/
def Link.reset (baud : Nat) (lhold : Bool) : Link :=
  { baud := baud, rx := .reset, buffer := [], replies := [], tx := none, lhold := lhold, txLastByte := false,
    errors := 0, overruns := 0, reportSeq := 0, notices := 0, noticeDue := false, interval := 10,
    noticeTimer := ⟨0, 10000⟩, softReset := .none }

/-- The part right after power-on reset: RESETN released with both rate straps low, no line of a bus pulled
low by others, TRIGIN low, OCSENSE inactive, LHOLD released (log entry 27), the supply OFF with
follow-supply yes, so both channels ISOLATED (R19). -/
def State.reset : State :=
  { ch0 := .reset .isolated .released, ch1 := .reset .isolated .released,
    rules := List.replicate 32 .reset, images := List.replicate 4 .reset, log := .reset 0, tick := 0,
    cmpA := .reset, cmpB := .reset, trigIn := .reset false, trigOut := .reset,
    routes := List.replicate 8 .reset, monitor := .reset, engine := .reset, supply := .reset false,
    link := .reset 115200 false, inReset := false, freeIx := 0, pending := [] }

end Sys2Proof.Machine
end

