-- ==== Sys2Proof/Machine/Operands.lean ====
section
/-! DEFINITION. The operand forms of the commands: the encodings of R196 and R197, both ways. Encoders write
the results of a reply and the bytes of a record; decoders read the parameters of a request into a command. -/

namespace Sys2Proof.Machine

/-! ### Numbers and choices -/

/-- A one-byte field. -/
def le8 (n : Nat) : List Byte := [BitVec.ofNat 8 n]

/-- A two-byte field, low byte first (R196). -/
def le16 (n : Nat) : List Byte := [BitVec.ofNat 8 n, BitVec.ofNat 8 (n / 256)]

/-- A three-byte field, low byte first (R197, the delta of a record). -/
def le24 (n : Nat) : List Byte := [BitVec.ofNat 8 n, BitVec.ofNat 8 (n / 256), BitVec.ofNat 8 (n / 65536)]

/-- A four-byte field, low byte first (R196). -/
def le32 (n : Nat) : List Byte :=
  [BitVec.ofNat 8 n, BitVec.ofNat 8 (n / 256), BitVec.ofNat 8 (n / 65536), BitVec.ofNat 8 (n / 16777216)]

/-- A yes/no field: no = 0, yes = 1 (R196). -/
def yesNo (b : Bool) : List Byte := [if b then 1 else 0]

/-- An optional field: a presence byte, then the field when it is present (R196). -/
def optField (o : Option (List Byte)) : List Byte :=
  match o with
  | none => [0]
  | some bytes => 1 :: bytes

/-- The `n` lowest bytes of a set of positions, low byte first (R196, protect set). -/
def setBytes (n : Nat) (v : Nat) : List Byte := (List.range n).map fun i => BitVec.ofNat 8 (v / 256 ^ i)

/-- A yes/no byte read back; a byte outside the list is none. -/
def boolOf (b : Byte) : Option Bool := if b = 0 then some false else if b = 1 then some true else none

/-- The channel a channel byte names (R15). -/
def chanOf (b : Byte) : Option Chan := if b = 0 then some .c0 else if b = 1 then some .c1 else none

/-- A channel's number. -/
def chanCode : Chan → Byte
  | .c0 => 0
  | .c1 => 1

/-! ### Named values, by their place in the list of their rule (R196) -/

def Mode.code : Mode → Byte
  | .monitor => 0
  | .active => 1
  | .isolated => 2

def modeOf (n : Nat) : Option Mode :=
  match n with
  | 0 => some .monitor
  | 1 => some .active
  | 2 => some .isolated
  | _ => none

def DefaultAction.code : DefaultAction → Byte
  | .forward => 0
  | .deny => 1

def NackCounting.code : NackCounting → Byte
  | .byte => 0
  | .exchange => 1

def Sync.code : Sync → Byte
  | .unknown => 0
  | .synced => 1

/-- The channel phase codes of R196. -/
def Phase.code : Phase → Byte
  | .free => 0
  | .address => 1
  | .decide => 2
  | .grantWait => 3
  | .dAddress => 4
  | .held => 5
  | .relayWrite => 6
  | .relayRead => 7
  | .localAnswer => 8
  | .refused => 9
  | .observing => 10

def Dir.code : Dir → Byte
  | .write => 0
  | .read => 1

def ackCode : AckBit → Byte
  | .ack => 0
  | .nack => 1

def Disposition.code : Disposition → Byte
  | .observed => 0
  | .forwarded => 1
  | .emulated => 2
  | .console => 3
  | .denied => 4
  | .busy => 5

def EndKind.code : EndKind → Byte
  | .stop => 0
  | .restart => 1
  | .aborted => 2

def HoldCause.code : HoldCause → Byte
  | .released => 0
  | .timeout => 1
  | .abandoned => 2

/-- The codes of a disposition applied (R197): FORWARD 0, DENY 1, CONSOLE 2, CONTINUE 3, EMULATE k 8 + k. Replies that
carry a disposition use the same codes (log entry 18). -/
def Planned.code : Planned → Byte
  | .forward => 0
  | .deny => 1
  | .console => 2
  | .resume => 3
  | .emulate k => BitVec.ofNat 8 (8 + k.val)

/-- The applied disposition NONE of an abandoned hold is 4 (R197). -/
def appliedCode : Option Planned → Byte
  | none => 4
  | some p => p.code

def HoldTimeout.code : HoldTimeout → Byte
  | .forward => 0
  | .deny => 1
  | .planned => 2

def TimeoutAction.code : TimeoutAction → Byte
  | .forward => 0
  | .deny => 1

/-- The origin entry of a hold: k, or 254 for PARK (R101). -/
def HoldOrigin.code : HoldOrigin → Byte
  | .entryAddress k => BitVec.ofNat 8 k
  | .entryIndex k => BitVec.ofNat 8 k
  | .park => 254

/-- The stage of a hold: ADDRESS 0, INDEX 1 (R197). -/
def HoldOrigin.stage : HoldOrigin → Byte
  | .entryIndex _ => 1
  | _ => 0

def DirMatch.code : DirMatch → Byte
  | .write => 0
  | .read => 1
  | .either => 2

def AddrAction.code : AddrAction → Byte
  | .forward => 0
  | .emulate _ => 1
  | .deny => 2
  | .hold _ => 3
  | .console => 4

def IndexAction.code : IndexAction → Byte
  | .pass => 0
  | .hold _ => 1
  | .deny => 2

def SupplyState.code : SupplyState → Byte
  | .off => 0
  | .ramping => 1
  | .on => 2
  | .stopping => 3
  | .tripped => 4

def TripCause.code : TripCause → Byte
  | .none => 0
  | .overcurrent => 1
  | .test => 2

def StopResult.code : StopResult → Byte
  | .none => 0
  | .quiesced => 1
  | .limit => 2

def ClearResult.code : ClearResult → Byte
  | .none => 0
  | .cleared => 1
  | .failed => 2
  | .abandoned => 3

def EdgeSel.code : EdgeSel → Byte
  | .off => 0
  | .rise => 1
  | .fall => 2
  | .both => 3

def edgeSelOf (b : Byte) : Option EdgeSel :=
  match b.toNat with
  | 0 => some .off
  | 1 => some .rise
  | 2 => some .fall
  | 3 => some .both
  | _ => none

/-- The source codes of R197. -/
def Source.code : Source → Byte
  | .rule => 1
  | .compareA => 2
  | .compareB => 3
  | .trigIn => 4
  | .holdStart => 5
  | .fault => 6
  | .jobEnd => 7

def sourceOf (b : Byte) : Option Source :=
  match b.toNat with
  | 1 => some .rule
  | 2 => some .compareA
  | 3 => some .compareB
  | 4 => some .trigIn
  | 5 => some .holdStart
  | 6 => some .fault
  | 7 => some .jobEnd
  | _ => none

/-- The route action codes, LOG_OPEN 1 to RESET_PULSE 10 (R197). -/
def RouteAction.code : RouteAction → Byte
  | .logOpen => 1
  | .logClose => 2
  | .park0 => 3
  | .park1 => 4
  | .pulseOut => 5
  | .toggleOut => 6
  | .snapshot => 7
  | .armA => 8
  | .armB => 9
  | .resetPulse => 10

def routeActionOf (b : Byte) : Option RouteAction :=
  match b.toNat with
  | 1 => some .logOpen
  | 2 => some .logClose
  | 3 => some .park0
  | 4 => some .park1
  | 5 => some .pulseOut
  | 6 => some .toggleOut
  | 7 => some .snapshot
  | 8 => some .armA
  | 9 => some .armB
  | 10 => some .resetPulse
  | _ => none

/-- A route's qualifier: ANY is 255 (R196). -/
def Qualifier.code : Qualifier → Byte
  | .any => 255
  | .entry k => BitVec.ofNat 8 k

def JobKind.code : JobKind → Byte
  | .write => 0
  | .read => 1
  | .check => 2

def jobKindOf (b : Byte) : Option JobKind :=
  match b.toNat with
  | 0 => some .write
  | 1 => some .read
  | 2 => some .check
  | _ => none

/-- The engine phase codes, in the order of R161; IDLE is 0. -/
def JobPhase.code : JobPhase → Byte
  | .write => 1
  | .poll => 2
  | .verify => 3
  | .read => 4
  | .check => 5
  | .ending => 6

def JobOutcome.code : JobOutcome → Byte
  | .done => 0
  | .failed => 1
  | .aborted => 2

/-- The JOB cause codes of R197. -/
def JobCause.code : JobCause → Byte
  | .none => 0
  | .addressNack => 1
  | .dataNack => 2
  | .arbLost => 3
  | .pollTimeout => 4
  | .verifyMismatch => 5
  | .stuck => 6
  | .hostAbort => 7
  | .fault => 8
  | .mode => 9
  | .supplyOff => 10

/-- The status codes of R197. -/
def Status.code : Status → Byte
  | .ok => 0
  | .adjusted => 1
  | .busy => 2
  | .badParam => 3
  | .badLength => 4
  | .unknownRequest => 5
  | .wrongMode => 6
  | .notHeld => 7
  | .tripped => 8
  | .stillActive => 9

/-! ### Records (R106, R197) -/

/-- The bytes of a record's body (R197). -/
def Body.bytes : Body → List Byte
  | .exchange b =>
    le8 b.address.toNat ++ [b.direction.code, b.disposition.code] ++ le8 (b.entry.getD 255)
      ++ [ackCode b.ack, b.endKind.code] ++ le16 b.duration ++ le16 b.count ++ le16 (b.firstNack.getD 65535)
      ++ le8 b.repeats ++ b.shown
  | .console text => text
  | .hold origin address direction byte =>
    [origin.code, origin.stage] ++ le8 address.toNat ++ [direction.code, byte]
  | .holdEnd applied cause heldMs => [appliedCode applied, cause.code] ++ le32 heldMs
  | .event e =>
    match e with
    | .mode m => [1, m.code]
    | .degraded d => 2 :: yesNo d
    | .stuckC d => 3 :: yesNo d
    | .stuckD d => 4 :: yesNo d
    | .supply st => [5, st.code]
  | .trigger source entry => source.code :: le8 (entry.getD 255)
  | .timeMark count => le32 count.toNat
  | .gap lost => le16 lost
  | .job id outcome cause done failing => [id, outcome.code, cause.code] ++ le16 done ++ le32 failing

/-- The kind codes of R106. -/
def Body.kind : Body → Byte
  | .exchange _ => 1
  | .console _ => 2
  | .hold .. => 3
  | .holdEnd .. => 4
  | .event _ => 5
  | .trigger .. => 6
  | .timeMark _ => 7
  | .gap _ => 8
  | .job .. => 9

/-- The body length of a record (R106, R107). -/
def Body.length : Body → Nat
  | .exchange b => 13 + b.shown.length
  | .console text => text.length
  | .hold .. => 5
  | .holdEnd .. => 6
  | .event _ => 2
  | .trigger .. => 2
  | .timeMark _ => 4
  | .gap _ => 2
  | .job .. => 9

/-- A record's length: the six-byte header and the body (R106). -/
def Record.length (r : Record) : Nat := 6 + r.body.length

/-- A record as the report frame carries it (R197). -/
def Record.bytes (r : Record) : List Byte :=
  [r.body.kind, match r.chan with | none => 255 | some ch => chanCode ch] ++ le24 r.delta ++ le8 r.body.length
    ++ r.body.bytes

/-! ### Reading parameters (R191, R196) -/

/-- A reader of a request's parameters: the bytes left, or the status that refuses the request. -/
abbrev Wire := StateT (List Byte) (Except Status)

/-- The next byte; a payload that ends early is BAD_LENGTH. -/
def wByte : Wire Byte := fun bytes =>
  match bytes with
  | [] => .error .badLength
  | b :: rest => .ok (b, rest)

/-- A two-byte field. -/
def wHalf : Wire Half := do
  let lo ← wByte
  let hi ← wByte
  return hi ++ lo

/-- A four-byte field. -/
def wWord : Wire Word := do
  let lo ← wHalf
  let hi ← wHalf
  return hi ++ lo

/-- An optional field; a presence byte that is neither 0 nor 1 is a byte outside its list (log entry 19). -/
def wOpt {α : Type} (field : Wire α) : Wire (Option α) := do
  let p ← wByte
  if p = 0 then return none
  else if p = 1 then do
    let v ← field
    return some v
  else fun _ => .error .badParam

/-- The data bytes to the end of the payload. -/
def wRest : Wire (List Byte) := fun bytes => .ok (bytes, [])

/-- The protect set: 32 bytes, low byte first. -/
def wSet : Nat → Wire Nat
  | 0 => return 0
  | n + 1 => do
    let b ← wByte
    let v ← wSet n
    return b.toNat + 256 * v

/-- The pairs of a setting list. A setting number outside the table has no width, so the list ends with it
(log entry 19). -/
def settingPairs (width : Byte → Option Nat) : List Byte → Except Status (List (Byte × Half))
  | [] => .ok []
  | k :: rest =>
    match width k with
    | none => .ok [(k, 0)]
    | some n =>
      match rest with
      | [] => .error .badLength
      | a :: rest1 =>
        if n = 1 then
          match settingPairs width rest1 with
          | .ok l => .ok ((k, a.setWidth 16) :: l)
          | .error e => .error e
        else
          match rest1 with
          | [] => .error .badLength
          | b :: rest2 =>
            match settingPairs width rest2 with
            | .ok l => .ok ((k, b ++ a) :: l)
            | .error e => .error e

/-- A setting list, which runs to the end of the payload. -/
def wSettings (width : Byte → Option Nat) : Wire (List (Byte × Half)) := fun bytes =>
  match settingPairs width bytes with
  | .ok l => .ok (l, [])
  | .error e => .error e

/-- Widths of the SET CHANNEL settings: rate, hold timeout and bus-free time take two bytes (section 1.6). -/
def channelWidth (k : Byte) : Option Nat :=
  if 13 ≤ k.toNat then none else if k = 3 ∨ k = 7 ∨ k = 8 then some 2 else some 1

/-- Widths of the LOG CONFIG settings (R123). -/
def logWidth (k : Byte) : Option Nat := if 4 ≤ k.toNat then none else if k = 1 then some 2 else some 1

/-- Widths of the HEALTH CONFIG settings (R157). -/
def healthWidth (k : Byte) : Option Nat := if 4 ≤ k.toNat then none else if k = 3 then some 2 else some 1

/-- Widths of the SUPPLY CONFIG settings (R177). -/
def supplyWidth (k : Byte) : Option Nat :=
  if 6 ≤ k.toNat then none else if k = 3 ∨ k = 4 then some 1 else some 2

/-- The contents of a WRITE RULE: the fields of R47 in its order, then those R48 adds (log entry 15). -/
def wRule : Wire RawRule := do
  let kind ← wByte
  let enabled ← wByte
  let channels ← wByte
  let address ← wByte
  let addressMask ← wByte
  let direction ← wByte
  let action ← wByte
  let image ← wOpt wByte
  let timeout ← wOpt wByte
  let record ← wByte
  let trigger ← wByte
  let oneshot ← wByte
  let passCount ← wHalf
  let indexValue ← wOpt wByte
  let indexMask ← wOpt wByte
  return { kind, enabled, channels, address, addressMask, direction, action, image, timeout, record, trigger,
           oneshot, passCount, indexValue, indexMask }

/-- The fields of a JOB START in the order of R161. -/
def wJob : Wire RawJob := do
  let id ← wByte
  let kind ← wByte
  let channel ← wByte
  let device ← wByte
  let width ← wByte
  let page ← wHalf
  let start ← wHalf
  let length ← wHalf
  let staging ← wOpt wHalf
  let pollLimit ← wOpt wByte
  let verify ← wOpt wByte
  let holdReset ← wOpt wByte
  return { id, kind, channel, device, width, page, start, length, staging, pollLimit, verify, holdReset }

/-- The parameters of the request with code `code`, read into its command; `none` for a code outside the
request code table (R197). -/
def requestParams (tag : Byte) (code : Nat) : Option (Wire Instr) :=
  match code with
  | 0x01 => some (return .identify tag)
  | 0x02 => some (return .softReset tag)
  | 0x03 => some (return .noticeNow tag)
  | 0x04 => some (return .linkConfig tag (← wHalf))
  | 0x10 => some (return .setChannel tag (← wByte) (← wSettings channelWidth))
  | 0x11 => some (return .getChannel tag (← wByte))
  | 0x12 => some (return .channelReset tag (← wByte))
  | 0x20 => some (return .writeRule tag (← wByte) (← wRule))
  | 0x21 => some (return .eraseRule tag (← wByte))
  | 0x22 => some (return .readRule tag (← wByte))
  | 0x23 => some (return .rearm tag (← wByte) (← wByte))
  | 0x24 => some (return .enableRule tag (← wByte))
  | 0x25 => some (return .disableRule tag (← wByte))
  | 0x30 => some (return .imageConfig tag (← wByte) (← wHalf) (← wByte))
  | 0x31 => some (return .imageWrite tag (← wByte) (← wByte) (← wRest))
  | 0x32 => some (return .imageRead tag (← wByte) (← wByte) (← wHalf) (← wByte))
  | 0x33 => some (return .imageProtect tag (← wByte) (BitVec.ofNat 256 (← wSet 32)))
  | 0x38 => some (return .release tag (← wByte) (← wByte))
  | 0x39 => some (return .park tag (← wByte) (← wByte))
  | 0x3A => some (return .holdStatus tag (← wByte))
  | 0x40 => some (return .logConfig tag (← wSettings logWidth))
  | 0x41 => some (return .logRead tag (← wHalf))
  | 0x42 => some (return .logClear tag (← wByte))
  | 0x43 => some (return .logStatus tag)
  | 0x50 => some (return .timeRead tag)
  | 0x51 => some (return .timeSet tag (← wWord))
  | 0x52 => some (return .compareConfig tag (← wByte) (← wWord) (← wWord))
  | 0x53 => some (return .compareArm tag (← wByte))
  | 0x54 => some (return .compareDisarm tag (← wByte))
  | 0x55 => some (return .trigInConfig tag (← wByte) (← wByte))
  | 0x56 => some (return .trigOut tag (← wByte) (← wOpt wHalf))
  | 0x57 => some (return .routeWrite tag (← wByte) (← wByte) (← wByte) (← wOpt wByte) (← wByte))
  | 0x58 => some (return .routeRead tag (← wByte) (← wByte))
  | 0x59 => some (return .triggerStatus tag)
  | 0x60 => some (return .busClear tag (← wByte))
  | 0x61 => some (return .healthConfig tag (← wSettings healthWidth))
  | 0x62 => some (return .healthStatus tag (← wByte))
  | 0x63 => some (return .statsSnapshot tag)
  | 0x64 => some (return .statsRead tag (← wByte))
  | 0x70 => some (return .stageWrite tag (← wHalf) (← wRest))
  | 0x71 => some (return .stageRead tag (← wHalf) (← wHalf))
  | 0x72 => some (return .stageCheck tag (← wHalf) (← wHalf))
  | 0x73 => some (return .jobStart tag (← wJob))
  | 0x74 => some (return .jobAbort tag)
  | 0x75 => some (return .jobStatus tag)
  | 0x80 => some (return .supplyConfig tag (← wSettings supplyWidth))
  | 0x81 => some (return .powerOn tag)
  | 0x82 => some (return .powerOff tag)
  | 0x83 => some (return .clearTrip tag)
  | 0x84 => some (return .tripTest tag)
  | 0x85 => some (return .resetAssert tag)
  | 0x86 => some (return .resetRelease tag)
  | 0x87 => some (return .resetPulse tag (← wOpt wHalf))
  | 0x88 => some (return .supplyStatus tag)
  | _ => none

/-- What the link's checks make of a payload: the command, or the request code and status of the refusal
(R191). -/
def requestOf (tag : Byte) (payload : List Byte) : Except (Byte × Status) Instr :=
  match payload with
  | [] => .error (0, .badLength)
  | code :: params =>
    match requestParams tag code.toNat with
    | none => .error (code, .unknownRequest)
    | some reader =>
      match reader params with
      | .ok (i, []) => .ok i
      | .ok (_, _ :: _) => .error (code, .badLength)
      | .error status => .error (code, status)

end Sys2Proof.Machine
end

