-- ==== Sys2Proof/Machine/Ops.lean ====
section
/-! DEFINITION. The named operations the blocks share: buffers, measurements, channels and their lines, the
target mode, the clock plan and the D-side arbiter's grant. -/

namespace Sys2Proof.Machine

/-! ### Buffers: sparse, in canonical form (R69, R158) -/

/-- The byte at an address; an address with no pair reads as the reset byte 0xFF. -/
def memRead : Mem → Nat → Byte
  | [], _ => 0xFF
  | (k, v) :: rest, a => if k = a then v else memRead rest a

/-- One byte written, keeping the canonical form: writing 0xFF leaves no pair. -/
def memWrite : Mem → Nat → Byte → Mem
  | [], a, b => if b = 0xFF then [] else [(a, b)]
  | (k, v) :: rest, a, b =>
    if a < k then (if b = 0xFF then (k, v) :: rest else (a, b) :: (k, v) :: rest)
    else if a = k then (if b = 0xFF then rest else (a, b) :: rest)
    else (k, v) :: memWrite rest a b

/-- Bytes written from an address onward, in order. -/
def memWriteList (m : Mem) (a : Nat) : List Byte → Mem
  | [] => m
  | b :: rest => memWriteList (memWrite m a b) (a + 1) rest

/-- `n` bytes from an address onward. -/
def memReadList (m : Mem) (a : Nat) : Nat → List Byte
  | 0 => []
  | n + 1 => memRead m a :: memReadList m (a + 1) n

/-- The canonical form from address `lo` on: rising addresses, no pair at the reset byte. -/
def memWfFrom : Nat → Mem → Bool
  | _, [] => true
  | lo, (k, v) :: rest => decide (lo ≤ k) && decide (v ≠ 0xFF) && memWfFrom (k + 1) rest

/-- A buffer is in canonical form. -/
def memWf (m : Mem) : Bool := memWfFrom 0 m

/-! ### Measurements -/

/-- Milliseconds in μs. -/
def ms (n : Nat) : Nat := n * 1000

/-- A measurement that begins now. -/
def startTimer (limit : Nat) : Timer := ⟨0, limit⟩

/-- A running measurement has reached its limit (log entry 6). -/
def timerDue (t : Option Timer) : Bool :=
  match t with
  | none => false
  | some t => decide (t.limit ≤ t.elapsed)

/-- A running measurement has gone on for longer than its limit (R149, R150). -/
def timerPast (t : Option Timer) : Bool :=
  match t with
  | none => false
  | some t => decide (t.limit < t.elapsed)

/-- The time a running measurement has left. -/
def timerLeft (t : Timer) : Nat := t.limit - t.elapsed

/-- `n` ticks more. -/
def timerAdd (n : Nat) (t : Timer) : Timer := { t with elapsed := t.elapsed + n }

/-- A measurement that runs exactly while `run` holds; one already running keeps its limit (R16). -/
def keepTimer (run : Bool) (limit : Nat) (t : Option Timer) : Option Timer :=
  if run then some (t.getD ⟨0, limit⟩) else none

/-- The tick count has come to `deadline` or is less than half a wrap past it (R127, log entry 6). -/
def reached (now deadline : Tick) : Bool := decide ((now - deadline).toNat < 2147483648)

/-! ### Channels -/

/-- A channel of the state. -/
def State.chan (s : State) : Chan → Channel
  | .c0 => s.ch0
  | .c1 => s.ch1

/-- A channel replaced. -/
def State.setChan (s : State) (ch : Chan) (c : Channel) : State :=
  match ch with
  | .c0 => { s with ch0 := c }
  | .c1 => { s with ch1 := c }

/-- A channel changed by `f`. -/
def State.onChan (s : State) (ch : Chan) (f : Channel → Channel) : State := s.setChan ch (f (s.chan ch))

/-- The other channel. -/
def other : Chan → Chan
  | .c0 => .c1
  | .c1 => .c0

/-- `f` on both channels. Where the manual lets the two come in either order and both are to be acted on
(`both`), the order is a free value (log entry 13); otherwise channel 0 first. -/
def State.onBoth (s : State) (both : Bool) (f : Chan → State → State) : State :=
  if both then
    let s' := { s with freeIx := s.freeIx + 1 }
    if Config.channelOneFirst s.freeIx then f .c0 (f .c1 s') else f .c1 (f .c0 s')
  else f .c1 (f .c0 s)

/-- A programming job runs on the channel (R163). -/
def State.jobOn (s : State) (ch : Chan) : Bool :=
  match s.engine.job with
  | none => false
  | some j => decide (j.chan = ch)

/-- A channel's target mode (R8). -/
def State.target (s : State) (ch : Chan) : Mode :=
  if s.supply.state = .tripped then .isolated
  else if s.supply.settings.follow = true ∧ (s.supply.state = .off ∨ s.supply.state = .ramping) then .isolated
  else
    match (s.chan ch).settings.requested with
    | .isolated => .isolated
    | .monitor => .monitor
    | .active => if (s.chan ch).fallback then .monitor else .active

/-- A channel's bypass switch is closed (R2). -/
def State.bypassClosed (s : State) (ch : Chan) : Bool := s.inReset || decide ((s.chan ch).mode = .monitor)

/-- What the part pulls low of the C-side lines: in the clock-high after a sampled bit not yet what it pulls from the
falling edge on (R21, log entry 8). -/
def Channel.cPull (c : Channel) : Pair :=
  if c.highPhase then ⟨false, c.highData⟩ else c.pull.c

/-! ### Lines (R1, R2, section 1.1). A line is low when the part or another party pulls it low; a closed bypass
switch joins the two sides into one bus. -/

/-- The C-side lines that the part or another party pulls low. -/
def Channel.cSide (c : Channel) : Pair := ⟨c.cPull.clock || c.ext.c.clock, c.cPull.data || c.ext.c.data⟩

/-- The D-side lines that the part or another party pulls low. -/
def Channel.dSide (c : Channel) : Pair := ⟨c.pull.d.clock || c.ext.d.clock, c.pull.d.data || c.ext.d.data⟩

/-- CnCK is low. -/
def State.cClockLow (s : State) (ch : Chan) : Bool :=
  (s.chan ch).cSide.clock || (s.bypassClosed ch && (s.chan ch).dSide.clock)

/-- CnDA is low. -/
def State.cDataLow (s : State) (ch : Chan) : Bool :=
  (s.chan ch).cSide.data || (s.bypassClosed ch && (s.chan ch).dSide.data)

/-- DnCK is low. -/
def State.dClockLow (s : State) (ch : Chan) : Bool :=
  (s.chan ch).dSide.clock || (s.bypassClosed ch && (s.chan ch).cSide.clock)

/-- DnDA is low. -/
def State.dDataLow (s : State) (ch : Chan) : Bool :=
  (s.chan ch).dSide.data || (s.bypassClosed ch && (s.chan ch).cSide.data)

/-- The part generates clock pulses on the D-side, and so waits for DnCK to go high (R40, R151). -/
def Channel.generating (c : Channel) : Bool := decide (c.dOp ≠ .idle) || c.health.busClear.isSome

/-- The low phase a pulse of a bus clear begins with, in μs rounded up: DnCK is low under the part's own drive (R151,
log entry 41). -/
def BusClear.lead (b : BusClear) : Nat := (b.plan.low + 47) / 48

/-- The limit of a measurement of high D-side lines that begins now (R5, R150): the bus-free time, after what is left
of the low phase of a bus clear's pulse. -/
def Channel.dLimit (c : Channel) : Nat :=
  match c.health.busClear with
  | none => c.settings.busFreeTime
  | some b => (b.lead - b.since) + c.settings.busFreeTime

/-- A bus clear makes its STOP, which pulls both D-side lines low (R151). -/
def Channel.clearStopping (c : Channel) : Bool :=
  match c.health.busClear with
  | none => false
  | some b => b.stopping

/-- The measurements of a channel on its lines, each started, kept or cancelled as its rule says:
bus-free time of each side (R5), clearing of STUCK_D (R150), stuck lines (R149, R150), D-stretch (R40). The two
measurements of high D-side lines run in the pulses of a bus clear too, each pulse beginning them anew (log entry
41). A low on DnCK cancels the measurement of a stuck data line, which asks for DnCK high (log entry 42). In the clock-high of a sampled bit CnCK is not yet known
to have fallen, and the part may be the one that then pulls it, so no measurement of a stuck CnCK runs (log entry 8). -/
def State.metersNow (s : State) (ch : Chan) : Meters :=
  let c := s.chan ch
  let free := c.settings.busFreeTime
  let stuck := ms c.settings.stuckLimit
  let cHigh := !s.cClockLow ch && !s.cDataLow ch
  let dHigh := !s.dClockLow ch && !s.dDataLow ch
  let noGrant := decide (c.arb.holder = .none)
  let dRests := dHigh && noGrant && !c.clearStopping
  let watchD := decide (c.mode = .active)
    || (decide (c.mode = .isolated) && decide (s.target ch = .monitor))
  let watchC := decide (c.mode ≠ .isolated) && c.hold.isNone
  { cIdle := keepTimer cHigh free c.meters.cIdle
    dIdle := keepTimer (dRests && watchD) c.dLimit c.meters.dIdle
    dClear := keepTimer dRests c.dLimit c.meters.dClear
    stuckClock := keepTimer (watchC && s.cClockLow ch && !c.cPull.clock && !c.highPhase) stuck c.meters.stuckClock
    stuckData := keepTimer (watchC && s.cDataLow ch && !c.cPull.data) stuck c.meters.stuckData
    stuckD := keepTimer
      (decide (c.mode = .active) && noGrant && c.health.busClear.isNone && s.dDataLow ch && !s.dClockLow ch) stuck
      c.meters.stuckD
    dStretch := keepTimer (c.generating && s.dClockLow ch) (ms c.settings.dStretchLimit) c.meters.dStretch }

/-- The measurements of a channel brought up to date with its lines. -/
def State.retime (s : State) (ch : Chan) : State :=
  s.onChan ch fun c => { c with meters := s.metersNow ch }

/-- Both channels' measurements brought up to date. -/
def State.retimeAll (s : State) : State := (s.retime .c0).retime .c1

/-- What others pull low after an event of the C-side, or of the joined bus (log entry 7): CnCK as `clock` says; a
data line that BUS_LINE_CHANGE told low stays so where the event leaves it low (`low`), and is released otherwise. -/
def Channel.shownLines (c : Channel) (clock low : Bool) : Lines :=
  { c := ⟨clock, c.ext.c.data && low⟩
    d := if c.mode = .monitor then ⟨false, c.ext.d.data && low⟩ else c.ext.d }

/-- An event of the C-side traffic, with the lines as it shows them: the clock was high at it, and so was CnDA but where
the event leaves it low (R5, R149, log entry 7). -/
def Channel.trafficC (c : Channel) (clock low : Bool) : Channel :=
  { c with
    ext := c.shownLines clock low, dataTold := false
    meters := { c.meters with
      cIdle := none, stuckClock := none, stuckData := if low then c.meters.stuckData else none } }

/-- A bit of the C-side is sampled at a rising edge: the clock is high until the controller's falling edge, and what
the part pulls CnDA to for this bit stands till then (R4, R21, log entry 8). `low` is that the event leaves CnDA low. -/
def Channel.sampleC (c : Channel) (low : Bool) : Channel :=
  { c.trafficC true low with highPhase := true, highData := c.pull.c.data }

/-- The byte the C-side data line carried: a bit the part pulls low is low (R1, R28, R73). -/
def Channel.lineByte (c : Channel) (byte : Byte) : Byte := byte &&& c.giving.getD 0xFF

/-- A byte leaves CnDA low as it was told (R149, log entry 7): its last bit is a 0, and either all of them are, or CnDA was
told low inside the byte, after its last 1. -/
def Channel.staysLow (c : Channel) (byte : Byte) : Bool :=
  !(c.lineByte byte).getLsbD 0 && (c.dataTold || decide (c.lineByte byte = 0))

/-- The eighth bit of a byte is sampled. -/
def Channel.sampleByte (c : Channel) (byte : Byte) : Channel := c.sampleC (c.staysLow byte)

/-- The part gives its answer on the C-side (R21): CnDA pulled low for an ACK, released for a NACK, and the
clock released. -/
def Channel.answer (c : Channel) (bit : AckBit) : Channel :=
  { c with pull := { c.pull with c := ⟨false, decide (bit = .ack)⟩ } }

/-- The part stretches the C-side clock (R21), from the controller's falling edge on. -/
def Channel.stretch (c : Channel) : Channel :=
  { c with pull := { c.pull with c := ⟨true, false⟩ } }

/-- Both C-side lines released from the falling edge on, as after a ninth bit (R21). -/
def Channel.restC (c : Channel) : Channel := { c with pull := { c.pull with c := ⟨false, false⟩ } }

/-- Both C-side lines released at once. -/
def Channel.releaseC (c : Channel) : Channel := { c.restC with highData := false }

/-- Both D-side lines released. -/
def Channel.releaseD (c : Channel) : Channel := { c with pull := { c.pull with d := ⟨false, false⟩ } }

/-- The part begins an operation on the D-side that takes `span` reference cycles; DnCK is its own to pulse. -/
def Channel.beginD (c : Channel) (op : DOp) (span : Nat) : Channel :=
  { c with dOp := op, dSpan := span, pull := { c.pull with d := ⟨false, false⟩ } }

/-- The part holds DnCK low with DnDA released (R24, R28, R30). -/
def Channel.restD (c : Channel) : Channel :=
  { c with dOp := .idle, dSpan := 0, pull := { c.pull with d := ⟨true, false⟩ } }

/-! ### Bus-free points (R5, R6, R7) -/

/-- The C-side, or the joined bus, becomes free: a bus-free point (R5), which sets sync outside ISOLATED (R7). -/
def Channel.cFreePoint (c : Channel) : Channel :=
  { c with cFree := true, freePoint := true, sync := if c.mode = .isolated then c.sync else .synced }

/-- The D-side becomes free, which sets the seen-free flag in ACTIVE. -/
def Channel.dFreePoint (c : Channel) : Channel :=
  { c with dFree := true, seenFree := if c.mode = .active then true else c.seenFree }

/-! ### The D-side clock plan (R35 to R39) -/

/-- The plan of a rate in kHz and a low share in percent (R35). -/
def planOf (rate share : Nat) : Plan :=
  let p := (96000 + rate) / (2 * rate)
  let low := (p * share + 99) / 100
  ⟨max low Config.minPhase, max (p - low) Config.minPhase⟩

/-- The achieved rate of a plan in Hz (R35). -/
def Plan.achieved (p : Plan) : Nat := 48000000 / (p.low + p.high)

/-- One bit with no device stretch. -/
def Plan.bit (p : Plan) : Nat := p.low + p.high

/-- A pulse begun from DnCK held low, with a data change first (R37). -/
def Plan.heldPulse (p : Plan) : Nat := (p.low - p.low / 2) + p.high

/-- START (R39), then the nine bits of the address byte. -/
def Plan.startAddress (p : Plan) : Nat := p.high + 9 * p.bit

/-- Sr from DnCK held low (R39), then the nine bits of the address byte. -/
def Plan.restartAddress (p : Plan) : Nat := p.heldPulse + p.high + 9 * p.bit

/-- A relayed write byte with its acknowledge bit, from DnCK held low. R37 counts half a low phase before a data change,
and gives a first bit equal to the line, which DnDA released makes a 1, no data change; the example of chapter 2 counts
30 + 60 cycles for its byte whatever the bit. The model always counts the data change (log entry 9). -/
def Plan.writeByte (p : Plan) : Nat := p.heldPulse + 8 * p.bit

/-- The first byte of a read, without its ninth pulse: its first bit is released at once. -/
def Plan.firstReadByte (p : Plan) : Nat := p.high + 7 * p.bit

/-- A later byte of a read, without its ninth pulse. -/
def Plan.nextReadByte (p : Plan) : Nat := 8 * p.bit

/-- STOP from DnCK held low (R39); the ninth pulse of a read takes the same. -/
def Plan.heldStop (p : Plan) : Nat := p.heldPulse

/-- An engine transaction of `bytes` bytes with `restarts` Sr (R166), from START to STOP. -/
def Plan.unitSpan (p : Plan) (bytes restarts : Nat) : Nat :=
  p.high + 9 * bytes * p.bit + restarts * (p.bit + p.high) + p.bit

/-- The plan in use on a D-side: the latched one (R36). -/
def Channel.inUse (c : Channel) : Plan := c.latched.getD c.plan

/-! ### The D-side arbiter (R164, R165) -/

/-- The D-side is grantable. -/
def Channel.grantable (c : Channel) : Bool :=
  decide (c.arb.holder = .none) && c.seenFree && c.health.busClear.isNone

/-- The relay holds the D-side and is not closing it: a grant it may go on with (R23, R33). -/
def Channel.relayOpen (c : Channel) : Bool :=
  decide (c.arb.holder = .relay)
    && (match c.dOp with
        | .stop _ => false
        | .closing _ => false
        | _ => true)

/-- The relay is granted: it latches the plan, issues its START and sends the address (R24, R36). -/
def Channel.grantRelay (c : Channel) : Channel :=
  { c.beginD .address c.plan.startAddress with
    arb := { c.arb with holder := .relay, last := .relay, relayWaits := false }
    latched := some c.plan, dFree := false, phase := .dAddress, grantWait := none, grantLimitTaken := false }

/-- The engine is granted: it latches the plan and issues the START of its unit (R36, R166). -/
def Channel.grantEngine (c : Channel) (bytes restarts : Nat) : Channel :=
  { c.beginD .unit (c.plan.unitSpan bytes restarts) with
    arb := { c.arb with holder := .engine, last := .engine, engineWaits := false }
    latched := some c.plan, dFree := false }

/-- The holder stops driving the D-side and gives the grant up (R165). -/
def Channel.giveUp (c : Channel) : Channel :=
  { c.releaseD with dOp := .idle, dSpan := 0, arb := { c.arb with holder := .none } }

/-- The holder's STOP is complete: a D-side bus-free point, and the grant is given up (R33, R39). -/
def Channel.stopMade (c : Channel) : Channel := c.giveUp.dFreePoint

/-- The grant is lost with no STOP: the D-side is not seen free (R40, R41). -/
def Channel.dropGrant (c : Channel) : Channel := { c.giveUp with seenFree := false, dFree := false }

/-- The relay begins its closing STOP (R26, R33); `same` as in `DOp`. -/
def Channel.beginStop (c : Channel) (same : Bool) : Channel := c.beginD (.stop same) c.inUse.heldStop

/-- The relay closes the D-side as R14 gives for a misframe, unless it is closing it already; `same` as in `DOp`. -/
def Channel.closeD (c : Channel) (same : Bool) : Channel :=
  if c.relayOpen then c.beginD (.closing same) c.inUse.heldStop else c

/-- A closing operation of a C-side transaction that has ended belongs to no exchange any more (R33, log
entry 25). -/
def DOp.disown : DOp → DOp
  | .stop _ => .stop false
  | .closing _ => .closing false
  | op => op

/-- The relay is closing the grant of an earlier exchange of the C-side transaction in progress (R14, R26, R32). -/
def Channel.closesHere (c : Channel) : Bool :=
  decide (c.arb.holder = .relay) && (match c.dOp with
    | .stop same => same
    | .closing same => same
    | _ => false)

/-! ### Answers to requests (R191) -/

/-- What an owner block answers: a status and, when it is no refusal, the results. -/
structure Answer where
  status : Status
  results : List Byte
  deriving DecidableEq, Repr

/-- Accepted, with results. -/
def okWith (results : List Byte) : Answer := ⟨.ok, results⟩

/-- Accepted; ADJUSTED when a value was clamped (R15). -/
def okOrAdjusted (adjusted : Bool) (results : List Byte) : Answer := ⟨if adjusted then .adjusted else .ok, results⟩

/-- Refused: a refusal carries no results (R191). -/
def refuse (status : Status) : Answer := ⟨status, []⟩

/-- Dispatch may take a request: a free place in the reply queue, no SOFT RESET waiting, no power-on reset
(R191, R195). -/
def State.canTake (s : State) : Bool :=
  !s.inReset && decide (s.link.replies.length < Config.replyPlaces) && decide (s.link.softReset = .none)

/-- A reply joins the queue (R192). -/
def State.reply (s : State) (tag code : Byte) (a : Answer) : State :=
  { s with link := { s.link with replies := s.link.replies ++ [⟨tag, code, a.status, a.results⟩] } }

/-- A request taken by its owner block and answered (R191). A request that dispatch cannot take now is not
taken: nothing changes (log entry 2). -/
def State.serve (s : State) (tag code : Byte) (owner : State → State × Answer) : State :=
  if s.canTake then
    let r := owner s
    r.1.reply tag code r.2
  else s

end Sys2Proof.Machine
end

