-- ==== Sys2Proof/Machine/Flags.lean ====
section
/-! DEFINITION. The flags the part raises for the bench computer: the notice word (R193, R197), with the
suppression of health notices (R148), and the levels it derives. -/

namespace Sys2Proof.Machine

/-- The eleven used positions of the notice word (R197). -/
inductive Notice where
  | hold0 | hold1 | job | supply | health0 | health1 | logfill | logloss | trigin | stats | link
  deriving DecidableEq, Repr

/-- A notice's position (R197). -/
def Notice.bit : Notice → Nat
  | .hold0 => 0
  | .hold1 => 1
  | .job => 2
  | .supply => 3
  | .health0 => 4
  | .health1 => 5
  | .logfill => 6
  | .logloss => 7
  | .trigin => 8
  | .stats => 9
  | .link => 10

/-- The notice word with a position set; one already set stays set (R193). -/
def raiseIn (word : Half) (n : Notice) : Half := word ||| BitVec.ofNat 16 (2 ^ n.bit)

/-- A notice is set. -/
def Link.noticed (l : Link) (n : Notice) : Bool := l.notices.getLsbD n.bit

/-- A notice raised (R193). -/
def State.raise (s : State) (n : Notice) : State := { s with link := { s.link with notices := raiseIn s.link.notices n } }

/-- A notice raised when `b` holds. -/
def State.raiseIf (s : State) (b : Bool) (n : Notice) : State := if b then s.raise n else s

/-- HOLD0 or HOLD1. -/
def holdNotice : Chan → Notice
  | .c0 => .hold0
  | .c1 => .hold1

/-- HEALTH0 or HEALTH1. -/
def healthNotice : Chan → Notice
  | .c0 => .health0
  | .c1 => .health1

/-- The supply trip is latched (R176). -/
def State.tripLatch (s : State) : Bool := decide (s.supply.state = .tripped)

/-- No HEALTHn notice for a change of DEGRADED (R148). -/
def State.quietDegraded (s : State) (ch : Chan) : Bool :=
  s.tripLatch || (s.chan ch).health.stuckC || (s.chan ch).health.stuckD

/-- PWREN closes the switch (R176). -/
def Supply.switchClosed (p : Supply) : Bool :=
  decide (p.state = .ramping ∨ p.state = .on ∨ p.state = .stopping)

/-- TRST is asserted while a claim is present (R185). -/
def Claims.asserted (c : Claims) : Bool := c.host || c.pulse || c.ramp || c.job

/-- The TRIGOUT pin is high (R135). -/
def TrigOut.pin (t : TrigOut) : Bool := t.timer.isSome || t.stored

/-- LBUSY is asserted (R188). -/
def Link.lbusy (l : Link) : Bool := decide (Config.receivePlaces ≤ l.buffer.length)

end Sys2Proof.Machine
end

