-- ==== Sys2Proof/Machine/Log.lean ====
section
/-! DEFINITION. The capture log (chapter 6): taking a record handed to it, coalescing, full policies, draining,
and the four log requests. -/

namespace Sys2Proof.Machine

/-! ### The store (R105) -/

/-- The bytes a list of records takes. -/
def bytesOf : List Record → Nat
  | [] => 0
  | r :: rest => r.length + bytesOf rest

/-- The log's occupancy. -/
def Log.occupancy (l : Log) : Nat := bytesOf l.records

/-- The log's free space. -/
def Log.space (l : Log) : Nat := Config.logCapacity - l.occupancy

/-- The gate stops the record (R110): EXCHANGE and CONSOLE records only. -/
def Log.gated (l : Log) (body : Body) : Bool :=
  !l.gateOpen && (match body with
    | .exchange _ => true
    | .console _ => true
    | _ => false)

/-- Every body field but the repeat and the duration is the same (R119). -/
def sameExchange (a b : ExchangeBody) : Bool :=
  decide ({ a with duration := b.duration, repeats := b.repeats } = b)

/-- The last record of a list with its repeat raised by 1 (R120). -/
def raiseRepeat : List Record → List Record
  | [] => []
  | [r] =>
    match r.body with
    | .exchange b => [{ r with body := .exchange { b with repeats := b.repeats + 1 } }]
    | _ => [r]
  | r :: r' :: rest => r :: raiseRepeat (r' :: rest)

/-- The coalescing test (R119). The newest record's stamp is the last stamp. -/
def Log.coalesces (l : Log) (now : Tick) (chan : Option Chan) (body : Body) : Bool :=
  match body, l.records.getLast? with
  | .exchange new, some old =>
    match old.body with
    | .exchange b =>
      decide (0 < l.window) && decide (old.chan = chan) && sameExchange b new && decide (b.repeats < 255)
        && decide (l.gapCount = 0) && !l.markNeeded
        && decide ((now - l.lastStamp).toNat ≤ ms l.window)
    | _ => false
  | _, _ => false

/-- The oldest records removed until `need` bytes fit (R116), with the number removed. -/
def makeRoom (need : Nat) : List Record → List Record × Nat
  | [] => ([], 0)
  | r :: rest =>
    if need + bytesOf (r :: rest) ≤ Config.logCapacity then (r :: rest, 0)
    else
      let m := makeRoom need rest
      (m.1, m.2 + 1)

/-- The bytes needed for a record (R109, step 4). -/
def Log.needs (l : Log) (body : Body) : Nat :=
  (6 + body.length) + (if l.markNeeded || decide (0 < l.gapCount) then 10 else 0)
    + (if 0 < l.gapCount then 8 else 0)

/-- What is written for a record (R109, step 6; R111, R113, R115): the GAP record that is due, the TIME_MARK
that is needed, and the record. -/
def Log.written (l : Log) (now : Tick) (chan : Option Chan) (body : Body) : List Record :=
  (if 0 < l.gapCount then [⟨none, 0, .gap l.gapCount⟩] else [])
    ++ (if l.markNeeded || decide (0 < l.gapCount) then
          [⟨none, 0, .timeMark now⟩, ⟨chan, 0, body⟩]
        else [⟨chan, (now - l.lastStamp).toNat, body⟩])

/-- What taking a record did, for the notices of R117 and R118. -/
structure LogTake where
  log : Log
  loss : Bool
  fill : Bool
  deriving DecidableEq, Repr

/-- Step 3 of R109: a delta too long for the header sets the mark-needed flag. -/
def Log.stamped (l : Log) (now : Tick) : Log :=
  { l with markNeeded := l.markNeeded || decide (Config.maxDelta < (now - l.lastStamp).toNat) }

/-- A drop under policy STOP (R114). -/
def Log.dropOne (l : Log) : Log :=
  { l with gapCount := satAdd max16 l.gapCount 1, dropped := satAdd max32 l.dropped 1 }

/-- Steps 6 and 7 of R109 after room has been made, the records then being `kept`. -/
def Log.write (l : Log) (kept : List Record) (now : Tick) (chan : Option Chan) (body : Body) : Log :=
  { l with records := kept ++ l.written now chan body, lastStamp := now, crossings := 0, markNeeded := false,
           gapCount := 0 }

/-- The log takes a record handed to it, whole (R109). -/
def Log.take (l : Log) (now : Tick) (chan : Option Chan) (body : Body) : LogTake :=
  if l.gated body then ⟨l, false, false⟩
  else if l.coalesces now chan body then ⟨{ l with records := raiseRepeat l.records }, false, false⟩
  else
    let l1 := l.stamped now
    if l1.needs body ≤ l1.space then
      let l2 := l1.write l1.records now chan body
      ⟨l2, false, decide (l.occupancy < Config.logFillLevel ∧ Config.logFillLevel ≤ l2.occupancy)⟩
    else if l1.wrap then
      let room := makeRoom (l1.needs body) l1.records
      let l2 := { l1.write room.1 now chan body with overwritten := satAdd max32 l1.overwritten room.2 }
      ⟨l2, true, decide (l.occupancy < Config.logFillLevel ∧ Config.logFillLevel ≤ l2.occupancy)⟩
    else ⟨l1.dropOne, true, false⟩

/-- A block hands a record to the log (R109), with LOGLOSS (R117) and LOGFILL (R118). -/
def State.hand (s : State) (chan : Option Chan) (body : Body) : State :=
  let t := s.log.take s.tick chan body
  (({ s with log := t.log } : State).raiseIf t.loss .logloss).raiseIf t.fill .logfill

/-- An EVENT record (R108). -/
def State.event (s : State) (chan : Option Chan) (e : Event) : State := s.hand chan (.event e)

/-! ### Draining (R121, R122) -/

/-- The oldest whole records that fit together in `room` bytes, and the rest. -/
def takeFitting (room : Nat) : List Record → List Record × List Record
  | [] => ([], [])
  | r :: rest =>
    if r.length ≤ room then
      let t := takeFitting (room - r.length) rest
      (r :: t.1, t.2)
    else ([], r :: rest)

/-- The bytes of records in order. -/
def recordBytes (l : List Record) : List Byte := (l.map Record.bytes).flatten

/-! ### The log requests -/

/-- The four log settings as LOG CONFIG and LOG STATUS return them (R123). STREAM's list is "on, off". -/
def Log.settingBytes (l : Log) : List Byte :=
  [if l.wrap then 1 else 0] ++ le16 l.window ++ [if l.stream then 0 else 1, if l.gateOpen then 0 else 1]

/-- No setting number twice in a list. -/
def noRepeat : List (Byte × Half) → Bool
  | [] => true
  | p :: rest => rest.all (fun q => decide (q.1 ≠ p.1)) && noRepeat rest

/-- One log setting applied; an unknown setting or an enumerated value outside its list is none (R123). -/
def logSetting (l : Log) (p : Byte × Half) : Option Log :=
  match p.1.toNat, p.2.toNat with
  | 0, 0 => some { l with wrap := false }
  | 0, 1 => some { l with wrap := true }
  | 1, v => some { l with window := v }
  | 2, 0 => some { l with stream := true }
  | 2, 1 => some { l with stream := false }
  | 3, 0 => some { l with gateOpen := true }
  | 3, 1 => some { l with gateOpen := false }
  | _, _ => none

/-- A list of settings applied in turn, each by `one`; none when one of them is refused. -/
def applyAll {α : Type} (one : α → Byte × Half → Option α) (x : α) : List (Byte × Half) → Option α
  | [] => some x
  | p :: rest =>
    match one x p with
    | none => none
    | some y => applyAll one y rest

/-- LOG CONFIG (R123). -/
def ownLogConfig (settings : List (Byte × Half)) (s : State) : State × Answer :=
  if settings = [] ∨ noRepeat settings = false then (s, refuse .badParam)
  else
    match applyAll logSetting s.log settings with
    | none => (s, refuse .badParam)
    | some l => ({ s with log := l }, okWith l.settingBytes)

/-- LOG READ (R122). Where both refusals apply, for which R122 gives no order, the parameter's comes first (log
entry 52). -/
def ownLogRead (maxBytes : Half) (s : State) : State × Answer :=
  if maxBytes.toNat = 0 ∨ Config.reportLimit < maxBytes.toNat then (s, refuse .badParam)
  else if s.log.stream then (s, refuse .wrongMode)
  else
    let t := takeFitting maxBytes.toNat s.log.records
    let l := { s.log with records := t.2 }
    ({ s with log := l }, okWith (le8 t.1.length ++ recordBytes t.1 ++ le16 l.occupancy))

/-- LOG CLEAR (R124); a choice byte that is neither yes nor no is refused (R196). -/
def ownLogClear (counts : Byte) (s : State) : State × Answer :=
  match boolOf counts with
  | none => (s, refuse .badParam)
  | some zero =>
    let l := { s.log with records := [], gapCount := 0, markNeeded := true }
    ({ s with log := if zero then { l with dropped := 0, overwritten := 0 } else l }, okWith [])

/-- LOG STATUS (R125). -/
def ownLogStatus (s : State) : State × Answer :=
  let l := s.log
  (s, okWith (le16 l.occupancy ++ le16 l.space ++ le16 l.records.length ++ l.settingBytes ++ yesNo l.markNeeded
    ++ le32 l.lastStamp.toNat ++ le16 l.gapCount ++ le32 l.dropped ++ le32 l.overwritten))

/-- LOG_CONFIG (R123). -/
def execLogConfig (tag : Byte) (settings : List (Byte × Half)) (s : State) :
    Host.Outcome State Fault Refusal := .next (s.serve tag 0x40 (ownLogConfig settings))

/-- LOG_READ (R122). -/
def execLogRead (tag : Byte) (maxBytes : Half) (s : State) : Host.Outcome State Fault Refusal :=
  .next (s.serve tag 0x41 (ownLogRead maxBytes))

/-- LOG_CLEAR (R124). -/
def execLogClear (tag counts : Byte) (s : State) : Host.Outcome State Fault Refusal :=
  .next (s.serve tag 0x42 (ownLogClear counts))

/-- LOG_STATUS (R125). -/
def execLogStatus (tag : Byte) (s : State) : Host.Outcome State Fault Refusal :=
  .next (s.serve tag 0x43 ownLogStatus)

end Sys2Proof.Machine
end

