-- ==== Sys2Proof/Machine/Triggers.lean ====
section
/-! DEFINITION. The timebase and the trigger router (chapter 7), with the statistics snapshot (R155) and the
reset pulse (R186) that a route may start. -/

namespace Sys2Proof.Machine

/-! ### Actions other blocks own -/

/-- A statistics snapshot of both channels (R155): copied, timed, numbered, zeroed, STATS raised; the period
timer restarts. An expiry of that timer which falls together with it keeps its own snapshot to come (log entry 50). -/
def State.snapshotNow (s : State) : State :=
  let take (c : Channel) : Channel :=
    { c with health := { c.health with snapshot := c.health.running, running := .zero } }
  ({ s with
      ch0 := take s.ch0
      ch1 := take s.ch1
      monitor := { s.monitor with
        snapTime := s.tick
        snapNumber := s.monitor.snapNumber + 1
        timer := if s.monitor.period = 0 then none else some (startTimer (ms s.monitor.period))
        expiryDue := s.monitor.expiryDue || timerDue s.monitor.timer } } :
    State).raise .stats

/-- The park flag set, unless the channel is ISOLATED (R102, R140). -/
def State.setPark (s : State) (ch : Chan) : State :=
  if (s.chan ch).mode = .isolated then s else s.onChan ch fun c => { c with park := true }

/-- The PULSE claim placed and the pulse timer started or restarted for the stored width (R186). -/
def Supply.startPulse (p : Supply) : Supply :=
  { p with claims := { p.claims with pulse := true }, pulseTimer := some (startTimer (ms p.settings.pulseWidth)) }

/-- A compare slot armed at `now` (R131). -/
def Compare.arm (c : Compare) (now : Tick) : Compare := { c with target := some (now + BitVec.ofNat 32 c.delay) }

/-- A slot of the state. -/
def State.compare (s : State) : CompareSlot → Compare
  | .slotA => s.cmpA
  | .slotB => s.cmpB

/-- A slot replaced. -/
def State.setCompare (s : State) (slot : CompareSlot) (c : Compare) : State :=
  match slot with
  | .slotA => { s with cmpA := c }
  | .slotB => { s with cmpB := c }

/-- TRIG-OUT, operation LOW or HIGH (R135). -/
def TrigOut.set (t : TrigOut) (high : Bool) : TrigOut := { t with stored := high, timer := none }

/-- TRIG-OUT, operation PULSE (R135, R136). -/
def TrigOut.pulse (t : TrigOut) : TrigOut := { t with timer := some (startTimer t.width) }

/-- TRIG-OUT, operation TOGGLE: the inverse of the pin's present level (R135, R136). -/
def TrigOut.toggle (t : TrigOut) : TrigOut := { t with stored := !t.pin, timer := none }

/-! ### The router (R137 to R140) -/

/-- A route's qualifier admits the occurrence (R138). -/
def Route.admits (r : Route) (entry : Option Nat) : Bool :=
  match entry with
  | none => true
  | some k => decide (r.qualifier = some .any ∨ r.qualifier = some (.entry k))

/-- A route fits an occurrence (R138); `entry` is the index a RULE occurrence carries. -/
def Route.fits (r : Route) (source : Source) (entry : Option Nat) : Bool :=
  r.enabled && decide (r.source = some source) && r.admits entry

/-- A route's action taken (R140). -/
def State.act (s : State) (a : Option RouteAction) : State :=
  match a with
  | none => s
  | some .logOpen => { s with log := { s.log with gateOpen := true } }
  | some .logClose => { s with log := { s.log with gateOpen := false } }
  | some .park0 => s.setPark .c0
  | some .park1 => s.setPark .c1
  | some .pulseOut => { s with trigOut := s.trigOut.pulse }
  | some .toggleOut => { s with trigOut := s.trigOut.toggle }
  | some .snapshot => s.snapshotNow
  | some .armA => s.setCompare .slotA (s.cmpA.arm s.tick)
  | some .armB => s.setCompare .slotB (s.cmpB.arm s.tick)
  | some .resetPulse => { s with supply := s.supply.startPulse }

/-- The routes after an occurrence: the fire count of each fitting one raised by 1 (R139). -/
def fireRoutes (source : Source) (entry : Option Nat) (l : List Route) : List Route :=
  l.map fun r => if r.fits source entry then { r with fires := satAdd max16 r.fires 1 } else r

/-- The router takes an occurrence whole (R139): one TRIGGER record, then each fitting route in ascending
index. No action changes a route, so the counts are raised together. -/
def State.occur (s : State) (source : Source) (entry : Option Nat) : State :=
  let fitting := s.routes.filter (fun r => r.fits source entry)
  if fitting = [] then s
  else
    let s1 := s.hand none (.trigger source entry)
    let s2 := { s1 with routes := fireRoutes source entry s1.routes }
    fitting.foldl (fun s r => s.act r.action) s2

/-! ### The tick count (R127 to R129) -/

/-- How often a tick count passes a multiple of 2^24 in its next `n` ticks (R112). -/
def passages (t : Tick) (n : Nat) : Nat := (t.toNat + n) / 16777216 - t.toNat / 16777216

/-- The log over `n` ticks: the crossing count, and the mark-needed flag when it comes to 2 (R112). -/
def Log.pass (l : Log) (t : Tick) (n : Nat) : Log :=
  let crossings := satAdd 2 l.crossings (passages t n)
  { l with crossings := crossings,
           markNeeded := l.markNeeded || (decide (l.crossings < 2) && decide (crossings = 2)) }

/-- A channel's measurements over `n` ticks. -/
def Meters.pass (m : Meters) (n : Nat) : Meters :=
  { cIdle := m.cIdle.map (timerAdd n), dIdle := m.dIdle.map (timerAdd n), dClear := m.dClear.map (timerAdd n),
    stuckClock := m.stuckClock.map (timerAdd n), stuckData := m.stuckData.map (timerAdd n),
    stuckD := m.stuckD.map (timerAdd n), dStretch := m.dStretch.map (timerAdd n) }

/-- A channel over `n` ticks; with time passing it stands at a bus-free point no longer. -/
def Channel.pass (c : Channel) (n : Nat) : Channel :=
  { c with
    meters := c.meters.pass n
    grantWait := c.grantWait.map (timerAdd n)
    hold := c.hold.map fun h => { h with elapsed := h.elapsed + n }
    freePoint := if n = 0 then c.freePoint else false
    health := { c.health with busClear := c.health.busClear.map fun b => { b with since := b.since + n } } }

/-- The supply controller's counts over `n` ticks. -/
def Supply.pass (p : Supply) (n : Nat) : Supply :=
  { p with
    settleTimer := p.settleTimer.map (timerAdd n), quiesceTimer := p.quiesceTimer.map (timerAdd n)
    filterTimer := p.filterTimer.map (timerAdd n), pulseTimer := p.pulseTimer.map (timerAdd n) }

/-- The link's measurements over `n` ticks. -/
def Link.pass (l : Link) (n : Nat) : Link :=
  { l with rx := { l.rx with timer := l.rx.timer.map (timerAdd n) }, noticeTimer := timerAdd n l.noticeTimer }

/-- The running job over `n` ticks. -/
def Engine.pass (e : Engine) (n : Nat) : Engine :=
  { e with job := e.job.map fun j => { j with pollTimer := j.pollTimer.map (timerAdd n) } }

/-- `n` ticks pass (R127). -/
def State.pass (s0 : State) (n : Nat) : State :=
  let s := s0.retimeAll
  { s with
    tick := s.tick + BitVec.ofNat 32 n
    log := s.log.pass s.tick n
    ch0 := s.ch0.pass n
    ch1 := s.ch1.pass n
    trigOut := { s.trigOut with timer := s.trigOut.timer.map (timerAdd n) }
    monitor := { s.monitor with timer := s.monitor.timer.map (timerAdd n) }
    engine := s.engine.pass n
    supply := s.supply.pass n
    link := s.link.pass n }

/-- What is kept to the end of a D-side bit, its tick count moved by a TIME SET (R129). -/
def Kept.shift (d : Tick) : Kept → Kept
  | .cond k inByte time => .cond k inByte (time + d)
  | .address byte => .address byte

/-- A channel's stored tick counts moved by a TIME SET (R129, R93): the hold's start and deadline and the
start of the exchange, the one whose address byte is still coming included. -/
def Channel.shift (c : Channel) (d : Tick) : Channel :=
  { c with
    hold := c.hold.map fun h => { h with start := h.start + d, deadline := h.deadline.map (· + d) }
    exch := c.exch.map fun e => { e with startTime := e.startTime + d }
    deferred := c.deferred.map (Kept.shift d)
    startTick := c.startTick + d }

/-- A slot's target moved by a TIME SET (R129). -/
def Compare.shift (c : Compare) (d : Tick) : Compare := { c with target := c.target.map (· + d) }

/-- A BUSY image's until-time moved by a TIME SET (R129). -/
def Image.shift (i : Image) (d : Tick) : Image := { i with busyUntil := i.busyUntil.map (· + d) }

/-- TICK (R127): `count` ticks in a row with nothing between them (log entry 4). -/
def execTick (count : Nat) (s : State) : Host.Outcome State Fault Refusal :=
  if s.inReset then .next s else .next (s.pass count)

/-- TIME READ (R128). -/
def ownTimeRead (s : State) : State × Answer := (s, okWith (le32 s.tick.toNat))

/-- TIME SET (R128, R129). -/
def ownTimeSet (count : Word) (s : State) : State × Answer :=
  let d := count - s.tick
  ({ s with
      tick := count
      ch0 := s.ch0.shift d
      ch1 := s.ch1.shift d
      cmpA := s.cmpA.shift d
      cmpB := s.cmpB.shift d
      images := s.images.map (fun i => i.shift d)
      log := { s.log with markNeeded := true, crossings := 0 } },
    okWith (le32 s.tick.toNat ++ le32 count.toNat))

/-- TIME_READ (R128). -/
def execTimeRead (tag : Byte) (s : State) : Host.Outcome State Fault Refusal :=
  .next (s.serve tag 0x50 ownTimeRead)

/-- TIME_SET (R128). -/
def execTimeSet (tag : Byte) (count : Word) (s : State) : Host.Outcome State Fault Refusal :=
  .next (s.serve tag 0x51 (ownTimeSet count))

/-! ### Compare slots (R130 to R133) -/

/-- The slot a slot byte names: A 0, B 1 (R196). -/
def slotOf (b : Byte) : Option CompareSlot := if b = 0 then some .slotA else if b = 1 then some .slotB else none

/-- A slot's source (R132). -/
def slotSource : CompareSlot → Source
  | .slotA => .compareA
  | .slotB => .compareB

/-- COMPARE CONFIG (R130). -/
def ownCompareConfig (slot : Byte) (delay period : Word) (s : State) : State × Answer :=
  match slotOf slot with
  | none => (s, refuse .badParam)
  | some sl =>
    let d := clampTo 1 2147483648 delay.toNat
    let p := clampTo 0 16777215 period.toNat
    (s.setCompare sl { s.compare sl with delay := d, period := p },
      okOrAdjusted (decide (d ≠ delay.toNat ∨ p ≠ period.toNat)) [])

/-- COMPARE ARM (R131). -/
def ownCompareArm (slot : Byte) (s : State) : State × Answer :=
  match slotOf slot with
  | none => (s, refuse .badParam)
  | some sl =>
    let c := (s.compare sl).arm s.tick
    (s.setCompare sl c, okWith (le32 ((c.target.getD 0).toNat)))

/-- COMPARE DISARM (R133). -/
def ownCompareDisarm (slot : Byte) (s : State) : State × Answer :=
  match slotOf slot with
  | none => (s, refuse .badParam)
  | some sl =>
    (s.setCompare sl { s.compare sl with target := none }, okWith (yesNo (s.compare sl).target.isSome))

/-- A slot after its firing (R132, steps 1 and 2). -/
def Compare.fired (c : Compare) : Compare :=
  { c with
    fires := satAdd max16 c.fires 1
    target := if c.period = 0 then none else c.target.map (· + BitVec.ofNat 32 c.period) }

/-- The tick count has come to the slot's target (R132). -/
def State.compareDue (s : State) (slot : CompareSlot) : Bool :=
  match (s.compare slot).target with
  | none => false
  | some t => reached s.tick t

/-- COMPARE_FIRE (R132). -/
def execCompareFire (slot : CompareSlot) (s : State) : Host.Outcome State Fault Refusal :=
  if s.inReset = false ∧ s.compareDue slot = true then
    .next ((s.setCompare slot (s.compare slot).fired).occur (slotSource slot) none)
  else .next s

/-- COMPARE_CONFIG (R130). -/
def execCompareConfig (tag slot : Byte) (delay period : Word) (s : State) : Host.Outcome State Fault Refusal :=
  .next (s.serve tag 0x52 (ownCompareConfig slot delay period))

/-- COMPARE_ARM (R131). -/
def execCompareArm (tag slot : Byte) (s : State) : Host.Outcome State Fault Refusal :=
  .next (s.serve tag 0x53 (ownCompareArm slot))

/-- COMPARE_DISARM (R133). -/
def execCompareDisarm (tag slot : Byte) (s : State) : Host.Outcome State Fault Refusal :=
  .next (s.serve tag 0x54 (ownCompareDisarm slot))

/-! ### TRIG-IN (R134) -/

/-- The edge is selected (R134). -/
def EdgeSel.selects (e : EdgeSel) (rising : Bool) : Bool :=
  match e with
  | .off => false
  | .rise => rising
  | .fall => !rising
  | .both => true

/-- TRIG IN CONFIG (R134). -/
def ownTrigInConfig (selection clearCount : Byte) (s : State) : State × Answer :=
  match edgeSelOf selection, boolOf clearCount with
  | some sel, some zero =>
    let t := s.trigIn
    ({ s with trigIn := { t with selection := sel, count := if zero then 0 else t.count } },
      okWith (le32 t.lastEdge.toNat ++ le16 t.count))
  | _, _ => (s, refuse .badParam)

/-- TRIGIN_EDGE (R134). A sample equal to the last level is no edge; during power-on reset only the level is
taken. -/
def execTriginEdge (rising : Bool) (s : State) : Host.Outcome State Fault Refusal :=
  if s.trigIn.level = rising then .next s
  else
    let s1 := { s with trigIn := { s.trigIn with level := rising } }
    if s.inReset = false ∧ s.trigIn.selection.selects rising = true then
      let t := { s1.trigIn with lastEdge := s.tick, count := satAdd max16 s.trigIn.count 1 }
      .next ((({ s1 with trigIn := t } : State).raise .trigin).occur .trigIn none)
    else .next s1

/-- TRIG_IN_CONFIG (R134). -/
def execTrigInConfig (tag selection clearCount : Byte) (s : State) : Host.Outcome State Fault Refusal :=
  .next (s.serve tag 0x55 (ownTrigInConfig selection clearCount))

/-! ### TRIG-OUT (R135, R136) -/

/-- A TRIG OUT operation applied; an operation that is not one of the four is none (R135). -/
def trigOperation (t : TrigOut) (operation : Byte) : Option TrigOut :=
  match operation.toNat with
  | 0 => some (t.set false)
  | 1 => some (t.set true)
  | 2 => some t.pulse
  | 3 => some t.toggle
  | _ => none

/-- TRIG OUT (R135). -/
def ownTrigOut (operation : Byte) (width : Option Half) (s : State) : State × Answer :=
  let w := match width with
    | none => s.trigOut.width
    | some w => max 1 w.toNat
  match trigOperation { s.trigOut with width := w } operation with
  | none => (s, refuse .badParam)
  | some t => ({ s with trigOut := t }, okOrAdjusted (decide (width = some 0)) (yesNo t.pin ++ yesNo t.stored))

/-- TRIG_OUT (R135). -/
def execTrigOut (tag operation : Byte) (width : Option Half) (s : State) : Host.Outcome State Fault Refusal :=
  .next (s.serve tag 0x56 (ownTrigOut operation width))

/-- TRIG_OUT_PULSE_END (R135). -/
def execTrigOutPulseEnd (s : State) : Host.Outcome State Fault Refusal :=
  if s.inReset = false ∧ timerDue s.trigOut.timer = true then
    .next { s with trigOut := { s.trigOut with timer := none } }
  else .next s

/-! ### Routes (R141) and the status request (R142) -/

/-- A route as a ROUTE WRITE carries it; a refused one is none (R141). -/
def routeOf (enabled source : Byte) (qualifier : Option Byte) (action : Byte) : Option Route :=
  match boolOf enabled, sourceOf source, routeActionOf action with
  | some on, some src, some act =>
    match qualifier with
    | none => if src = .rule then none else some ⟨on, some src, none, some act, 0⟩
    | some q =>
      if src ≠ .rule then none
      else if q = 255 then some ⟨on, some src, some .any, some act, 0⟩
      else if q.toNat < 32 then some ⟨on, some src, some (.entry q.toNat), some act, 0⟩
      else none
  | _, _, _ => none

/-- ROUTE WRITE (R141). -/
def ownRouteWrite (index enabled source : Byte) (qualifier : Option Byte) (action : Byte) (s : State) :
    State × Answer :=
  if index.toNat < 8 then
    match routeOf enabled source qualifier action with
    | none => (s, refuse .badParam)
    | some r => ({ s with routes := s.routes.set index.toNat r }, okWith [])
  else (s, refuse .badParam)

/-- A route as a reply carries it (R141). -/
def Route.bytes (r : Route) : List Byte :=
  yesNo r.enabled
    ++ [match r.source with
        | none => 0
        | some x => x.code]
    ++ optField (r.qualifier.map fun q => [q.code])
    ++ [match r.action with
        | none => 0
        | some a => a.code]
    ++ le16 r.fires

/-- ROUTE READ (R141). -/
def ownRouteRead (index clearCount : Byte) (s : State) : State × Answer :=
  match s.routes[index.toNat]?, boolOf clearCount with
  | some r, some zero =>
    ((if zero then { s with routes := s.routes.set index.toNat { r with fires := 0 } } else s), okWith r.bytes)
  | _, _ => (s, refuse .badParam)

/-- A compare slot as TRIGGER STATUS carries it (R142). -/
def Compare.bytes (c : Compare) (now : Tick) : List Byte :=
  le32 c.delay ++ le32 c.period ++ yesNo c.target.isSome ++ optField (c.target.map fun t => le32 t.toNat)
    ++ optField (c.target.map fun t => le32 (t - now).toNat) ++ le16 c.fires

/-- TRIGGER STATUS (R142): the time the pulse timer has left in μs, in two bytes (log entry 47). -/
def ownTriggerStatus (s : State) : State × Answer :=
  (s, okWith (le32 s.tick.toNat ++ s.cmpA.bytes s.tick ++ s.cmpB.bytes s.tick
    ++ [s.trigIn.selection.code] ++ yesNo s.trigIn.level ++ le32 s.trigIn.lastEdge.toNat ++ le16 s.trigIn.count
    ++ yesNo s.trigOut.stored ++ yesNo s.trigOut.pin ++ le16 s.trigOut.width ++ yesNo s.trigOut.timer.isSome
    ++ optField (s.trigOut.timer.map fun t => le16 (timerLeft t))))

/-- ROUTE_WRITE (R141). -/
def execRouteWrite (tag index enabled source : Byte) (qualifier : Option Byte) (action : Byte) (s : State) :
    Host.Outcome State Fault Refusal :=
  .next (s.serve tag 0x57 (ownRouteWrite index enabled source qualifier action))

/-- ROUTE_READ (R141). -/
def execRouteRead (tag index clearCount : Byte) (s : State) : Host.Outcome State Fault Refusal :=
  .next (s.serve tag 0x58 (ownRouteRead index clearCount))

/-- TRIGGER_STATUS (R142). -/
def execTriggerStatus (tag : Byte) (s : State) : Host.Outcome State Fault Refusal :=
  .next (s.serve tag 0x59 ownTriggerStatus)

end Sys2Proof.Machine
end

