-- ==== Sys2Proof/Machine/Rules.lean ====
section
/-! DEFINITION. The rule table (chapter 3): matching, the two scans, references and promotion, and the six
table requests. -/

namespace Sys2Proof.Machine

/-! ### Copies -/

/-- The fields an entry of either kind has; none for EMPTY. -/
def Copy.head : Copy → Option RuleHead
  | .empty => none
  | .address h _ _ => some h
  | .index h _ _ _ => some h

/-- A copy with its enabled field written; EMPTY has none. -/
def Copy.setEnabled (c : Copy) (b : Bool) : Copy :=
  match c with
  | .empty => .empty
  | .address h d a => .address { h with enabled := b } d a
  | .index h v m a => .index { h with enabled := b } v m a

/-- The pass count of a copy; 0 for EMPTY (R61). -/
def Copy.passCount (c : Copy) : Nat :=
  match c.head with
  | none => 0
  | some h => h.passCount

/-! ### Matching (R50) -/

/-- The channel set of an entry holds the channel. -/
def RuleHead.on (h : RuleHead) : Chan → Bool
  | .c0 => h.onC0
  | .c1 => h.onC1

/-- Two values agree at every position that is not in the mask (R50, items 4 and 6). -/
def agrees {w : Nat} (a b mask : BitVec w) : Bool := decide ((a ^^^ b) &&& ~~~mask = 0)

/-- An entry's direction fits (R50, item 5). -/
def DirMatch.fits (m : DirMatch) (d : Dir) : Bool :=
  match m with
  | .write => decide (d = .write)
  | .read => decide (d = .read)
  | .either => true

/-- Items 1, 3 and 4 of R50, which both kinds share. -/
def RuleHead.admits (h : RuleHead) (ch : Chan) (address : BitVec 7) : Bool :=
  h.enabled && h.on ch && agrees h.address address h.addressMask

/-- A candidate of the address-stage scan (R50). -/
def addressCandidate (ch : Chan) (address : BitVec 7) (dir : Dir) (c : Copy) : Bool :=
  match c with
  | .address h d _ => h.admits ch address && d.fits dir
  | _ => false

/-- A candidate of the index-stage scan (R50). -/
def indexCandidate (ch : Chan) (address : BitVec 7) (byte : Byte) (c : Copy) : Bool :=
  match c with
  | .index h v m _ => h.admits ch address && agrees v byte m
  | _ => false

/-! ### The scans (R51, R52, R56) -/

/-- An entry that wins a scan: hit count, ONESHOT, and the exchange's reference (R52, R60). -/
def Entry.won (e : Entry) : Entry :=
  { e with
    hits := satAdd max32 e.hits 1
    refs := e.refs + 1
    live := match e.live.head with
      | none => e.live
      | some h => if h.oneshot then e.live.setEnabled false else e.live }

/-- An entry that a scan passes (R51, step 2). -/
def Entry.passed (e : Entry) : Entry := { e with remaining := e.remaining - 1 }

/-- What a scan leaves: the table, and the winner with its live copy as the scan found it. -/
structure Scan where
  rules : List Entry
  winner : Option (Nat × Copy)
  deriving DecidableEq, Repr

/-- A scan of the entries from index `i` on, in ascending index (R51). -/
def scanFrom (candidate : Copy → Bool) (i : Nat) : List Entry → Scan
  | [] => ⟨[], none⟩
  | e :: rest =>
    if candidate e.live then
      if e.remaining = 0 then ⟨e.won :: rest, some (i, e.live)⟩
      else
        let r := scanFrom candidate (i + 1) rest
        ⟨e.passed :: r.rules, r.winner⟩
    else
      let r := scanFrom candidate (i + 1) rest
      ⟨e :: r.rules, r.winner⟩

/-- The winner's TRIGGER mark raises RULE with its index (R52), after the scan has ended (R54). -/
def State.ruleTrigger (s : State) (winner : Option (Nat × Copy)) : State :=
  match winner with
  | none => s
  | some (k, c) =>
    match c.head with
    | none => s
    | some h => if h.trigger then s.occur .rule (some k) else s

/-- The winner carries RECORD (R58). -/
def recordMark (winner : Option (Nat × Copy)) : Bool :=
  match winner with
  | none => false
  | some (_, c) =>
    match c.head with
    | none => false
    | some h => h.record

/-! ### References and promotion (R60, R61) -/

/-- The pending copy, if any, replaces the live copy (R61). -/
def Entry.promote (e : Entry) : Entry :=
  match e.pending with
  | none => e
  | some c => { live := c, pending := none, remaining := c.passCount, hits := 0, refs := e.refs }

/-- Promotion where the reference count is 0. -/
def Entry.settle (e : Entry) : Entry := if e.refs = 0 then e.promote else e

/-- A reference released (R60, R61). -/
def Entry.release (e : Entry) : Entry := ({ e with refs := e.refs - 1 } : Entry).settle

/-- The entry at an index changed by `f`. -/
def onEntry (f : Entry → Entry) (k : Nat) (l : List Entry) : List Entry := l.modify k f

/-- The reference an exchange holds on an entry is released. -/
def releaseEntry (o : Option Nat) (l : List Entry) : List Entry :=
  match o with
  | none => l
  | some k => onEntry Entry.release k l

/-! ### The contents of a WRITE RULE (R63) -/

/-- A named value in a one-byte field, by its place. -/
def timeoutOf (b : Byte) : Option TimeoutAction :=
  if b = 0 then some .forward else if b = 1 then some .deny else none

/-- The direction field. -/
def dirMatchOf (b : Byte) : Option DirMatch :=
  match b.toNat with
  | 0 => some .write
  | 1 => some .read
  | 2 => some .either
  | _ => none

/-- The image a byte names. -/
def imageOf (b : Byte) : Option (Fin 4) := if h : b.toNat < 4 then some ⟨b.toNat, h⟩ else none

/-- The action of an ADDRESS entry with its image and timeout disposition, each present exactly where R47
says. -/
def addrActionOf (action : Byte) (image timeout : Option Byte) : Option AddrAction :=
  match action.toNat, image, timeout with
  | 0, none, none => some .forward
  | 1, some k, none => (imageOf k).map .emulate
  | 2, none, none => some .deny
  | 3, none, some t => (timeoutOf t).map .hold
  | 4, none, none => some .console
  | _, _, _ => none

/-- The action of an INDEX entry, which has no image field (R48). -/
def indexActionOf (action : Byte) (image timeout : Option Byte) : Option IndexAction :=
  match action.toNat, image, timeout with
  | 0, none, none => some .pass
  | 1, none, some t => (timeoutOf t).map .hold
  | 2, none, none => some .deny
  | _, _, _ => none

/-- The fields both kinds share, where they pass the checks of R63. -/
def ruleHeadOf (r : RawRule) : Option RuleHead :=
  match boolOf r.enabled, boolOf r.record, boolOf r.trigger, boolOf r.oneshot with
  | some enabled, some record, some trigger, some oneshot =>
    if r.channels = 0 ∨ 3 < r.channels.toNat ∨ 127 < r.address.toNat ∨ 127 < r.addressMask.toNat then none
    else
      some { enabled := enabled, onC0 := r.channels.getLsbD 0, onC1 := r.channels.getLsbD 1,
             address := r.address.setWidth 7, addressMask := r.addressMask.setWidth 7, record := record,
             trigger := trigger, oneshot := oneshot, passCount := r.passCount.toNat }
  | _, _, _, _ => none

/-- The contents of an entry, where they pass the checks of R63; none is a refusal. -/
def ruleOf (r : RawRule) : Option Copy :=
  match ruleHeadOf r, r.kind.toNat, r.indexValue, r.indexMask with
  | some h, 0, none, none =>
    match dirMatchOf r.direction, addrActionOf r.action r.image r.timeout with
    | some d, some a => some (.address h d a)
    | _, _ => none
  | some h, 1, some v, some m =>
    if r.direction = 0 then (indexActionOf r.action r.image r.timeout).map (.index h v m) else none
  | _, _, _, _ => none

/-! ### A live copy in a reply (R65), laid out as WRITE RULE carries it (log entry 15) -/

/-- The channel set as a byte. -/
def RuleHead.chanBits (h : RuleHead) : Nat := (if h.onC0 then 1 else 0) + (if h.onC1 then 2 else 0)

/-- The image of an action. -/
def AddrAction.image : AddrAction → Option (Fin 4)
  | .emulate k => some k
  | _ => none

/-- The timeout disposition of an action. -/
def AddrAction.timeout : AddrAction → Option TimeoutAction
  | .hold t => some t
  | _ => none

/-- The timeout disposition of an INDEX action. -/
def IndexAction.timeout : IndexAction → Option TimeoutAction
  | .hold t => some t
  | _ => none

/-- The shared layout of a copy. -/
def copyBytes (kind : Byte) (h : RuleHead) (direction action : Byte) (image : Option (Fin 4))
    (timeout : Option TimeoutAction) (value mask : Option Byte) : List Byte :=
  [kind] ++ yesNo h.enabled ++ le8 h.chanBits ++ le8 h.address.toNat ++ le8 h.addressMask.toNat
    ++ [direction, action] ++ optField (image.map fun k => le8 k.val) ++ optField (timeout.map fun t => [t.code])
    ++ yesNo h.record ++ yesNo h.trigger ++ yesNo h.oneshot ++ le16 h.passCount
    ++ optField (value.map fun v => [v]) ++ optField (mask.map fun m => [m])

/-- A live copy as an optional field: absent when EMPTY (R196). -/
def Copy.bytes : Copy → List Byte
  | .empty => optField none
  | .address h d a => optField (some (copyBytes 0 h d.code a.code a.image a.timeout none none))
  | .index h v m a => optField (some (copyBytes 1 h 0 a.code none a.timeout (some v) (some m)))

/-! ### The six table requests -/

/-- A pending copy set and, where the entry is unreferenced, promoted at once (R62, R64). -/
def writePending (c : Copy) (e : Entry) : Entry := ({ e with pending := some c } : Entry).settle

/-- WRITE RULE (R62, R63). -/
def ownWriteRule (index : Byte) (rule : RawRule) (s : State) : State × Answer :=
  match s.rules[index.toNat]?, ruleOf rule with
  | some e, some c =>
    ({ s with rules := s.rules.set index.toNat (writePending c e) }, okWith (yesNo (decide (e.refs = 0))))
  | _, _ => (s, refuse .badParam)

/-- ERASE RULE (R64). -/
def ownEraseRule (index : Byte) (s : State) : State × Answer :=
  match s.rules[index.toNat]? with
  | none => (s, refuse .badParam)
  | some e =>
    ({ s with rules := s.rules.set index.toNat (writePending .empty e) }, okWith (yesNo (decide (e.refs = 0))))

/-- READ RULE (R65). -/
def ownReadRule (index : Byte) (s : State) : State × Answer :=
  match s.rules[index.toNat]? with
  | none => (s, refuse .badParam)
  | some e =>
    (s, okWith (e.live.bytes ++ le16 e.remaining ++ le32 e.hits ++ le8 e.refs ++ yesNo e.pending.isSome))

/-- An entry rearmed (R66). -/
def Entry.rearm (e : Entry) (zeroHits : Bool) : Entry :=
  { e with live := e.live.setEnabled true, remaining := e.live.passCount, hits := if zeroHits then 0 else e.hits }

/-- REARM (R66). -/
def ownRearm (index zeroHits : Byte) (s : State) : State × Answer :=
  match s.rules[index.toNat]?, boolOf zeroHits with
  | some e, some zero =>
    if e.live = .empty then (s, refuse .badParam)
    else ({ s with rules := s.rules.set index.toNat (e.rearm zero) }, okWith [])
  | _, _ => (s, refuse .badParam)

/-- ENABLE RULE and DISABLE RULE (R67). -/
def ownSetEnabled (index : Byte) (b : Bool) (s : State) : State × Answer :=
  match s.rules[index.toNat]? with
  | none => (s, refuse .badParam)
  | some e =>
    if e.live = .empty then (s, refuse .badParam)
    else ({ s with rules := s.rules.set index.toNat { e with live := e.live.setEnabled b } }, okWith [])

/-- WRITE_RULE (R62). -/
def execWriteRule (tag index : Byte) (rule : RawRule) (s : State) : Host.Outcome State Fault Refusal :=
  .next (s.serve tag 0x20 (ownWriteRule index rule))

/-- ERASE_RULE (R64). -/
def execEraseRule (tag index : Byte) (s : State) : Host.Outcome State Fault Refusal :=
  .next (s.serve tag 0x21 (ownEraseRule index))

/-- READ_RULE (R65). -/
def execReadRule (tag index : Byte) (s : State) : Host.Outcome State Fault Refusal :=
  .next (s.serve tag 0x22 (ownReadRule index))

/-- REARM (R66). -/
def execRearm (tag index zeroHits : Byte) (s : State) : Host.Outcome State Fault Refusal :=
  .next (s.serve tag 0x23 (ownRearm index zeroHits))

/-- ENABLE_RULE (R67). -/
def execEnableRule (tag index : Byte) (s : State) : Host.Outcome State Fault Refusal :=
  .next (s.serve tag 0x24 (ownSetEnabled index true))

/-- DISABLE_RULE (R67). -/
def execDisableRule (tag index : Byte) (s : State) : Host.Outcome State Fault Refusal :=
  .next (s.serve tag 0x25 (ownSetEnabled index false))

end Sys2Proof.Machine
end

