-- ==== Sys2Proof/Machine/Images.lean ====
section
/-! DEFINITION. The image store and the console buffers (chapter 4). -/

namespace Sys2Proof.Machine

/-! ### Images (R69 to R74) -/

/-- An image of the state. -/
def State.image (s : State) (k : Fin 4) : Image := s.images[k.val]?.getD .reset

/-- An image changed by `f`. -/
def State.onImage (s : State) (k : Fin 4) (f : Image → Image) : State :=
  { s with images := s.images.modify k.val f }

/-- The image is BUSY (R69). -/
def Image.busy (i : Image) : Bool := i.busyUntil.isSome

/-- The pointer byte (R72). -/
def Image.point (i : Image) (b : Byte) : Image := { i with pointer := b.toNat % i.size }

/-- The pointer advanced by 1, mod the size. -/
def Image.advance (i : Image) : Image := { i with pointer := (i.pointer + 1) % i.size }

/-- A target byte would land on a protected position (R72). -/
def Image.guarded (i : Image) : Bool := i.protect.getLsbD i.pointer

/-- A later data byte of a target write (R72). -/
def Image.store (i : Image) (b : Byte) : Image :=
  (if i.guarded then i
   else { i with contents := memWrite i.contents i.pointer b, writeCount := satAdd max16 i.writeCount 1 }).advance

/-- The byte a target read is given (R73). -/
def Image.next (i : Image) : Byte := memRead i.contents i.pointer

/-- The write window that begins at `now` (R70): the later of the two ends, as time remaining. An end already
reached, whose expiry has not been taken yet, has no time remaining. -/
def Image.startWindow (i : Image) (now : Tick) : Image :=
  if i.writeTime = 0 then i
  else
    let stop := now + BitVec.ofNat 32 (ms i.writeTime)
    match i.busyUntil with
    | none => { i with busyUntil := some stop }
    | some u =>
      if reached now u = false ∧ (stop - now).toNat < (u - now).toNat then i
      else { i with busyUntil := some stop }

/-- An exchange of either channel is on image k (R75). -/
def State.imageInUse (s : State) (k : Fin 4) : Bool :=
  let on (c : Channel) : Bool :=
    match c.exch with
    | none => false
    | some x => decide (x.onImage = some k)
  on s.ch0 || on s.ch1

/-- IMAGE_WINDOW_EXPIRY (R70). -/
def execImageWindowExpiry (image : Fin 4) (s : State) : Host.Outcome State Fault Refusal :=
  match (s.image image).busyUntil with
  | none => .next s
  | some u =>
    if s.inReset = false ∧ reached s.tick u = true then
      .next (s.onImage image fun i => { i with busyUntil := none })
    else .next s

/-! ### The image requests (R76 to R79) -/

/-- IMAGE CONFIG (R76). -/
def ownImageConfig (image : Byte) (size : Half) (writeTime : Byte) (s : State) : State × Answer :=
  match imageOf image with
  | none => (s, refuse .badParam)
  | some k =>
    if s.imageInUse k then (s, refuse .busy)
    else
      let n := clampTo 1 Config.imageSize size.toNat
      let w := clampTo 0 50 writeTime.toNat
      (s.onImage k fun i => { i with size := n, writeTime := w, pointer := if n = i.size then i.pointer else 0 },
        okOrAdjusted (decide (n ≠ size.toNat ∨ w ≠ writeTime.toNat)) [])

/-- IMAGE WRITE (R77). -/
def ownImageWrite (image start : Byte) (bytes : List Byte) (s : State) : State × Answer :=
  match imageOf image with
  | none => (s, refuse .badParam)
  | some k =>
    if bytes = [] ∨ Config.imageSize < start.toNat + bytes.length then (s, refuse .badParam)
    else (s.onImage k fun i => { i with contents := memWriteList i.contents start.toNat bytes }, okWith [])

/-- IMAGE PROTECT (R78). -/
def ownImageProtect (image : Byte) (protect : BitVec 256) (s : State) : State × Answer :=
  match imageOf image with
  | none => (s, refuse .badParam)
  | some k => (s.onImage k fun i => { i with protect := protect }, okWith [])

/-- What IMAGE READ returns beside the contents (R79). -/
def Image.statusBytes (i : Image) : List Byte :=
  le16 i.size ++ le8 i.writeTime ++ setBytes 32 i.protect.toNat ++ le8 i.pointer ++ yesNo i.busy
    ++ optField (i.busyUntil.map fun u => le32 u.toNat) ++ le16 i.writeCount

/-- IMAGE READ (R79). -/
def ownImageRead (image start : Byte) (count : Half) (clearCount : Byte) (s : State) : State × Answer :=
  match imageOf image, boolOf clearCount with
  | some k, some zero =>
    if count.toNat = 0 ∨ Config.imageSize < start.toNat + count.toNat then (s, refuse .badParam)
    else
      let i := s.image k
      ((if zero then s.onImage k fun i => { i with writeCount := 0 } else s),
        okWith (memReadList i.contents start.toNat count.toNat ++ i.statusBytes))
  | _, _ => (s, refuse .badParam)

/-- IMAGE_CONFIG (R76). -/
def execImageConfig (tag image : Byte) (size : Half) (writeTime : Byte) (s : State) :
    Host.Outcome State Fault Refusal := .next (s.serve tag 0x30 (ownImageConfig image size writeTime))

/-- IMAGE_WRITE (R77). -/
def execImageWrite (tag image start : Byte) (bytes : List Byte) (s : State) : Host.Outcome State Fault Refusal :=
  .next (s.serve tag 0x31 (ownImageWrite image start bytes))

/-- IMAGE_READ (R79). -/
def execImageRead (tag image start : Byte) (count : Half) (clearCount : Byte) (s : State) :
    Host.Outcome State Fault Refusal := .next (s.serve tag 0x32 (ownImageRead image start count clearCount))

/-- IMAGE_PROTECT (R78). -/
def execImageProtect (tag image : Byte) (protect : BitVec 256) (s : State) : Host.Outcome State Fault Refusal :=
  .next (s.serve tag 0x33 (ownImageProtect image protect))

/-! ### The console (R80 to R84) -/

/-- The console buffer handed to the log and emptied, where it holds text (R83). -/
def State.consoleFlush (s : State) (ch : Chan) : State :=
  if (s.chan ch).console = [] then s
  else (s.hand (some ch) (.console (s.chan ch).console)).onChan ch fun c => { c with console := [] }

/-- A byte taken as text (R82, R84), with the record of R83 at a line end or at 64 bytes. -/
def State.consoleTake (s : State) (ch : Chan) (b : Byte) : State :=
  let s1 := s.onChan ch fun c => { c with console := c.console ++ [b] }
  if b = 0x0A ∨ Config.consoleSize ≤ (s1.chan ch).console.length then s1.consoleFlush ch else s1

/-- Console blocking refuses the write (R81). -/
def State.consoleBlocks (s : State) (ch : Chan) : Bool :=
  (s.chan ch).settings.consoleBlocking && decide (s.log.space < Config.consoleSpace)

end Sys2Proof.Machine
end

