-- ==== Sys2Proof/Machine/Health.lean ====
section
/-! DEFINITION. The health monitor's integration and statistics (chapter 8): DEGRADED, the ten counters, the
snapshots and the health requests. Stuck lines and bus clears are in Sys2Proof/Machine/Stuck.lean. -/

namespace Sys2Proof.Machine

/-! ### Counters (R153) -/

/-- A 32-bit saturating counter raised by 1. -/
def bump (n : Nat) : Nat := satAdd max32 n 1

/-- A channel's health changed by `f`. -/
def State.onHealth (s : State) (ch : Chan) (f : Health → Health) : State :=
  s.onChan ch fun c => { c with health := f c.health }

/-- A channel's running set changed by `f`. -/
def State.tally (s : State) (ch : Chan) (f : Stats → Stats) : State :=
  s.onHealth ch fun h => { h with running := f h.running }

/-! ### Integration (R144 to R147) -/

/-- A count of the integration raised by 1; it stops at 63 (R143). -/
def count63 (n : Nat) : Nat := satAdd 63 n 1

/-- DEGRADED declared (R147, with the counts zeroed as R145 gives). -/
def State.declareDegraded (s : State) (ch : Chan) : State :=
  let s1 := s.onHealth ch fun h => { h with degraded := true, misframes := 0, cleanRun := 0 }
  let s2 := (s1.event (some ch) (.degraded true)).raiseIf (!s1.quietDegraded ch) (healthNotice ch)
  if (s2.chan ch).settings.fallbackOnDegrade then
    if s2.jobOn ch then s2.onHealth ch fun h => { h with owed := true }
    else s2.onChan ch fun c => { c with fallback := true }
  else s2

/-- DEGRADED cleared by a clean run (R146, R147). -/
def State.clearDegraded (s : State) (ch : Chan) : State :=
  let s1 := s.onHealth ch fun h => { h with degraded := false, cleanRun := 0 }
  let s2 := (s1.event (some ch) (.degraded false)).raiseIf (!s1.quietDegraded ch) (healthNotice ch)
  let s3 := s2.onHealth ch fun h => { h with owed := false }
  if (s3.chan ch).settings.returnOnRecover then s3.onChan ch fun c => { c with fallback := false } else s3

/-- A misframe of the channel reaches the monitor (R13, R144 to R146). -/
def State.takeMisframe (s : State) (ch : Chan) : State :=
  let s1 := s.tally ch fun t => { t with misframes := bump t.misframes }
  let h := (s1.chan ch).health
  if h.degraded then s1.onHealth ch fun h => { h with cleanRun := 0 }
  else if s1.monitor.degrade ≤ count63 h.misframes then s1.declareDegraded ch
  else s1.onHealth ch fun h => { h with misframes := count63 h.misframes, cleanRun := 0 }

/-- A clean exchange reaches the monitor (R144 to R146). -/
def State.takeClean (s : State) (ch : Chan) : State :=
  let h := (s.chan ch).health
  if h.degraded then
    if s.monitor.recover ≤ count63 h.cleanRun then s.clearDegraded ch
    else s.onHealth ch fun h => { h with cleanRun := count63 h.cleanRun }
  else if s.monitor.clear ≤ count63 h.cleanRun then
    s.onHealth ch fun h => { h with misframes := 0, cleanRun := 0 }
  else s.onHealth ch fun h => { h with cleanRun := count63 h.cleanRun }

/-- A misframe that falls in the exchange in flight, if any (R13, R20). -/
def State.misframe (s : State) (ch : Chan) : State :=
  (s.onChan ch fun c => { c with exch := c.exch.map fun x => { x with misframe := true } }).takeMisframe ch

/-! ### Statistics (R155, R156) -/

/-- The ten counters in their order (R153). -/
def Stats.wire (t : Stats) : List Byte :=
  le32 t.exchanges ++ le32 t.addressNacks ++ le32 t.dataNacks ++ le32 t.denied ++ le32 t.emulated ++ le32 t.held
    ++ le32 t.misframes ++ le32 t.arbLosses ++ le32 t.dStretchTimeouts ++ le32 t.bytes

/-- The snapshot set of both channels, channel 0's counters first (log entry 18), with its time and number. -/
def State.snapshotBytes (s : State) : List Byte :=
  s.ch0.health.snapshot.wire ++ s.ch1.health.snapshot.wire ++ le32 s.monitor.snapTime.toNat
    ++ le16 s.monitor.snapNumber.toNat

/-- STATS SNAPSHOT (R156). -/
def ownStatsSnapshot (s : State) : State × Answer := (s.snapshotNow, okWith s.snapshotNow.snapshotBytes)

/-- STATS READ (R156). -/
def ownStatsRead (choice : Byte) (s : State) : State × Answer :=
  match choice.toNat with
  | 0 => (s, okWith s.snapshotBytes)
  | 1 => (s, okWith (s.ch0.health.running.wire ++ s.ch1.health.running.wire ++ le32 s.tick.toNat))
  | _ => (s, refuse .badParam)

/-- The expiry of the period timer is taken (R155): the timer's own, or one that fell together with another snapshot
and is due no more (log entry 50). -/
def Monitor.expired (m : Monitor) : Monitor :=
  if timerDue m.timer then { m with timer := none } else { m with expiryDue := false }

/-- STATS_PERIOD_EXPIRY (R155). -/
def execStatsPeriodExpiry (s : State) : Host.Outcome State Fault Refusal :=
  if s.inReset = false ∧ (timerDue s.monitor.timer || s.monitor.expiryDue) = true then
    .next ({ s with monitor := s.monitor.expired } : State).snapshotNow
  else .next s

/-! ### HEALTH CONFIG and HEALTH STATUS (R157) -/

/-- The four settings as a reply carries them. -/
def Monitor.settingBytes (m : Monitor) : List Byte := le8 m.degrade ++ le8 m.clear ++ le8 m.recover ++ le16 m.period

/-- The statistics period written: stored, and the timer restarted for a full period or stopped, with no expiry due
(R155, log entry 50). -/
def Monitor.setPeriod (m : Monitor) (p : Nat) : Monitor :=
  { m with period := p, timer := if p = 0 then none else some (startTimer (ms p)), expiryDue := false }

/-- The statistics period a written value gives (R157). -/
def clampPeriod (v : Nat) : Nat := if v = 0 then 0 else clampTo 10 60000 v

/-- One health setting applied, with whether a value was clamped; an unknown setting is none. -/
def healthSetting (m : Monitor × Bool) (p : Byte × Half) : Option (Monitor × Bool) :=
  let v := p.2.toNat
  let t := clampTo 1 63 v
  match p.1.toNat with
  | 0 => some ({ m.1 with degrade := t }, m.2 || decide (t ≠ v))
  | 1 => some ({ m.1 with clear := t }, m.2 || decide (t ≠ v))
  | 2 => some ({ m.1 with recover := t }, m.2 || decide (t ≠ v))
  | 3 => some (m.1.setPeriod (clampPeriod v), m.2 || decide (clampPeriod v ≠ v))
  | _ => none

/-- HEALTH CONFIG (R157). -/
def ownHealthConfig (settings : List (Byte × Half)) (s : State) : State × Answer :=
  if settings = [] ∨ noRepeat settings = false then (s, refuse .badParam)
  else
    match applyAll healthSetting (s.monitor, false) settings with
    | none => (s, refuse .badParam)
    | some m => ({ s with monitor := m.1 }, okOrAdjusted m.2 m.1.settingBytes)

/-- HEALTH STATUS (R157). -/
def ownHealthStatus (chan : Byte) (s : State) : State × Answer :=
  match chanOf chan with
  | none => (s, refuse .badParam)
  | some ch =>
    let h := (s.chan ch).health
    (s, okWith (le8 h.misframes ++ le8 h.cleanRun ++ yesNo h.degraded ++ yesNo h.stuckC ++ yesNo h.stuckD
      ++ yesNo h.owed ++ yesNo h.busClear.isSome ++ [h.lastClear.code] ++ s.monitor.settingBytes))

/-- HEALTH_CONFIG (R157). -/
def execHealthConfig (tag : Byte) (settings : List (Byte × Half)) (s : State) :
    Host.Outcome State Fault Refusal := .next (s.serve tag 0x61 (ownHealthConfig settings))

/-- HEALTH_STATUS (R157). -/
def execHealthStatus (tag chan : Byte) (s : State) : Host.Outcome State Fault Refusal :=
  .next (s.serve tag 0x62 (ownHealthStatus chan))

/-- STATS_SNAPSHOT (R156). -/
def execStatsSnapshot (tag : Byte) (s : State) : Host.Outcome State Fault Refusal :=
  .next (s.serve tag 0x63 ownStatsSnapshot)

/-- STATS_READ (R156). -/
def execStatsRead (tag choice : Byte) (s : State) : Host.Outcome State Fault Refusal :=
  .next (s.serve tag 0x64 (ownStatsRead choice))

end Sys2Proof.Machine
end

