-- ==== Sys2Proof/Machine/Engine.lean ====
section
/-! DEFINITION. The programming engine (chapter 9): the staging buffer, the units of a job, how a unit and a job
end, and the six engine requests. -/

namespace Sys2Proof.Machine

/-! ### Check values (R160) -/

/-- The two sums over a run of bytes, from `A` and `B`. -/
def foldSums (a b : Nat) : List Byte → Nat × Nat
  | [] => (a, b)
  | x :: rest =>
    let a' := (a + x.toNat) % 65521
    foldSums a' ((b + a') % 65521) rest

/-- The check value of two sums. -/
def checkValue (a b : Nat) : Nat := b * 65536 + a

/-- The check value of a run of bytes. -/
def checkOf (bytes : List Byte) : Nat := checkValue (foldSums 1 0 bytes).1 (foldSums 1 0 bytes).2

/-! ### Units (R163, R167, R169) -/

/-- The range bytes not yet covered when a unit starts at `address`. -/
def Job.remaining (j : Job) (address : Nat) : Nat := j.start + j.length - address

/-- The chunk or burst that starts at `address`, cut at its page, at its first attempt (R167). -/
def Job.cut (j : Job) (unit : JobUnit) (address : Nat) : Job :=
  { j with unit := unit, unitAddress := address, attempt := 1
           unitLength := min (j.remaining address) (j.page - address % j.page) }

/-- The address after the unit. -/
def Job.after (j : Job) : Nat := j.unitAddress + j.unitLength

/-- Range bytes remain after the unit. -/
def Job.more (j : Job) : Bool := decide (j.after < j.start + j.length)

/-- The staging offset of a memory address of the range (R161). -/
def Job.offset (j : Job) (address : Nat) : Nat := j.staging.getD 0 + (address - j.start)

/-- The bytes a unit sends and receives on the D-side (R167 to R169). -/
def Job.unitBytes (j : Job) : Nat :=
  match j.unit with
  | .chunk => 1 + j.width + j.unitLength
  | .probe => 1
  | .burst => 1 + j.width + 1 + j.unitLength

/-- The Sr a unit makes. -/
def Job.unitRestarts (j : Job) : Nat :=
  match j.unit with
  | .burst => 1
  | _ => 0

/-- The device address byte of a unit, with its direction bit (R166, R167). -/
def Job.deviceByte (j : Job) (dir : Dir) : Byte :=
  BitVec.ofNat 8 (2 * j.device.toNat + if dir = .read then 1 else 0)

/-- The memory address bytes of a unit: one, or two with the high byte first (R167). -/
def Job.addressBytes (j : Job) : List Byte :=
  if j.width = 1 then [BitVec.ofNat 8 j.unitAddress]
  else [BitVec.ofNat 8 (j.unitAddress / 256), BitVec.ofNat 8 j.unitAddress]

/-- The bytes a burst receives, each ACKed but the last (R166, R169). -/
def Job.receives (j : Job) : List UnitItem :=
  (List.range j.unitLength).map fun i => .receive (if i + 1 = j.unitLength then .nack else .ack)

/-- The transaction of the current unit (R167 to R169), a chunk's data bytes taken from the staging buffer (R158). A
NACK, a loss or an abort cuts it short. -/
def Job.items (j : Job) (staging : Mem) : List UnitItem :=
  match j.unit with
  | .chunk =>
    [.start, .send (j.deviceByte .write)] ++ j.addressBytes.map .send
      ++ (memReadList staging (j.offset j.unitAddress) j.unitLength).map .send ++ [.stop]
  | .probe => [.start, .send (j.deviceByte .write), .stop]
  | .burst =>
    [.start, .send (j.deviceByte .write)] ++ j.addressBytes.map .send ++ [.restart, .send (j.deviceByte .read)]
      ++ j.receives ++ [.stop]

/-- The running job changed by `f`. -/
def State.onJob (s : State) (f : Job → Job) : State :=
  { s with engine := { s.engine with job := s.engine.job.map f } }

/-- The engine is granted a channel's D-side for the current unit of job `j` and issues the unit's transaction
(R164, R166). -/
def State.grantUnit (s : State) (ch : Chan) (j : Job) : State :=
  ({ s with engine := { s.engine with unit := j.items s.engine.staging } } : State).onChan ch fun c =>
    c.grantEngine j.unitBytes j.unitRestarts

/-- The engine requests its channel's D-side for the current unit (R163, R164): granted at once on a grantable
D-side that the relay does not wait for. -/
def State.engineAsk (s : State) : State :=
  match s.engine.job with
  | none => s
  | some j =>
    if (s.chan j.chan).grantable && !(s.chan j.chan).arb.relayWaits then s.grantUnit j.chan j
    else s.onChan j.chan fun c => { c with arb := { c.arb with engineWaits := true } }

/-! ### The end of a job (R173) -/

/-- The outcome a cause belongs to. -/
def JobCause.outcome : JobCause → JobOutcome
  | .none => .done
  | .addressNack => .failed
  | .dataNack => .failed
  | .arbLost => .failed
  | .pollTimeout => .failed
  | .verifyMismatch => .failed
  | .stuck => .failed
  | .hostAbort => .aborted
  | .fault => .aborted
  | .mode => .aborted
  | .supplyOff => .aborted

/-- The last result of a job that ends with `cause` at memory address `address`. -/
def Job.result (j : Job) (cause : JobCause) (address : Nat) : JobResult :=
  { id := j.id, kind := j.kind, chan := j.chan, outcome := cause.outcome, cause := cause, done := j.done
    failing := if cause = .none then max32 else address
    check := if cause = .none ∧ j.kind ≠ .write then some (checkValue j.sumA j.sumB) else none }

/-- A fallback held back by the job is applied or dropped (R147). -/
def State.settleOwed (s : State) (ch : Chan) : State :=
  if (s.chan ch).health.owed then
    (s.onHealth ch fun h => { h with owed := false }).onChan ch fun c =>
      { c with fallback := c.fallback || c.health.degraded }
  else s

/-- The engine's hold on its channel's D-side or its wait for it ends with the job (R173, step 1; R165). -/
def Channel.dropEngine (c : Channel) : Channel :=
  let c1 := if c.arb.holder = .engine then c.giveUp else c
  { c1 with arb := { c1.arb with engineWaits := false } }

/-- The running job ends with `cause` at memory address `address`, in the order of R173; a job in ENDING keeps
its ending cause (R170 to R172). -/
def State.finishJob (s : State) (cause : JobCause) (address : Nat) : State :=
  match s.engine.job with
  | none => s
  | some j =>
    let r := j.result (j.endingCause.getD cause) address
    let s1 := s.onChan j.chan Channel.dropEngine
    let s2 := { s1 with engine := { s1.engine with job := none, last := some r, unit := [], burst := [] } }
    let s3 := (s2.hand (some j.chan) (.job r.id r.outcome r.cause r.done r.failing)).raise .job
    let s4 := if j.holdReset then
        { s3 with supply := { s3.supply with claims := { s3.supply.claims with job := false } } }
      else s3
    (s4.settleOwed j.chan).occur .jobEnd none

/-- The running job ends with `cause` at its unit's address. -/
def State.endJob (s : State) (cause : JobCause) : State :=
  match s.engine.job with
  | none => s
  | some j => s.finishJob cause j.unitAddress

/-- The job on a channel, if it runs there, ends with `cause` at its unit's address. -/
def State.endJobOn (s : State) (ch : Chan) (cause : JobCause) : State :=
  if s.jobOn ch then s.endJob cause else s

/-- The transaction the engine issues after a JOB ABORT: a byte it receives from then on is given NACK (R171, log
entry 24). -/
def Engine.nackRest (e : Engine) : Engine :=
  { e with unit := e.unit.map fun u => if u = .receive .ack then .receive .nack else u }

/-- The running job enters ENDING (R171, R172); waiting or between units it ends at once, and a unit in progress is cut
short by a JOB ABORT, not by the supply. -/
def State.enterEnding (s : State) (cause : JobCause) : State :=
  match s.engine.job with
  | none => s
  | some j =>
    if j.phase = .ending then s
    else
      let s1 := s.onJob fun j => { j with phase := .ending, endingCause := some cause }
      if (s.chan j.chan).arb.holder ≠ .engine then s1.endJob cause
      else if cause = .hostAbort then { s1 with engine := s1.engine.nackRest }
      else s1

/-! ### The end of a unit (R166 to R169) -/

/-- The engine holds its channel's D-side for a unit of the given kind, and not for the STOP of a probe. -/
def State.unitRuns (s : State) (unit : JobUnit) : Bool :=
  match s.engine.job with
  | none => false
  | some j =>
    decide (j.unit = unit) && j.probeAck.isNone && decide ((s.chan j.chan).arb.holder = .engine)

/-- The engine's STOP is complete (R166). -/
def State.unitStop (s : State) : State :=
  match s.engine.job with
  | none => s
  | some j => s.onChan j.chan Channel.stopMade

/-- A chunk or burst has failed its attempt (R167). -/
def State.failAttempt (s : State) (cause : JobCause) : State :=
  match s.engine.job with
  | none => s
  | some j =>
    if j.attempt < 3 then (s.onJob fun j => { j with attempt := j.attempt + 1 }).engineAsk else s.endJob cause

/-- A chunk is complete: the job moves to POLL (R167, R168). -/
def Job.toPoll (j : Job) : Job :=
  { j with phase := .poll, unit := .probe, attempt := 1, pollTimer := some (startTimer (ms j.pollLimit))
           pollExpired := false }

/-- A chunk is written, its probe ACKed (R168): the job goes on to the next chunk or to VERIFY, or has nothing left
to do and stays in POLL to the probe's STOP. -/
def Job.written (j : Job) : Job :=
  let j1 := { j with done := j.done + 1, pollTimer := none, pollExpired := false }
  if j1.more then { j1.cut .chunk j1.after with phase := .write }
  else if j1.verify then { j1.cut .burst j1.start with phase := .verify }
  else j1

/-- A probe's acknowledge bit is sampled (R168): an ACK writes the chunk, unless the poll limit has expired or the
job is in ENDING. -/
def Job.probed (j : Job) (bit : AckBit) : Job :=
  let j1 := if bit = .ack ∧ j.pollExpired = false ∧ j.phase ≠ .ending then j.written else j
  { j1 with probeAck := some bit }

/-- The STOP of the running unit begins: it follows a bit, so it has a full low phase (R37, R39). -/
def State.unitStops (s : State) : State :=
  match s.engine.job with
  | none => s
  | some j => s.onChan j.chan fun c => c.beginD (.stop false) c.inUse.bit

/-- A probe has ended, with its STOP or by a loss (R168): the job ends, or requests the D-side for its next unit,
which after a NACK or a loss is another probe. -/
def State.afterProbe (s : State) : State :=
  match s.engine.job with
  | none => s
  | some j =>
    let s1 := s.onJob fun j => { j with probeAck := none }
    if j.phase = .ending then s1.endJob .none
    else if j.pollExpired then s1.endJob .pollTimeout
    else if j.phase = .poll ∧ j.probeAck = some .ack then s1.endJob .none
    else s1.engineAsk

/-- The lowest position at which two runs of bytes differ. -/
def firstDifference : List Byte → List Byte → Option Nat
  | a :: as, b :: bs => if a = b then (firstDifference as bs).map (· + 1) else some 0
  | _, _ => none

/-- A burst's bytes have been used without failure (R169). -/
def State.burstUsed (s : State) : State :=
  match s.engine.job with
  | none => s
  | some j => if j.more then (s.onJob fun j => j.cut .burst j.after).engineAsk else s.endJob .none

/-- The bytes of a completed burst folded into the sums, and chunks done raised (R169). -/
def Job.folded (j : Job) (bytes : List Byte) : Job :=
  { j with sumA := (foldSums j.sumA j.sumB bytes).1, sumB := (foldSums j.sumA j.sumB bytes).2, done := j.done + 1 }

/-- The burst buffer filled or emptied (R169). -/
def State.keepBurst (s : State) (bytes : List Byte) : State := { s with engine := { s.engine with burst := bytes } }

/-- A completed burst's bytes used as the phase requires, from the burst buffer (R169). -/
def State.useBurst (s : State) : State :=
  match s.engine.job with
  | none => s
  | some j =>
    let bytes := s.engine.burst
    match j.kind with
    | .write =>
      match firstDifference bytes (memReadList s.engine.staging (j.offset j.unitAddress) j.unitLength) with
      | some i => s.finishJob .verifyMismatch (j.unitAddress + i)
      | none => s.burstUsed
    | .read =>
      ({ s with engine := { s.engine with
          staging := memWriteList s.engine.staging (j.offset j.unitAddress) bytes } } : State).onJob
        (fun j => j.folded bytes) |>.burstUsed
    | .check => (s.onJob fun j => j.folded bytes).burstUsed

/-- The job is in ENDING. -/
def State.jobEnding (s : State) : Bool :=
  match s.engine.job with
  | none => false
  | some j => decide (j.phase = .ending)

/-- The engine's unit is lost to another party, its grant already dropped (R41, R166 to R169). A probe lost in its
STOP has its outcome already. -/
def State.unitLost (s : State) : State :=
  if s.jobEnding then s.endJob .none
  else
    match s.engine.job with
    | none => s
    | some j => if j.unit = .probe ∨ j.probeAck.isSome = true then s.afterProbe else s.failAttempt .arbLost

/-- CHUNK_END (R167). -/
def execChunkEnd (result : ChunkResult) (s : State) : Host.Outcome State Fault Refusal :=
  if s.inReset = false ∧ s.unitRuns .chunk = true then
    let s1 := s.unitStop
    if s.jobEnding then .next (s1.endJob .none).retimeAll
    else
      match result with
      | .complete => .next ((s1.onJob Job.toPoll).engineAsk).retimeAll
      | .addressNack => .next (s1.failAttempt .addressNack).retimeAll
      | .dataNack => .next (s1.failAttempt .dataNack).retimeAll
  else .next s

/-- PROBE_END (R168): the probe's acknowledge bit decides, and its STOP begins. The end of the STOP is a
D_STOP_COMPLETE (log entry 24). -/
def execProbeEnd (bit : AckBit) (s : State) : Host.Outcome State Fault Refusal :=
  if s.inReset = false ∧ s.unitRuns .probe = true then
    .next ((s.onJob fun j => j.probed bit).unitStops).retimeAll
  else .next s

/-- The bytes a burst has read are as many as the unit's. -/
def State.burstFits (s : State) (result : BurstResult) : Bool :=
  match result with
  | .complete bytes =>
    match s.engine.job with
    | none => false
    | some j => decide (bytes.length = j.unitLength)
  | _ => true

/-- BURST_END (R169): a completed burst brings its bytes, which pass through the burst buffer. In ENDING a burst is
cut short, so it may end with any number of bytes (R171). -/
def execBurstEnd (result : BurstResult) (s : State) : Host.Outcome State Fault Refusal :=
  if s.inReset = false ∧ s.unitRuns .burst = true ∧ (s.jobEnding = true ∨ s.burstFits result = true) then
    let s1 := s.unitStop
    if s.jobEnding then .next (s1.endJob .none).retimeAll
    else
      match result with
      | .complete bytes => .next (((s1.keepBurst bytes).useBurst).keepBurst []).retimeAll
      | .addressNack => .next ((s1.keepBurst []).failAttempt .addressNack).retimeAll
      | .dataNack => .next ((s1.keepBurst []).failAttempt .dataNack).retimeAll
  else .next s

/-- POLL_LIMIT_EXPIRY (R168): between probes the job ends at once; during a probe it ends after the probe, and so
after a NACK whose STOP is still being made. -/
def execPollLimitExpiry (s : State) : Host.Outcome State Fault Refusal :=
  match s.engine.job with
  | none => .next s
  | some j =>
    if s.inReset = false ∧ j.phase = .poll ∧ timerDue j.pollTimer = true then
      if (s.chan j.chan).arb.holder = .engine then .next (s.onJob fun j => { j with pollExpired := true })
      else .next (s.endJob .pollTimeout).retimeAll
    else .next s

/-! ### The staging requests (R159, R160) -/

/-- The running job's staging region shares an offset with `n` offsets from `offset` on (R159). -/
def State.regionTouched (s : State) (offset n : Nat) : Bool :=
  match s.engine.job with
  | none => false
  | some j =>
    match j.staging with
    | none => false
    | some o => decide (offset < o + j.length ∧ o < offset + n)

/-- STAGE WRITE (R159). BAD_PARAM comes before BUSY (log entry 52). -/
def ownStageWrite (offset : Half) (bytes : List Byte) (s : State) : State × Answer :=
  if bytes = [] ∨ 480 < bytes.length ∨ Config.stagingSize < offset.toNat + bytes.length then (s, refuse .badParam)
  else if s.regionTouched offset.toNat bytes.length then (s, refuse .busy)
  else
    ({ s with engine := { s.engine with staging := memWriteList s.engine.staging offset.toNat bytes } }, okWith [])

/-- STAGE READ (R159). -/
def ownStageRead (offset count : Half) (s : State) : State × Answer :=
  if count.toNat = 0 ∨ 480 < count.toNat ∨ Config.stagingSize < offset.toNat + count.toNat then
    (s, refuse .badParam)
  else (s, okWith (memReadList s.engine.staging offset.toNat count.toNat))

/-- STAGE CHECK (R160). -/
def ownStageCheck (offset length : Half) (s : State) : State × Answer :=
  if length.toNat = 0 ∨ Config.stagingSize < offset.toNat + length.toNat then (s, refuse .badParam)
  else (s, okWith (le32 (checkOf (memReadList s.engine.staging offset.toNat length.toNat))))

/-- STAGE_WRITE (R159). -/
def execStageWrite (tag : Byte) (offset : Half) (bytes : List Byte) (s : State) :
    Host.Outcome State Fault Refusal := .next (s.serve tag 0x70 (ownStageWrite offset bytes))

/-- STAGE_READ (R159). -/
def execStageRead (tag : Byte) (offset count : Half) (s : State) : Host.Outcome State Fault Refusal :=
  .next (s.serve tag 0x71 (ownStageRead offset count))

/-- STAGE_CHECK (R160). -/
def execStageCheck (tag : Byte) (offset length : Half) (s : State) : Host.Outcome State Fault Refusal :=
  .next (s.serve tag 0x72 (ownStageCheck offset length))

/-! ### JOB START, JOB ABORT, JOB STATUS (R162, R163, R171, R174) -/

/-- One of the nine page sizes (R161). -/
def pageSize (n : Nat) : Bool := [1, 2, 4, 8, 16, 32, 64, 128, 256].contains n

/-- A yes/no field that may be left out, and is then no; a byte outside its list is none. -/
def optBool (o : Option Byte) : Option Bool :=
  match o with
  | none => some false
  | some b => boolOf b

/-- The staging offset is present exactly where the kind has one, and its region fits (R162). -/
def stagingFits (kind : JobKind) (staging : Option Half) (length : Nat) : Bool :=
  match staging with
  | none => decide (kind = .check)
  | some o => decide (kind ≠ .check ∧ o.toNat + length ≤ Config.stagingSize)

/-- The poll limit a request gives (R162). -/
def pollLimitOf (o : Option Byte) : Nat :=
  match o with
  | none => 10
  | some v => clampTo 1 100 v.toNat

/-- The numbers of a JOB START pass the checks of R162. -/
def jobFits (r : RawJob) (kind : JobKind) : Bool :=
  decide (r.device.toNat ≤ 127 ∧ (r.width = 1 ∨ r.width = 2) ∧ 1 ≤ r.length.toNat ∧ r.length.toNat ≤ 4096
      ∧ r.start.toNat + r.length.toNat ≤ (if r.width = 1 then 256 else 65536)
      ∧ (r.verify = none ∨ kind = .write))
    && pageSize r.page.toNat && stagingFits kind r.staging r.length.toNat

/-- The phase a job begins with (R163). -/
def JobKind.phase : JobKind → JobPhase
  | .write => .write
  | .read => .read
  | .check => .check

/-- The unit kind a job begins with (R163). -/
def JobKind.unit : JobKind → JobUnit
  | .write => .chunk
  | _ => .burst

/-- The job record of a JOB START, where it passes the checks of R162 (BAD_PARAM otherwise). -/
def jobOf (r : RawJob) : Option Job :=
  match jobKindOf r.kind, chanOf r.channel, optBool r.verify, optBool r.holdReset with
  | some kind, some ch, some verify, some holdReset =>
    if jobFits r kind then
      let j : Job :=
        { id := r.id, kind := kind, chan := ch, device := r.device.setWidth 7, width := r.width.toNat
          page := r.page.toNat, start := r.start.toNat, length := r.length.toNat
          staging := r.staging.map BitVec.toNat, pollLimit := pollLimitOf r.pollLimit, verify := verify
          holdReset := holdReset, phase := kind.phase, unit := kind.unit, unitAddress := 0, unitLength := 0
          attempt := 1, done := 0, sumA := 1, sumB := 0, endingCause := none, pollTimer := none
          pollExpired := false, probeAck := none }
      some (j.cut kind.unit j.start)
    else none
  | _, _, _, _ => none

/-- A job admitted (R163). -/
def State.admitJob (s : State) (j : Job) : State :=
  let s1 := { s with engine := { s.engine with job := some j, unit := [] } }
  let s2 := if j.holdReset then
      { s1 with supply := { s1.supply with claims := { s1.supply.claims with job := true } } }
    else s1
  s2.engineAsk.retimeAll

/-- The poll limit of the request is brought into its range (R162). -/
def pollClamped (o : Option Byte) : Bool :=
  match o with
  | none => false
  | some v => decide (pollLimitOf o ≠ v.toNat)

/-- JOB START (R162). -/
def ownJobStart (job : RawJob) (s : State) : State × Answer :=
  match jobOf job with
  | none => (s, refuse .badParam)
  | some j =>
    if s.engine.job.isSome then (s, refuse .busy)
    else if (s.chan j.chan).mode ≠ .active ∨ s.supply.state = .stopping then (s, refuse .wrongMode)
    else (s.admitJob j, okOrAdjusted (pollClamped job.pollLimit) [])

/-- JOB ABORT (R171). -/
def ownJobAbort (s : State) : State × Answer := ((s.enterEnding .hostAbort).retimeAll, okWith [])

/-- The job record as JOB STATUS carries it (R174, log entry 18). -/
def Job.bytes (j : Job) : List Byte :=
  [j.id, j.kind.code, chanCode j.chan] ++ le8 j.device.toNat ++ le8 j.width ++ le16 j.page ++ le16 j.start
    ++ le16 j.length ++ optField (j.staging.map le16) ++ le8 j.pollLimit
    ++ optField (if j.kind = .write then some (yesNo j.verify) else none) ++ yesNo j.holdReset
    ++ le16 j.unitAddress ++ le16 j.unitLength ++ le8 j.attempt ++ le16 j.done
    ++ optField (j.endingCause.map fun c => [c.code])

/-- The last result as JOB STATUS carries it (R173, R174). -/
def JobResult.bytes (r : JobResult) : List Byte :=
  [r.id, r.kind.code, chanCode r.chan, r.outcome.code, r.cause.code] ++ le16 r.done ++ le32 r.failing
    ++ optField (r.check.map le32)

/-- The engine holds its job's D-side or waits for it (R174). -/
def State.holdsOrWaits (s : State) : Bool :=
  match s.engine.job with
  | none => false
  | some j => decide ((s.chan j.chan).arb.holder = .engine) || (s.chan j.chan).arb.engineWaits

/-- JOB STATUS (R174). With no job the engine neither holds nor waits (log entry 18). -/
def ownJobStatus (s : State) : State × Answer :=
  let phase : Byte := match s.engine.job with
    | none => 0
    | some j => j.phase.code
  (s, okWith ([phase] ++ optField (s.engine.job.map Job.bytes) ++ yesNo s.holdsOrWaits
    ++ optField (s.engine.last.map JobResult.bytes)))

/-- JOB_START (R162). -/
def execJobStart (tag : Byte) (job : RawJob) (s : State) : Host.Outcome State Fault Refusal :=
  .next (s.serve tag 0x73 (ownJobStart job))

/-- JOB_ABORT (R171). -/
def execJobAbort (tag : Byte) (s : State) : Host.Outcome State Fault Refusal :=
  .next (s.serve tag 0x74 ownJobAbort)

/-- JOB_STATUS (R174). -/
def execJobStatus (tag : Byte) (s : State) : Host.Outcome State Fault Refusal :=
  .next (s.serve tag 0x75 ownJobStatus)

end Sys2Proof.Machine
end

