-- ==== Sys2Proof/Machine/Exchange.lean ====
section
/-! DEFINITION. The exchange in flight (chapter 2): how it ends and is handed on, the answers the part gives at
an address and at a byte, and the local answers of the image store and the console (chapter 4). -/

namespace Sys2Proof.Machine

/-- The exchange in flight changed by `f`. -/
def State.onExch (s : State) (ch : Chan) (f : Exchange → Exchange) : State :=
  s.onChan ch fun c => { c with exch := c.exch.map f }

/-! ### The end of an exchange (R34) -/

/-- The address ack as it is written: absent while its bit has not been sampled, and then NACK (R20, R34, log
entry 36). -/
def Channel.addressAck (c : Channel) (x : Exchange) : AckBit :=
  if c.byteOpen = true ∧ x.count = 0 then .nack else x.addressAck.getD .nack

/-- The EXCHANGE record of an exchange that ends at `now` (R34, R107): its repeat is 1, its count stops at 65535,
and so its first NACKed byte position at 65534 (log entry 40). Its duration is the distance of two tick counts, mod
2^32, before it stops at 65535 (log entry 43). -/
def Exchange.body (x : Exchange) (bit : AckBit) (kind : EndKind) (now : Tick) : ExchangeBody :=
  { address := x.address, direction := x.direction, disposition := x.disposition.getD .busy
    entry := x.addressEntry, ack := bit, endKind := kind, duration := min max16 (now - x.startTime).toNat
    count := min max16 x.count, firstNack := x.firstNack.map (min 65534), repeats := 1, shown := x.shown }

/-- The counters an ending exchange raises (R153). -/
def Stats.ended (t : Stats) (x : Exchange) (bit : AckBit) : Stats :=
  { t with
    exchanges := bump t.exchanges
    addressNacks := if bit = .nack then bump t.addressNacks else t.addressNacks
    denied := if x.disposition = some .denied then bump t.denied else t.denied
    emulated := if x.disposition = some .emulated then bump t.emulated else t.emulated
    bytes := satAdd max32 t.bytes x.count }

/-- The channel with no exchange in flight: what the relay kept for it is dropped, its grant request withdrawn
(R165). -/
def Channel.clearExchange (c : Channel) : Channel :=
  { c with exch := none, giving := none, grantWait := none, grantLimitTaken := false, nextAct := none
           arb := { c.arb with relayWaits := false } }

/-- The write window of step 3 (R70). -/
def State.writeWindow (s : State) (x : Exchange) : State :=
  match x.onImage with
  | none => s
  | some k => if x.stored then s.onImage k fun i => i.startWindow s.tick else s

/-- The references of step 5 (R60). -/
def State.releaseRefs (s : State) (x : Exchange) : State :=
  { s with rules := releaseEntry x.indexEntry (releaseEntry x.addressEntry s.rules) }

/-- The exchange in flight, if any, ends with `kind` and is handed on (R34). -/
def State.endExchange (s : State) (ch : Chan) (kind : EndKind) : State :=
  match (s.chan ch).exch with
  | none => s
  | some x =>
    let bit := (s.chan ch).addressAck x
    let s1 := s.consoleFlush ch
    let s2 := if x.recordIt then s1.hand (some ch) (.exchange (x.body bit kind s.tick)) else s1
    let s3 := s2.writeWindow x
    let s4 := if kind ≠ .aborted ∧ x.misframe = false then s3.takeClean ch else s3
    let s5 := (s4.tally ch fun t => t.ended x bit).releaseRefs x
    s5.onChan ch Channel.clearExchange

/-! ### NACKed data bytes (R20, R154) -/

/-- The data byte in hand is NACKed: the first NACKed byte position and DATA_NACKS. It is taken once per byte,
when the NACK is decided (log entry 20). -/
def State.noteNack (s : State) (ch : Chan) : State :=
  let c := s.chan ch
  match c.exch with
  | none => s
  | some x =>
    if c.noted then s
    else
      let s1 := s.onChan ch fun c =>
        { c with noted := true, exch := some { x with firstNack := some (x.firstNack.getD (x.count - 1)) } }
      if c.settings.nackCounting = .byte ∨ x.firstNack = none then
        s1.tally ch fun t => { t with dataNacks := bump t.dataNacks }
      else s1

/-! ### Answers at the address (R22 to R26, R71, R81) -/

/-- The address is refused: NACK, the given disposition, REFUSED. -/
def State.refuseAddress (s : State) (ch : Chan) (d : Disposition) : State :=
  s.onChan ch fun c =>
    { c.answer .nack with
      phase := .refused, grantWait := none, grantLimitTaken := false, arb := { c.arb with relayWaits := false }
      exch := c.exch.map fun x => { x with disposition := some d, addressAck := some .nack } }

/-- The address is answered locally: ACK, the given disposition, LOCAL. -/
def State.answerLocal (s : State) (ch : Chan) (d : Disposition) (image : Option (Fin 4)) : State :=
  s.onChan ch fun c =>
    { c.answer .ack with
      phase := .localAnswer
      exch := c.exch.map fun x => { x with disposition := some d, addressAck := some .ack, onImage := image } }

/-- The relay requests the D-side for the exchange (R23, R164), which is then in GRANT_WAIT: granted at once on
a grantable D-side that the engine does not wait for. -/
def Channel.askRelay (c : Channel) : Channel :=
  let c1 := { c with phase := .grantWait, grantWait := some (startTimer (ms c.settings.stuckLimit))
                     grantLimitTaken := false }
  if c.grantable && !c.arb.engineWaits then c1.grantRelay
  else { c1 with arb := { c1.arb with relayWaits := true } }

/-- The relay goes on with the grant it holds: Sr and the address (R23, R24, R32). -/
def Channel.restartRelay (c : Channel) : Channel :=
  { c.beginD .address c.inUse.restartAddress with phase := .dAddress }

/-- FORWARD (R23). -/
def State.applyForward (s : State) (ch : Chan) : State :=
  s.onChan ch fun c =>
    let c1 : Channel := { c with exch := c.exch.map fun x => { x with disposition := some .forwarded } }
    if c1.relayOpen then c1.restartRelay else c1.askRelay

/-- EMULATE k (R71). -/
def State.applyEmulate (s : State) (ch : Chan) (k : Fin 4) : State :=
  if (s.image k).busy then s.refuseAddress ch .busy else s.answerLocal ch .emulated (some k)

/-- The direction of the exchange in flight is READ. -/
def Channel.reading (c : Channel) : Bool :=
  match c.exch with
  | none => false
  | some x => decide (x.direction = .read)

/-- CONSOLE (R81). -/
def State.applyConsole (s : State) (ch : Chan) : State :=
  if (s.chan ch).reading then s.refuseAddress ch .denied
  else if s.consoleBlocks ch then s.refuseAddress ch .busy
  else s.answerLocal ch .console none

/-! ### The byte in hand (R25, R27, R57, R72, R82) -/

/-- The byte in hand is refused: NACK, and REFUSED (R57, R96, R100). -/
def State.refuseByte (s : State) (ch : Chan) : State :=
  (s.noteNack ch).onChan ch fun c => { c.answer .nack with phase := .refused }

/-- The byte in hand is sent on the D-side (R27). -/
def Channel.relayByte (c : Channel) : Channel :=
  { c.beginD .writeByte c.inUse.writeByte with phase := .relayWrite }

/-- The byte in hand is used as under NONE: relayed, or ACKed to be stored or appended at its acknowledge bit
(R57). -/
def State.useByte (s : State) (ch : Chan) : State :=
  s.onChan ch fun c =>
    match c.exch with
    | none => c
    | some x =>
      if x.disposition = some .forwarded then c.relayByte else { c.answer .ack with phase := .localAnswer }

/-- A disposition carried out (R95, R96): at the address, or for CONTINUE the byte in hand is used. -/
def State.apply (s : State) (ch : Chan) (p : Planned) : State :=
  match p with
  | .forward => s.applyForward ch
  | .emulate k => s.applyEmulate ch k
  | .console => s.applyConsole ch
  | .deny => s.refuseAddress ch .denied
  | .resume => s.useByte ch

/-- The target byte of an EMULATE WRITE used at its acknowledge bit (R72). -/
def State.storeByte (s : State) (ch : Chan) (x : Exchange) (k : Fin 4) : State :=
  let b := (s.chan ch).curByte
  if x.count = 1 then s.onImage k fun i => i.point b
  else
    (s.onImage k fun i => i.store b).onExch ch fun x => { x with stored := x.stored || !(s.image k).guarded }

/-- A byte taken in LOCAL used at its acknowledge bit (R72, R82). -/
def State.useLocal (s : State) (ch : Chan) : State :=
  match (s.chan ch).exch with
  | none => s
  | some x =>
    match x.onImage with
    | some k => s.storeByte ch x k
    | none => s.consoleTake ch (s.chan ch).curByte

/-- A byte the part gives on the C-side, its first bit on CnDA and the clock released (R21, R28, R73). -/
def Channel.give (c : Channel) (byte : Byte) : Channel :=
  { c with giving := some byte, bitsOut := 1, pull := { c.pull with c := ⟨false, !byte.getLsbD 7⟩ } }

/-- At a falling edge of CnCK inside a byte the part gives, its next bit is put on CnDA (R21, R28, R73); outside ACTIVE
the part drives no line (R1). -/
def Channel.shiftOut (c : Channel) : Channel :=
  match c.giving with
  | none => c
  | some b =>
    if c.mode = .active ∧ c.byteOpen = false ∧ c.bitsOut < 8 then
      { c with bitsOut := c.bitsOut + 1, pull := { c.pull with c := ⟨false, !b.getLsbD (7 - c.bitsOut)⟩ } }
    else c

/-- The next byte of an EMULATE READ taken from its image (R73). -/
def State.giveLocal (s : State) (ch : Chan) : State :=
  match (s.chan ch).exch with
  | none => s
  | some x =>
    match x.onImage with
    | none => s
    | some k =>
      (s.onImage k Image.advance).onChan ch fun c => c.give (s.image k).next

end Sys2Proof.Machine
end

