-- ==== Sys2Proof/Machine/Holds.lean ====
section
/-! DEFINITION. The hold unit (chapter 5): beginning and ending a hold, abandonment, and the three hold
requests. -/

namespace Sys2Proof.Machine

/-- A hold at the index stage (R87). -/
def HoldOrigin.atIndex : HoldOrigin → Bool
  | .entryIndex _ => true
  | _ => false

/-- The held time in whole milliseconds (R87). -/
def Hold.heldMs (h : Hold) : Nat := min max32 (h.elapsed / 1000)

/-- The hold record of a hold that begins at `now` on the exchange in flight (R87, R92). -/
def holdOf (c : Channel) (x : Exchange) (origin : HoldOrigin) (planned : Planned) (timeout : HoldTimeout)
    (now : Tick) : Hold :=
  { origin := origin, address := x.address, direction := x.direction
    byte := if origin.atIndex then c.curByte else 0
    planned := planned, timeout := timeout, start := now
    deadline := if c.settings.holdTimeout = 0 then none
      else some (now + BitVec.ofNat 32 (ms c.settings.holdTimeout))
    elapsed := 0 }

/-- A hold begins on the exchange in flight (R92), with the clock stretched low from then on (R93): the clock-high of the
sampled bit is over, and what is carried out at the hold's end begins from the clock still stretched (R95, R96). -/
def State.beginHold (s : State) (ch : Chan) (origin : HoldOrigin) (planned : Planned) (timeout : HoldTimeout) :
    State :=
  match (s.chan ch).exch with
  | none => s
  | some x =>
    let h := holdOf (s.chan ch) x origin planned timeout s.tick
    let s1 := s.onChan ch fun c => { c with hold := some h, phase := .held, highPhase := false }
    let s2 := (s1.hand (some ch) (.hold h.origin h.address h.direction h.byte)).raise (holdNotice ch)
    (s2.occur .holdStart none).tally ch fun t => { t with held := bump t.held }

/-- The hold, if any, leaves the list: its HOLD_END record and HOLDn (R95 to R101). -/
def State.endHold (s : State) (ch : Chan) (applied : Option Planned) (cause : HoldCause) : State :=
  match (s.chan ch).hold with
  | none => s
  | some h =>
    let s1 := s.onChan ch fun c => { c with hold := none }
    (s1.hand (some ch) (.holdEnd applied cause h.heldMs)).raise (holdNotice ch)

/-- A hold abandoned (R99). -/
def State.abandonHold (s : State) (ch : Chan) : State := s.endHold ch none .abandoned

/-- A held byte or a held address as a disposition goes on (R95, R96): DENY at the index stage refuses the byte. -/
def State.applyHeld (s : State) (ch : Chan) (atIndex : Bool) (p : Planned) : State :=
  if atIndex = true ∧ p = .deny then s.refuseByte ch else s.apply ch p

/-- A hold ended by RELEASE or by its timeout: HOLD_END, then the disposition is carried out (R95, R96, R97, log
entry 37). -/
def State.finishHold (s : State) (ch : Chan) (atIndex : Bool) (p : Planned) (cause : HoldCause) : State :=
  ((s.endHold ch (some p) cause).applyHeld ch atIndex p).retimeAll

/-- The disposition a hold's timeout applies (R97). -/
def Hold.onTimeout (h : Hold) : Planned :=
  match h.timeout with
  | .planned => h.planned
  | .deny => .deny
  | .forward => if h.origin.atIndex then .resume else .forward

/-- The tick count has come to the hold's deadline (R97). -/
def Hold.due (h : Hold) (now : Tick) : Bool :=
  match h.deadline with
  | none => false
  | some d => reached now d

/-- HOLD_TIMEOUT (R97). -/
def execHoldTimeout (ch : Chan) (s : State) : Host.Outcome State Fault Refusal :=
  match (s.chan ch).hold with
  | none => .next s
  | some h =>
    if s.inReset = false ∧ h.due s.tick = true then
      .next (s.finishHold ch h.origin.atIndex h.onTimeout .timeout)
    else .next s

/-- A hold abandoned at the entry to STOPPING; the exchange goes on in REFUSED (R100). -/
def State.refuseHeld (s : State) (ch : Chan) : State :=
  match (s.chan ch).hold with
  | none => s
  | some h =>
    if h.origin.atIndex then (s.abandonHold ch).refuseByte ch else (s.abandonHold ch).refuseAddress ch .busy

/-! ### RELEASE, PARK, HOLD STATUS (R94, R102, R103) -/

/-- A RELEASE disposition (R196): `none` for one outside the list; `some none` is PLANNED. -/
def dispositionOf (b : Byte) : Option (Option Planned) :=
  match b.toNat with
  | 0 => some none
  | 1 => some (some .forward)
  | 2 => some (some .deny)
  | 8 => some (some (.emulate 0))
  | 9 => some (some (.emulate 1))
  | 10 => some (some (.emulate 2))
  | 11 => some (some (.emulate 3))
  | _ => none

/-- A disposition a hold at the index stage does not take (R94). -/
def notAtIndex : Option Planned → Bool
  | some .forward => true
  | some (.emulate _) => true
  | _ => false

/-- RELEASE (R94). -/
def ownRelease (chan disposition : Byte) (s : State) : State × Answer :=
  match chanOf chan, dispositionOf disposition with
  | some ch, some d =>
    match (s.chan ch).hold with
    | none => (s, refuse .notHeld)
    | some h =>
      if h.origin.atIndex = true ∧ notAtIndex d = true then (s, refuse .badParam)
      else
        let p := d.getD h.planned
        (s.finishHold ch h.origin.atIndex p .released, okWith [p.code])
  | _, _ => (s, refuse .badParam)

/-- PARK (R102): SET is 0, CANCEL is 1. -/
def ownPark (chan choice : Byte) (s : State) : State × Answer :=
  match chanOf chan, choice.toNat with
  | some ch, 0 =>
    if (s.chan ch).mode = .isolated then (s, refuse .wrongMode)
    else (s.onChan ch fun c => { c with park := true }, okWith (yesNo (s.chan ch).park))
  | some ch, 1 => (s.onChan ch fun c => { c with park := false }, okWith (yesNo (s.chan ch).park))
  | _, _ => (s, refuse .badParam)

/-- Whole milliseconds from now to a tick count; 0 when it has been reached. -/
def msUntil (now deadline : Tick) : Nat := if reached now deadline then 0 else (deadline - now).toNat / 1000

/-- A hold record as HOLD STATUS carries it (R87, R103, log entry 18): its origin as the entry and the stage of a HOLD
record, its planned disposition by the codes of a disposition applied. The held time, which R103 names beside the fields
of the record and R87 makes one of them, is sent once, as the last field of the record, before the time
remaining. -/
def Hold.bytes (h : Hold) (ch : Chan) (now : Tick) : List Byte :=
  [chanCode ch, h.origin.code, h.origin.stage] ++ le8 h.address.toNat
    ++ [h.direction.code, h.byte, h.planned.code, h.timeout.code] ++ le32 h.start.toNat
    ++ optField (h.deadline.map fun d => le32 d.toNat) ++ le32 h.heldMs
    ++ optField (h.deadline.map fun d => le16 (msUntil now d))

/-- HOLD STATUS (R103): whether a hold is present, the record where one is, the park flag. -/
def ownHoldStatus (chan : Byte) (s : State) : State × Answer :=
  match chanOf chan with
  | none => (s, refuse .badParam)
  | some ch =>
    (s, okWith (yesNo (s.chan ch).hold.isSome ++ optField ((s.chan ch).hold.map fun h => h.bytes ch s.tick)
      ++ yesNo (s.chan ch).park))

/-- RELEASE (R94). -/
def execRelease (tag chan disposition : Byte) (s : State) : Host.Outcome State Fault Refusal :=
  .next (s.serve tag 0x38 (ownRelease chan disposition))

/-- PARK (R102). -/
def execPark (tag chan choice : Byte) (s : State) : Host.Outcome State Fault Refusal :=
  .next (s.serve tag 0x39 (ownPark chan choice))

/-- HOLD_STATUS (R103). -/
def execHoldStatus (tag chan : Byte) (s : State) : Host.Outcome State Fault Refusal :=
  .next (s.serve tag 0x3A (ownHoldStatus chan))

end Sys2Proof.Machine
end

