-- ==== Sys2Proof/Machine/Relay.lean ====
section
/-! DEFINITION. The relay engine (chapter 2): the conditions, bytes and acknowledge bits of the C-side and of the
joined bus, the D-side operations of the relay, and the arbiter's grant (R164). -/

namespace Sys2Proof.Machine

/-! ### Conditions on the C-side (R3, R14, R31 to R33) -/

/-- A START or Sr, seen at the tick count `time`, begins a new address byte (R3, R20, R43). -/
def Channel.beginAddress (c : Channel) (time : Tick) : Channel :=
  { c.releaseC with
    phase := if c.mode = .monitor then .observing else .address
    startTick := time, byteOpen := false, noted := false, cFree := false, freePoint := false }

/-- A STOP ends the transaction: no byte open and the C-side free (R3, R5, R33). A side already free by time has no
second bus-free point (R5), which leaves also sync as it stands (log entry 44). -/
def Channel.endTransaction (c : Channel) : Channel :=
  let c1 : Channel := { c.releaseC with phase := .free, byteOpen := false, noted := false, dOp := c.dOp.disown }
  if c1.cFree then c1 else c1.cFreePoint

/-- The relay closes the D-side at a C-side STOP, unless it is closing it already (R33). -/
def Channel.stopD (c : Channel) : Channel := if c.relayOpen then c.beginStop false else c

/-- The condition arrived inside a byte (R13): after the first bit of a byte and before its acknowledge bit. -/
def Channel.inByte (c : Channel) (bits : Nat) : Bool := c.byteOpen || decide (bits ≠ 0)

/-- What a misframe of the first kind does beyond the integration (R14): the exchange aborted, the D-side closed. The
closing falls in the transaction that a START goes on with, until a STOP ends it. -/
def State.cutFrame (s : State) (ch : Chan) : State :=
  (s.endExchange ch .aborted).onChan ch fun c => c.closeD true

/-- A START, seen at the tick count `time`, acted on (R14, R32, R43). -/
def State.takeStart (s : State) (ch : Chan) (inByte : Bool) (time : Tick) : State :=
  (if inByte then s.cutFrame ch else s.endExchange ch .restart).onChan ch fun c => c.beginAddress time

/-- A STOP acted on (R14, R33, R43). -/
def State.takeStop (s : State) (ch : Chan) (inByte : Bool) : State :=
  ((if inByte then s.cutFrame ch else s.endExchange ch .stop).onChan ch Channel.stopD).onChan ch
    Channel.endTransaction

/-- A condition seen at the tick count `time`, acted on; the misframe of one inside a byte has been taken. -/
def State.takeCond (s : State) (ch : Chan) (inByte : Bool) (time : Tick) : Cond → State
  | .start => s.takeStart ch inByte time
  | .stop => s.takeStop ch inByte

/-- The lines at a condition: the clock low after a START, both lines high after a STOP (log entry 7). -/
def Channel.condLines (c : Channel) (k : Cond) : Channel :=
  match k with
  | .start => c.trafficC true false
  | .stop => c.trafficC false false

/-- A condition while the front end begins no exchange: a START makes the side busy, a STOP makes it free
(R3, R7, R149). Either ends the byte that was coming. -/
def Channel.plainCond (c : Channel) (k : Cond) : Channel :=
  match k with
  | .start => { c with cFree := false, freePoint := false, byteOpen := false, noted := false }
  | .stop => c.endTransaction

/-- The front end knows where a byte begins, and so recognises misframes (R7, R13). -/
def Channel.framing (c : Channel) : Bool := decide (c.sync = .synced)

/-- The front end may begin exchanges: not while STUCK_C is declared (R7, R149). -/
def Channel.begins (c : Channel) : Bool := c.framing && !c.health.stuckC

/-- The part holds the C-side clock low, so that no condition can arrive (R31): it stretches, and the controller's
falling edge has come. -/
def Channel.clockHeld (c : Channel) : Bool := c.cPull.clock

/-- What comes on the C-side is to wait for the end of the D-side bit in progress (R31): what waits already, or a
condition at a byte boundary during the ninth pulse of a read byte. R31 names a write byte's ninth pulse too, as one that
may still be in progress when the acknowledge has been released to the C-side; by R27 the acknowledge is given only
after that pulse's high phase, so none is in progress then, and the model follows R27 (log entry 38). -/
def Channel.mustKeep (c : Channel) (bits : Nat) : Bool :=
  decide (c.deferred ≠ []) || (decide (c.dOp = .readAck) && !c.inByte bits)

/-- A condition kept to the end of the D-side bit in progress; the stretch that was due ends with it. -/
def Channel.keepCond (c : Channel) (k : Cond) (bits : Nat) (time : Tick) : Channel :=
  { c.releaseC with byteOpen := false, deferred := c.deferred ++ [.cond k (c.inByte bits) time] }

/-- The misframe of a condition inside a byte, taken at the moment it is recognised (R13, R144). It falls in the exchange
in flight, but for one behind a kept condition, which that exchange has ended with, and one under STUCK_C, where none is
in flight (log entry 38). -/
def State.condMisframe (s : State) (ch : Chan) (inExch : Bool) (bits : Nat) : State :=
  if (s.chan ch).inByte bits then (if inExch then s.misframe ch else s.takeMisframe ch) else s

/-- A condition recognised on the C-side or the joined bus (R3). In ISOLATED and in power-on reset only the
levels count; with sync UNKNOWN no misframe is recognised (R7). -/
def State.cCondition (s : State) (ch : Chan) (k : Cond) (bits : Nat) : State :=
  let c := s.chan ch
  let s1 := s.onChan ch fun c => c.condLines k
  let s2 := s1.onChan ch fun c => { c with highPhase := false }
  if s.inReset = true ∨ c.mode = .isolated then s1
  else if c.clockHeld then s
  else if c.framing = false then s2.onChan ch fun c => c.plainCond k
  else if c.begins = false then (s2.condMisframe ch false bits).onChan ch fun c => c.plainCond k
  else if c.mustKeep bits then (s2.condMisframe ch false bits).onChan ch fun c => c.keepCond k bits s.tick
  else (s2.condMisframe ch true bits).takeCond ch (c.inByte bits) s.tick k

/-- C_START (R3): a START or Sr; `bits` is how many bits of a byte were sampled since the last byte boundary. -/
def execCStart (ch : Chan) (bits : Nat) (s : State) : Host.Outcome State Fault Refusal :=
  .next (s.cCondition ch .start bits).retimeAll

/-- C_STOP (R33). -/
def execCStop (ch : Chan) (bits : Nat) (s : State) : Host.Outcome State Fault Refusal :=
  .next (s.cCondition ch .stop bits).retimeAll

/-! ### The address byte (R20, R22, R43, R51 to R54) -/

/-- The exchange an address byte brings into being (R20); without a scan it takes the default record as it stands at
the address byte (R58, log entry 45). -/
def newExchange (c : Channel) (byte : Byte) : Exchange :=
  { address := (byte >>> 1).setWidth 7, direction := if byte.getLsbD 0 then .read else .write
    disposition := none, action := none, addressEntry := none, indexEntry := none
    recordIt := c.settings.defaultRecord, addressAck := none, count := 0, shown := [], firstNack := none
    startTime := c.startTick, misframe := false, onImage := none, stored := false }

/-- The action of a winning entry, or the channel default (R53, R54). -/
def addressAction (c : Channel) (winner : Option (Nat × Copy)) : AddrAction :=
  match winner with
  | some (_, .address _ _ a) => a
  | _ =>
    match c.settings.defaultAction with
    | .forward => .forward
    | .deny => .deny

/-- What an exchange keeps of its address-stage scan (R54, R58). -/
def Exchange.scanned (x : Exchange) (action : AddrAction) (winner : Option (Nat × Copy)) : Exchange :=
  { x with
    action := some action
    addressEntry := winner.map (fun p => p.1)
    recordIt := if winner = none then x.recordIt else recordMark winner }

/-- An action as a planned disposition (R89); a hold's is FORWARD (R88). -/
def AddrAction.planned : AddrAction → Planned
  | .forward => .forward
  | .emulate k => .emulate k
  | .deny => .deny
  | .console => .console
  | .hold _ => .forward

/-- A HOLD entry's timeout disposition (R88). -/
def TimeoutAction.toHold : TimeoutAction → HoldTimeout
  | .forward => .forward
  | .deny => .deny

/-- What the address stage does (R22, R88, R89): the action, or a hold. -/
def addressNext (action : AddrAction) (winner : Option (Nat × Copy)) (parked : Bool) : NextAct :=
  match action, winner with
  | .hold t, some (k, _) => .hold (.entryAddress k) .forward t.toHold
  | a, _ => if parked then .hold .park a.planned .planned else .apply a.planned

/-- What was decided at an address stage is begun. -/
def State.takeNext (s : State) (ch : Chan) (n : NextAct) : State :=
  match n with
  | .apply p => s.apply ch p
  | .hold origin planned timeout => s.beginHold ch origin planned timeout

/-- What was decided at an address stage is begun. Anything but FORWARD waits for the closing of a grant that an
earlier exchange of the same transaction had: R26's STOP, or the closing of R14 that is in progress (log entry 10). -/
def State.decided (s : State) (ch : Chan) (n : NextAct) : State :=
  if n = .apply .forward then s.takeNext ch n
  else if (s.chan ch).relayOpen then s.onChan ch fun c => { c.beginStop true with nextAct := some n }
  else if (s.chan ch).closesHere then s.onChan ch fun c => { c with nextAct := some n }
  else s.takeNext ch n

/-- The address-stage scan of the exchange in flight (R51 to R54), without its TRIGGER. -/
def State.addressScan (s : State) (ch : Chan) (x : Exchange) : State × Option (Nat × Copy) :=
  let r := scanFrom (addressCandidate ch x.address x.direction) 0 s.rules
  (({ s with rules := r.rules } : State).onExch ch fun x => x.scanned (addressAction (s.chan ch) r.winner) r.winner,
    r.winner)

/-- The address stage in ACTIVE outside STOPPING: the scan, the park flag used, the TRIGGER, and what was
decided (R22, R54, R90). -/
def State.addressStage (s : State) (ch : Chan) (x : Exchange) : State :=
  let r := s.addressScan ch x
  let n := addressNext (addressAction (s.chan ch) r.2) r.2 (s.chan ch).park
  ((r.1.onChan ch fun c => { c with park := false }).ruleTrigger r.2).decided ch n

/-- An address stage that STOPPING refuses (R22, R32): the NACK is given at once, with the closing STOP in progress
(log entry 10). -/
def State.refuseStopping (s : State) (ch : Chan) : State :=
  (s.refuseAddress ch .busy).onChan ch fun c => if c.relayOpen then c.beginStop true else c

/-- The front end takes an address byte now. -/
def State.takesAddress (s : State) (ch : Chan) : Bool :=
  let c := s.chan ch
  !s.inReset && c.begins && !c.byteOpen && decide (c.deferred = []) && c.exch.isNone
    && (decide (c.mode = .active ∧ c.phase = .address) || decide (c.mode = .monitor ∧ c.phase = .observing))

/-- The last item kept is a START. -/
def Channel.keptStart (c : Channel) : Bool :=
  match c.deferred.getLast? with
  | some (.cond .start _ _) => true
  | _ => false

/-- The front end takes an address byte behind a START that is kept to the end of a D-side bit (R31). -/
def State.keepsAddress (s : State) (ch : Chan) : Bool :=
  let c := s.chan ch
  !s.inReset && c.begins && !c.byteOpen && c.keptStart && decide (c.mode = .active)

/-- The front end follows a byte of which nothing is made, since it begins no exchange while STUCK_C is declared (R149):
it goes on knowing where a byte begins, for the misframes of R13. -/
def State.followsByte (s : State) (ch : Chan) : Bool :=
  let c := s.chan ch
  !s.inReset && c.framing && c.health.stuckC && decide (c.mode ≠ .isolated) && !c.byteOpen && !c.pull.c.clock

/-- A byte of which nothing is made: its eighth bit is sampled. -/
def Channel.followByte (c : Channel) (byte : Byte) : Channel := { c.sampleByte byte with byteOpen := true }

/-- The exchange of an address byte comes into being, its eighth bit sampled; in ACTIVE it is stretched in
DECIDE, in MONITOR it is observed (R21, R22, R43). -/
def Channel.openExchange (c : Channel) (byte : Byte) : Channel :=
  let c1 : Channel := { c with byteOpen := true, noted := false }
  if c.mode = .monitor then
    { c1 with exch := some { newExchange c byte with disposition := some .observed } }
  else { c1.stretch with phase := .decide, exch := some (newExchange c byte) }

/-- The exchange of an address byte with its lookup and no more (R43, R54): that of an observed exchange. -/
def State.lookAddress (s : State) (ch : Chan) (byte : Byte) : State :=
  let r := (s.onChan ch fun c => c.openExchange byte).addressScan ch (newExchange (s.chan ch) byte)
  r.1.ruleTrigger r.2

/-- An address byte acted on (R22, R43): the exchange, and its address stage. -/
def State.takeAddress (s : State) (ch : Chan) (byte : Byte) : State :=
  let s1 := s.onChan ch fun c => c.openExchange byte
  if (s.chan ch).mode = .monitor then s.lookAddress ch byte
  else if s.supply.state = .stopping then s1.refuseStopping ch
  else s1.addressStage ch (newExchange (s.chan ch) byte)

/-- A kept address byte that a further kept condition follows (R22, R31): its exchange comes into being and is looked
up, outside STOPPING, and ends at that condition before an action is applied. The scan is made in ACTIVE without its
park flag: no action is there to be planned, so the flag is neither read nor used and stays set for the next exchange
(R54, R90, log entry 38). -/
def State.passAddress (s : State) (ch : Chan) (byte : Byte) : State :=
  if s.supply.state = .stopping then s.onChan ch fun c => c.openExchange byte else s.lookAddress ch byte

/-- An address byte behind a kept START, stretched to the end of the D-side bit in progress (R21, R22, R31). -/
def Channel.keepAddress (c : Channel) (byte : Byte) : Channel :=
  { (c.sampleByte byte).stretch with byteOpen := true, deferred := c.deferred ++ [.address byte] }

/-- ADDRESS_BYTE_COMPLETE (R22, R43). -/
def execAddressByteComplete (ch : Chan) (byte : Byte) (s : State) : Host.Outcome State Fault Refusal :=
  if s.takesAddress ch = true then .next ((s.onChan ch fun c => c.sampleByte byte).takeAddress ch byte).retimeAll
  else if s.keepsAddress ch = true then .next (s.onChan ch fun c => c.keepAddress byte).retimeAll
  else if s.followsByte ch = true then .next (s.onChan ch fun c => c.followByte byte).retimeAll
  else .next s

/-- What was kept to the end of a D-side bit, acted on in order (R31). -/
def State.takeKept (s : State) (ch : Chan) : List Kept → State
  | [] => s
  | .cond k inByte time :: rest => (s.takeCond ch inByte time k).takeKept ch rest
  | .address byte :: rest =>
    (if rest = [] then s.takeAddress ch byte else s.passAddress ch byte).takeKept ch rest

/-! ### Data bytes (R25, R27, R43, R56, R57) -/

/-- The index-stage scan of the exchange in flight (R56), without its TRIGGER. -/
def State.indexScan (s : State) (ch : Chan) (x : Exchange) (byte : Byte) : State × Option (Nat × Copy) :=
  let r := scanFrom (indexCandidate ch x.address byte) 0 s.rules
  (({ s with rules := r.rules } : State).onExch ch fun x =>
      { x with indexEntry := r.winner.map (fun p => p.1), recordIt := x.recordIt || recordMark r.winner },
    r.winner)

/-- The index-stage action, applied before the byte is used (R25, R57). -/
def State.indexAct (s : State) (ch : Chan) (winner : Option (Nat × Copy)) : State :=
  match winner with
  | some (k, .index _ _ _ a) =>
    match a with
    | .pass => s.useByte ch
    | .deny => s.refuseByte ch
    | .hold t => s.beginHold ch (.entryIndex k) .resume t.toHold
  | _ => s.useByte ch

/-- The index stage in ACTIVE (R25). -/
def State.indexStage (s : State) (ch : Chan) (x : Exchange) (byte : Byte) : State :=
  let r := s.indexScan ch x byte
  (r.1.ruleTrigger r.2).indexAct ch r.2

/-- An observed WRITE exchange whose action reaches the index stage (R43). -/
def Exchange.observesIndex (x : Exchange) : Bool :=
  decide (x.direction = .write) && (match x.action with
    | some .forward => true
    | some (.emulate _) => true
    | some .console => true
    | _ => false)

/-- A data byte completed: counted, and one of the first 16 shown (R20). -/
def Exchange.counted (x : Exchange) (byte : Byte) : Exchange :=
  { x with count := x.count + 1, shown := if x.shown.length < 16 then x.shown ++ [byte] else x.shown }

/-- What the part pulls CnDA to for the eighth bit of a data byte: the last bit of a byte it gives (R28, R73). -/
def Channel.lastBit (c : Channel) : Bool :=
  match c.giving with
  | none => c.pull.c.data
  | some b => !b.getLsbD 0

/-- A data byte's eighth bit is sampled; for the ninth, from the falling edge on, the part releases the data line of a
byte it gave (R28, R73). -/
def Channel.openByte (c : Channel) (byte : Byte) : Channel :=
  { (c.sampleByte byte).restC with
    byteOpen := true, noted := false, curByte := c.lineByte byte, highData := c.lastBit
    exch := c.exch.map fun x => x.counted (c.lineByte byte) }

/-- The front end takes a data byte now. -/
def State.takesData (s : State) (ch : Chan) : Bool :=
  let c := s.chan ch
  !s.inReset && c.begins && decide (c.mode ≠ .isolated) && !c.byteOpen && !c.pull.c.clock
    && decide (c.deferred = []) && (match c.phase with
        | .relayWrite => c.exch.isSome
        | .relayRead => c.exch.isSome
        | .localAnswer => c.exch.isSome
        | .observing => c.exch.isSome
        | .refused => true
        | _ => false)

/-- What is done with a completed data byte in the phase it came in. -/
def State.byteStage (s : State) (ch : Chan) (x : Exchange) : State :=
  let byte := (s.chan ch).curByte
  match (s.chan ch).phase with
  | .relayWrite =>
    let s1 := s.onChan ch Channel.stretch
    if x.count = 0 then s1.indexStage ch x byte else s1.onChan ch Channel.relayByte
  | .localAnswer =>
    if x.direction = .read then s
    else if x.count = 0 then (s.onChan ch Channel.stretch).indexStage ch x byte
    else s.onChan ch fun c => c.answer .ack
  | .observing =>
    if x.count = 0 ∧ x.observesIndex = true then
      let r := s.indexScan ch x byte
      r.1.ruleTrigger r.2
    else s
  | _ => s

/-- DATA_BYTE_COMPLETE (R27, R30, R42, R43, R72, R82). -/
def execDataByteComplete (ch : Chan) (byte : Byte) (s : State) : Host.Outcome State Fault Refusal :=
  if s.takesData ch = true then
    let s1 := s.onChan ch fun c => c.openByte byte
    match (s.chan ch).exch with
    | none => .next s1.retimeAll
    | some x => .next (s1.byteStage ch x).retimeAll
  else if s.followsByte ch = true then .next (s.onChan ch fun c => c.followByte byte).retimeAll
  else .next s

/-! ### Acknowledge bits on the C-side (R4, R28, R29, R72, R73, R82, R84) -/

/-- The acknowledge bit the C-side carried: low while the part pulls the data line (log entry 33). -/
def Channel.lineAck (c : Channel) (bit : AckBit) : AckBit := if c.pull.c.data then .ack else bit

/-- The relay asks the device for a read byte, with the C-side clock stretched (R28). -/
def Channel.fetch (c : Channel) (span : Nat) : Channel := { c.stretch.beginD .readByte span with giving := none }

/-- The address acknowledge bit is sampled. -/
def State.addressAcked (s : State) (ch : Chan) (bit : AckBit) : State :=
  match (s.chan ch).phase with
  | .observing => s.onExch ch fun x => { x with addressAck := some bit }
  | .relayRead => s.onChan ch fun c => c.fetch c.inUse.firstReadByte
  | .localAnswer => if (s.chan ch).reading then s.giveLocal ch else s
  | _ => s

/-- The ninth pulse of a read byte on the D-side: DnDA pulled low for an ACK and released for a NACK (R28, R29). -/
def Channel.driveAck (c : Channel) (bit : AckBit) : Channel :=
  let c1 := c.beginD .readAck c.inUse.heldPulse
  { c1 with giving := none, pull := { c1.pull with d := ⟨false, decide (bit = .ack)⟩ } }

/-- The controller's acknowledge bit in a relayed read, driven on the D-side (R28, R29). -/
def State.readAcked (s : State) (ch : Chan) (bit : AckBit) : State :=
  match bit with
  | .ack => s.onChan ch fun c => c.stretch.driveAck .ack
  | .nack => (s.noteNack ch).onChan ch fun c => { c.driveAck .nack with phase := .refused }

/-- A data byte's acknowledge bit in a local read (R73). -/
def State.localReadAcked (s : State) (ch : Chan) (bit : AckBit) : State :=
  match bit with
  | .ack => s.giveLocal ch
  | .nack => (s.noteNack ch).onChan ch fun c => { c with giving := none, phase := .refused }

/-- A byte of an observed exchange (R44, R84). -/
def State.observedAck (s : State) (ch : Chan) (x : Exchange) (bit : AckBit) : State :=
  let s1 := if bit = .nack then s.noteNack ch else s
  if x.action = some .console ∧ x.direction = .write then s1.consoleTake ch (s.chan ch).curByte else s1

/-- A data byte's acknowledge bit is sampled. -/
def State.dataAcked (s : State) (ch : Chan) (x : Exchange) (bit : AckBit) : State :=
  match (s.chan ch).phase with
  | .observing => s.observedAck ch x bit
  | .relayRead => s.readAcked ch bit
  | .localAnswer => if x.direction = .read then s.localReadAcked ch bit else s.useLocal ch
  | .refused => if bit = .nack then s.noteNack ch else s
  | _ => s

/-- The front end takes an acknowledge bit now. -/
def State.takesAck (s : State) (ch : Chan) : Bool :=
  let c := s.chan ch
  !s.inReset && c.framing && decide (c.mode ≠ .isolated) && c.byteOpen && !c.pull.c.clock

/-- A ninth bit is sampled; the part holds its acknowledge value on CnDA until the falling edge (R21). -/
def Channel.sampleAck (c : Channel) (bit : AckBit) : Channel :=
  { (c.sampleC (decide (c.lineAck bit = .ack))).restC with byteOpen := false }

/-- C_ACK_COMPLETE (R28). -/
def execCAckComplete (ch : Chan) (bit : AckBit) (s : State) : Host.Outcome State Fault Refusal :=
  if s.takesAck ch = true then
    let b := (s.chan ch).lineAck bit
    let s1 := s.onChan ch fun c => c.sampleAck bit
    match (s.chan ch).exch with
    | none => .next s1.retimeAll
    | some x => .next (if x.count = 0 then s1.addressAcked ch b else s1.dataAcked ch x b).retimeAll
  else .next s

/-! ### The wait for the grant, and the grant (R23, R24, R164) -/

/-- An exchange whose limit in GRANT_WAIT has expired is refused once the seen-free flag is clear (R23). -/
def State.grantLost (s : State) (ch : Chan) : State :=
  let c := s.chan ch
  if c.phase = .grantWait ∧ c.grantLimitTaken = true ∧ c.seenFree = false then s.refuseAddress ch .busy else s

/-- GRANT_WAIT_STUCK_LIMIT (R23). -/
def execGrantWaitStuckLimit (ch : Chan) (s : State) : Host.Outcome State Fault Refusal :=
  let c := s.chan ch
  if s.inReset = false ∧ c.phase = .grantWait ∧ timerDue c.grantWait = true ∧ c.grantLimitTaken = false then
    .next ((s.onChan ch fun c => { c with grantLimitTaken := true }).grantLost ch).retimeAll
  else .next s

/-- The arbiter grants the D-side to a waiter (R164): of two, to the one that is not the last holder, and with
last holder NONE to the relay. -/
def State.grantWaiter (s : State) (ch : Chan) : State :=
  let a := (s.chan ch).arb
  if a.relayWaits = true ∧ (a.engineWaits = false ∨ a.last ≠ .relay) then s.onChan ch Channel.grantRelay
  else if a.engineWaits then
    match s.engine.job with
    | none => s
    | some j => s.grantUnit ch j
  else s

/-- D_SIDE_GRANT (R164). -/
def execDSideGrant (ch : Chan) (s : State) : Host.Outcome State Fault Refusal :=
  if s.inReset = false ∧ (s.chan ch).grantable = true then .next (s.grantWaiter ch).retimeAll else .next s

/-! ### The relay's D-side operations -/

/-- The relay makes the given operation on its D-side. -/
def State.relayDoes (s : State) (ch : Chan) (op : DOp) : Bool :=
  !s.inReset && decide ((s.chan ch).arb.holder = .relay ∧ (s.chan ch).dOp = op)

/-- The phase after the D-side address acknowledge bit (R24). -/
def ackPhase (dir : Dir) (bit : AckBit) : Phase :=
  match bit, dir with
  | .nack, _ => .refused
  | .ack, .write => .relayWrite
  | .ack, .read => .relayRead

/-- D_ADDRESS_ACK (R24). -/
def execDAddressAck (ch : Chan) (bit : AckBit) (s : State) : Host.Outcome State Fault Refusal :=
  match (s.chan ch).exch with
  | none => .next s
  | some x =>
    if s.relayDoes ch .address = true then
      .next (s.onChan ch fun c =>
        { c.restD.answer bit with
          phase := ackPhase x.direction bit, exch := some { x with addressAck := some bit } }).retimeAll
    else .next s

/-- D_WRITE_BYTE_DONE (R27). -/
def execDWriteByteDone (ch : Chan) (bit : AckBit) (s : State) : Host.Outcome State Fault Refusal :=
  if s.relayDoes ch .writeByte = true then
    let s1 := s.onChan ch Channel.restD
    match bit with
    | .ack => .next (s1.onChan ch fun c => c.answer .ack).retimeAll
    | .nack => .next (s1.refuseByte ch).retimeAll
  else .next s

/-- D_READ_BYTE_DONE (R28): the byte's first bit is put on CnDA and the clock released. -/
def execDReadByteDone (ch : Chan) (byte : Byte) (s : State) : Host.Outcome State Fault Refusal :=
  if s.relayDoes ch .readByte = true then
    .next (s.onChan ch fun c => c.restD.give byte).retimeAll
  else .next s

/-- D_READ_ACK_DONE (R28, R29, R31): what was kept to the end of the bit is acted on; after an ACK the next byte is
read. A STOP or an Sr so begun at the falling edge that ends the ninth pulse is counted from its data change, as one
begun from DnCK held low is (log entry 9). -/
def execDReadAckDone (ch : Chan) (s : State) : Host.Outcome State Fault Refusal :=
  if s.relayDoes ch .readAck = true then
    let kept := (s.chan ch).deferred
    let s1 := s.onChan ch fun c => { c.restD with deferred := [] }
    if kept ≠ [] then .next (s1.takeKept ch kept).retimeAll
    else if (s.chan ch).phase = .relayRead then
      .next (s1.onChan ch fun c => c.fetch c.inUse.nextReadByte).retimeAll
    else .next s1.retimeAll
  else .next s

/-- The relay is closing its D-side. -/
def Channel.relayCloses (c : Channel) : Bool := decide (c.arb.holder = .relay) && !c.relayOpen

/-- What an address stage kept for after its closing STOP is begun (R26), whatever the supply state has become since
(log entry 10). -/
def State.resumeNext (s : State) (ch : Chan) : State :=
  match (s.chan ch).nextAct with
  | none => s
  | some n => (s.onChan ch fun c => { c with nextAct := none }).takeNext ch n

/-- The engine makes the STOP of a probe on the channel (R168). -/
def State.probeStops (s : State) (ch : Chan) : Bool :=
  match s.engine.job with
  | none => false
  | some j => decide (j.chan = ch) && j.probeAck.isSome && decide ((s.chan ch).arb.holder = .engine)

/-- D_STOP_COMPLETE (R33, R39): the closing pulses of R14 end with the same STOP. The STOP of a probe ends with it too
(R168, log entry 24). -/
def execDStopComplete (ch : Chan) (s : State) : Host.Outcome State Fault Refusal :=
  if s.inReset = false ∧ (s.chan ch).relayCloses = true then
    .next ((s.onChan ch Channel.stopMade).resumeNext ch).retimeAll
  else if s.inReset = false ∧ s.probeStops ch = true then
    .next ((s.onChan ch Channel.stopMade).afterProbe).retimeAll
  else .next s

/-- The closing pulses that follow a failed STOP (R39, R166). -/
def DOp.failStop : DOp → DOp
  | .stop same => .closing same
  | .unit => .closing false
  | op => op

/-- D_STOP_FAILED (R39, R166). -/
def execDStopFailed (ch : Chan) (s : State) : Host.Outcome State Fault Refusal :=
  if s.inReset = false ∧ (s.chan ch).arb.holder ≠ .none then
    .next (s.onChan ch fun c => { c with dOp := c.dOp.failStop }).retimeAll
  else .next s

end Sys2Proof.Machine
end

