-- ==== Sys2Proof/Machine/Stuck.lean ====
section
/-! DEFINITION. What fails on a bus: D-side failures (R13, R40 to R42), STUCK_C and STUCK_D, and the bus clear
(chapter 8). -/

namespace Sys2Proof.Machine

/-- What was kept for a D-side bit that was cut short by a failure is acted on at once (R31). -/
def State.flushDeferred (s : State) (ch : Chan) : State :=
  (s.onChan ch fun c => { c with deferred := [] }).takeKept ch (s.chan ch).deferred

/-- What was kept for a D-side bit is dropped by an abort that lets no exchange begin; the side is free or busy as
the last condition left it (R31, log entry 38). -/
def Channel.settleKept (c : Channel) : Channel :=
  match c.deferred.getLast? with
  | none => c
  | some (.cond .stop _ _) => { c with deferred := [], cFree := true }
  | some _ => { c with deferred := [], cFree := false }

/-- The two measurements of high D-side lines are broken by a low phase the part itself makes (R5, R150). -/
def Channel.breakClear (c : Channel) : Channel := { c with meters := { c.meters with dIdle := none, dClear := none } }

/-- A bus clear is in the low phase of a pulse, so that neither measurement has begun in it yet (log entry 41). -/
def Channel.clearLow (c : Channel) : Bool := c.health.busClear.any fun b => decide (b.since < b.lead)

/-! ### STUCK_D and the bus clear (R150, R151) -/

/-- A bus clear goes on with a pulse, or with its STOP where `stopping`, from DnCK low (R151). -/
def Channel.clearPhase (c : Channel) (pulses : Nat) (plan : Plan) (stopping : Bool) : Channel :=
  { c.breakClear with health := { c.health with busClear := some ⟨pulses, plan, stopping, 0⟩ } }

/-- A bus clear starts: pulses with DnDA released, under the plan as it stands (R151). -/
def Channel.startClear (c : Channel) : Channel := c.releaseD.clearPhase 0 c.plan false

/-- A bus clear ends: both lines released, its result kept (R151). -/
def Channel.endClear (c : Channel) (r : ClearResult) : Channel :=
  { c.releaseD with health := { c.health with busClear := none, lastClear := r } }

/-- A bus clear that runs is stopped where it stands (R143, R151). What is measured of lines high since a pulse's high
phase goes on; a low phase or a STOP had the part pulling a line low till now (log entry 41). -/
def Channel.abandonClear (c : Channel) : Channel :=
  match c.health.busClear with
  | none => c
  | some b => (if b.lead ≤ b.since ∧ b.stopping = false then c else c.breakClear).endClear .abandoned

/-- STUCK_D was clear and is declared: EVENT, HEALTHn, and one bus clear where DnCK is high and nobody holds the
grant (R150). -/
def State.setStuckD (s : State) (ch : Chan) : State :=
  let s1 := s.onHealth ch fun h => { h with stuckD := true }
  let s2 := (s1.event (some ch) (.stuckD true)).raiseIf (!s1.tripLatch) (healthNotice ch)
  let c := s2.chan ch
  if s2.dClockLow ch = false ∧ c.arb.holder = .none ∧ c.health.busClear = none then s2.onChan ch Channel.startClear
  else s2

/-- STUCK_D declared, if it was not (R150, R151): the seen-free flag first; a job on the channel fails with the
declaration (R170). The D-side, of which a line is stuck low, becomes busy with it (log entry 49). -/
def State.declareStuckD (s : State) (ch : Chan) : State :=
  let s1 := s.onChan ch fun c => { c with seenFree := false, dFree := false }
  (if (s1.chan ch).health.stuckD then s1 else (s1.setStuckD ch).endJobOn ch .stuck).grantLost ch

/-- The exchange in flight at a clearing of STUCK_D: its hold abandoned, the lines released, the exchange
aborted, the phase FREE (R150, log entry 22). -/
def State.abortStuck (s : State) (ch : Chan) : State :=
  ((s.abandonHold ch).endExchange ch .aborted).onChan ch fun c =>
    { c.releaseC with phase := .free, byteOpen := false }

/-- STUCK_D cleared (R150). -/
def State.clearStuckD (s : State) (ch : Chan) : State :=
  let s1 := (s.abortStuck ch).onHealth ch fun h => { h with stuckD := false }
  let s2 := (s1.event (some ch) (.stuckD false)).raiseIf (!s1.tripLatch) (healthNotice ch)
  s2.onChan ch fun c => { c.dFreePoint with sync := .unknown }

/-- STUCK_D_LINE_TIMEOUT (R150). -/
def execStuckDLineTimeout (ch : Chan) (s : State) : Host.Outcome State Fault Refusal :=
  let c := s.chan ch
  if s.inReset = false ∧ timerPast c.meters.stuckD = true ∧ c.health.stuckD = false then
    .next (s.declareStuckD ch).retimeAll
  else .next s

/-- STUCK_D_CLEAR (R150). -/
def execStuckDClear (ch : Chan) (s : State) : Host.Outcome State Fault Refusal :=
  let c := s.chan ch
  if s.inReset = false ∧ timerDue c.meters.dClear = true ∧ c.health.stuckD = true then
    .next (s.clearStuckD ch).retimeAll
  else .next s

/-- A measurement of high lines that began after the low phase of the pulse, in which DnDA was sampled low; an earlier
one has been broken by that low (log entry 41). -/
def BusClear.inHigh (b : BusClear) (t : Option Timer) : Option Timer :=
  t.filter fun t => decide (b.lead + t.elapsed ≤ b.since)

/-- The ninth pulse of a bus clear ends with DnDA sampled low in it (R151, step 5). A measurement begun in the pulse's
high phase goes on (R5, R150). -/
def Channel.lastPulse (c : Channel) (b : BusClear) : Channel :=
  ({ c with meters := { c.meters with dIdle := b.inHigh c.meters.dIdle, dClear := b.inHigh c.meters.dClear } } :
    Channel).endClear .failed

/-- The bus clear after a pulse that sampled DnDA (R151, steps 1, 2 and 5). -/
def Channel.afterPulse (c : Channel) (b : BusClear) (dataHigh : Bool) : Channel :=
  if dataHigh then c.clearPhase (b.pulses + 1) b.plan true
  else if 9 ≤ b.pulses + 1 then c.lastPulse b
  else c.clearPhase (b.pulses + 1) b.plan false

/-- BUS_CLEAR_PULSE_DONE (R151). -/
def execBusClearPulseDone (ch : Chan) (dataHigh : Bool) (s : State) : Host.Outcome State Fault Refusal :=
  match (s.chan ch).health.busClear with
  | none => .next s
  | some b =>
    if s.inReset = false ∧ b.stopping = false then
      .next (s.onChan ch fun c => c.afterPulse b dataHigh).retimeAll
    else .next s

/-- A bus clear's STOP is made (R151, step 3): CLEARED, and STUCK_D clears. -/
def State.clearMade (s : State) (ch : Chan) : State :=
  let s1 := s.onChan ch fun c => (c.breakClear.endClear .cleared).dFreePoint
  if (s1.chan ch).health.stuckD then s1.clearStuckD ch else s1

/-- The bus clear after a STOP that failed (R151, steps 4 and 5). -/
def Channel.clearFailed (c : Channel) (b : BusClear) : Channel :=
  if b.pulses < 9 then c.clearPhase b.pulses b.plan false else c.breakClear.endClear .failed

/-- BUS_CLEAR_STOP_DONE (R151). -/
def execBusClearStopDone (ch : Chan) (dataHigh : Bool) (s : State) : Host.Outcome State Fault Refusal :=
  match (s.chan ch).health.busClear with
  | none => .next s
  | some b =>
    if s.inReset = false ∧ b.stopping = true then
      if dataHigh then .next (s.clearMade ch).retimeAll
      else .next (s.onChan ch fun c => c.clearFailed b).retimeAll
    else .next s

/-- BUS CLEAR (R152). Of several refusals the first of its list is given (log entry 52). -/
def ownBusClear (chan : Byte) (s : State) : State × Answer :=
  match chanOf chan with
  | none => (s, refuse .badParam)
  | some ch =>
    let c := s.chan ch
    if c.mode ≠ .active then (s, refuse .wrongMode)
    else if c.arb.holder ≠ .none ∨ c.health.busClear.isSome = true ∨ s.dClockLow ch = true then (s, refuse .busy)
    else ((s.onChan ch Channel.startClear).retimeAll, okWith [])

/-- BUS_CLEAR (R152). -/
def execBusClear (tag chan : Byte) (s : State) : Host.Outcome State Fault Refusal :=
  .next (s.serve tag 0x60 (ownBusClear chan))

/-! ### STUCK_C (R149) -/

/-- The channel after the declaration's abort: lines released, phase FREE, the D-side closed. The closing is that of
the aborted transaction (R149), which no exchange of the same transaction follows. A byte that was coming goes on
being followed (R13). -/
def Channel.stuckFree (c : Channel) : Channel :=
  let c1 := (c.closeD false).releaseC.settleKept
  { c1 with phase := .free, dOp := c1.dOp.disown }

/-- STUCK_C declared (R149). -/
def State.declareStuckC (s : State) (ch : Chan) : State :=
  let s1 := (s.endExchange ch .aborted).onChan ch Channel.stuckFree
  let s2 := s1.onHealth ch fun h => { h with stuckC := true }
  (s2.event (some ch) (.stuckC true)).raiseIf (!s2.tripLatch) (healthNotice ch)

/-- STUCK_C cleared (R149): sync UNKNOWN. The lines have then been high for the bus-free time, so the side is
free and this point gives no sync (log entry 21); no byte is followed any more (R7). -/
def State.clearStuckC (s : State) (ch : Chan) : State :=
  let s1 := s.onHealth ch fun h => { h with stuckC := false }
  let s2 := (s1.event (some ch) (.stuckC false)).raiseIf (!s1.tripLatch) (healthNotice ch)
  s2.onChan ch fun c => { (if c.cFree then c else c.cFreePoint) with sync := .unknown, byteOpen := false }

/-- STUCK_C_DECLARE (R149). -/
def execStuckCDeclare (ch : Chan) (s : State) : Host.Outcome State Fault Refusal :=
  let c := s.chan ch
  if s.inReset = false ∧ (timerPast c.meters.stuckClock || timerPast c.meters.stuckData) = true
      ∧ c.health.stuckC = false ∧ c.hold = none ∧ c.mode ≠ .isolated then
    .next (s.declareStuckC ch).retimeAll
  else .next s

/-- STUCK_C_CLEAR (R149). -/
def execStuckCClear (ch : Chan) (s : State) : Host.Outcome State Fault Refusal :=
  let c := s.chan ch
  if s.inReset = false ∧ timerDue c.meters.cIdle = true ∧ c.health.stuckC = true then
    .next (s.clearStuckC ch).retimeAll
  else .next s

/-! ### D-side failures (R40 to R42) -/

/-- A failure of the operation ends the exchange in flight (R40, R41): not that of a closing whose transaction has
ended (R33, log entry 25). -/
def DOp.owned : DOp → Bool
  | .address => true
  | .writeByte => true
  | .readByte => true
  | .readAck => true
  | .stop same => same
  | .closing same => same
  | _ => false

/-- The exchange a D-side failure ends, and what the C-side is shown (R42). -/
def State.failExchange (s : State) (ch : Chan) : State :=
  match (s.chan ch).exch with
  | none => s
  | some _ => (s.endExchange ch .aborted).onChan ch fun c => { c.releaseC with phase := .refused }

/-- The misframe of a D-side failure of the relay, one of the exchange in flight where `inExch` (R13). With sync
UNKNOWN none is recognised (R7, log entry 46). -/
def State.relayMisframe (s : State) (ch : Chan) (inExch : Bool) : State :=
  if (s.chan ch).sync = .unknown then s else if inExch then s.misframe ch else s.takeMisframe ch

/-- The relay's grant, already dropped, was lost while it made `op`: a misframe, and the exchange the operation
belongs to ends (R40 to R42). -/
def State.relayLost (s : State) (ch : Chan) (op : DOp) : State :=
  let s1 := s.relayMisframe ch op.owned
  (if op.owned then s1.failExchange ch else s1).flushDeferred ch

/-- The part is generating for the holder of the grant. -/
def State.driving (s : State) (ch : Chan) : Bool :=
  !s.inReset && decide ((s.chan ch).arb.holder ≠ .none ∧ (s.chan ch).dOp ≠ .idle)

/-- The arbitration loss of a holder (R41). -/
def State.loseD (s : State) (ch : Chan) : State :=
  let c := s.chan ch
  let s1 := s.onChan ch Channel.dropGrant
  (if c.arb.holder = .relay then
      (s1.tally ch fun t => { t with arbLosses := bump t.arbLosses }).relayLost ch c.dOp
    else s1.unitLost).grantLost ch

/-- ARBITRATION_LOSS (R41). -/
def execArbitrationLoss (ch : Chan) (s : State) : Host.Outcome State Fault Refusal :=
  if s.driving ch = true then .next (s.loseD ch).retimeAll else .next s

/-- The D-stretch timeout of whoever waited (R40, R150, R151). One of the engine's own unit fails the job whether or
not STUCK_D stood already (R167, R170, log entry 23). -/
def State.stretchOut (s : State) (ch : Chan) : State :=
  let c := s.chan ch
  let s1 := s.tally ch fun t => { t with dStretchTimeouts := bump t.dStretchTimeouts }
  if c.health.busClear.isSome then (s1.onChan ch fun c => c.breakClear.endClear .failed).declareStuckD ch
  else
    let s2 := (s1.onChan ch Channel.dropGrant).declareStuckD ch
    (if c.arb.holder = .relay then s2.relayLost ch c.dOp
      else if c.arb.holder = .engine then s2.endJobOn ch .stuck else s2).grantLost ch

/-- D_STRETCH_TIMEOUT (R40). -/
def execDStretchTimeout (ch : Chan) (s : State) : Host.Outcome State Fault Refusal :=
  let c := s.chan ch
  if s.inReset = false ∧ c.generating = true ∧ timerDue c.meters.dStretch = true then
    .next (s.stretchOut ch).retimeAll
  else .next s

/-- The closing pulses are in progress. -/
def DOp.isClosing : DOp → Bool
  | .closing _ => true
  | _ => false

/-- The closing pulses failed (R14, R166): an arbitration loss; for the relay a misframe that belongs to no
exchange. With sync UNKNOWN it is none (log entry 46). -/
def State.closeFailed (s : State) (ch : Chan) : State :=
  let c := s.chan ch
  let s1 := s.onChan ch Channel.dropGrant
  (if c.arb.holder = .relay then
      ((s1.tally ch fun t => { t with arbLosses := bump t.arbLosses }).relayMisframe ch false).resumeNext ch
    else s1.unitLost).grantLost ch

/-- CLOSE_PULSES_FAILED (R14). -/
def execClosePulsesFailed (ch : Chan) (s : State) : Host.Outcome State Fault Refusal :=
  if s.driving ch = true ∧ (s.chan ch).dOp.isClosing = true then .next (s.closeFailed ch).retimeAll else .next s

end Sys2Proof.Machine
end

