-- ==== Sys2Proof/Machine/Channels.lean ====
section
/-! DEFINITION. The channel front end (chapter 1): bus-free points by time, line levels, changes of effective
mode, the entry to ISOLATED, and the three channel requests. -/

namespace Sys2Proof.Machine

/-! ### The entry to ISOLATED (R9) -/

/-- Steps 4 and 5 of R9: park, seen-free, sync and phase, with what the front end kept of a byte and a byte the part
gave, whose lines are released (R1). -/
def Channel.outOfBus (c : Channel) : Channel :=
  { c with park := false, seenFree := false, sync := .unknown, phase := .free, byteOpen := false, deferred := []
           freePoint := false, highData := false, giving := none, bitsOut := 0 }

/-- The effective mode becomes ISOLATED at once (R9); a job on the channel is aborted with `cause`. The EVENT
record is the last (log entry 14). -/
def State.isolate (s : State) (ch : Chan) (cause : JobCause) : State :=
  let s1 := s.onChan ch fun c => { c.abandonClear with mode := .isolated, pull := .released }
  let s2 := (s1.endExchange ch .aborted).onChan ch fun c => if c.arb.holder = .relay then c.giveUp else c
  let s3 := (s2.abandonHold ch).onChan ch Channel.outOfBus
  (s3.endJobOn ch cause).event (some ch) (.mode .isolated)

/-- The channel's target mode has become ISOLATED while its effective mode is another (R9). -/
def State.mustIsolate (s : State) (ch : Chan) : Bool :=
  decide ((s.chan ch).mode ≠ .isolated ∧ s.target ch = .isolated)

/-- The change to ISOLATED where it is due. -/
def State.isolateIfDue (s : State) (cause : JobCause) (ch : Chan) (t : State) : State :=
  if s.mustIsolate ch then t.isolate ch cause else t

/-- Both channels take the change to ISOLATED where it is due, in either order (R183, log entry 13). -/
def State.isolateBoth (s : State) (cause : JobCause) : State :=
  (s.onBoth (s.mustIsolate .c0 && s.mustIsolate .c1) (s.isolateIfDue cause)).retimeAll

/-! ### Bus-free points and line levels (R5, R6, R149, R150) -/

/-- The C-side becomes free by time. An exchange in flight stays so, and with it its transaction (log entry 26). With
none in flight a grant the relay still has open stays open, with no D-side STOP (log entry 48). -/
def Channel.cTimeFree (c : Channel) : Channel :=
  let c1 := c.cFreePoint
  if c.exch.isSome then c1 else { c1 with phase := .free, byteOpen := false, dOp := c.dOp.disown }

/-- BUS_FREE_TIME_ELAPSED (R5). A side already free has no second point. The D-side may become free in a bus clear's
high phase too (log entry 41). -/
def execBusFreeTimeElapsed (ch : Chan) (side : Side) (s : State) : Host.Outcome State Fault Refusal :=
  let c := s.chan ch
  match side with
  | .cSide =>
    if s.inReset = false ∧ timerDue c.meters.cIdle = true ∧ c.cFree = false then
      .next (s.onChan ch Channel.cTimeFree).retimeAll
    else .next s
  | .dSide =>
    if s.inReset = false ∧ timerDue c.meters.dIdle = true ∧ c.dFree = false then
      .next (s.onChan ch Channel.dFreePoint).retimeAll
    else .next s

/-- The D-side lines after a condition another party made there (log entry 7). -/
def Channel.trafficD (c : Channel) (k : Cond) : Channel :=
  { c with
    meters := { c.meters with dIdle := none, dClear := none, stuckD := none }
    ext := { c.ext with d := ⟨decide (k = .start), false⟩ } }

/-- A condition another party made on a watched D-side (R3, R5, R6). -/
def Channel.dCond (c : Channel) (k : Cond) : Channel :=
  match k with
  | .start => { c.trafficD .start with dFree := false }
  | .stop => if c.dFree then c.trafficD .stop else (c.trafficD .stop).dFreePoint

/-- D_SIDE_CONDITION (R5). Conditions count only in ACTIVE and while nobody holds the grant; elsewhere only the
levels do (section 1.2). -/
def execDSideCondition (ch : Chan) (cond : Cond) (s : State) : Host.Outcome State Fault Refusal :=
  let c := s.chan ch
  if s.inReset = false ∧ c.mode = .active ∧ c.arb.holder = .none then
    .next (s.onChan ch fun c => c.dCond cond).retimeAll
  else .next (s.onChan ch fun c => c.trafficD cond).retimeAll

/-- A pair with one line at a level. -/
def Pair.set (p : Pair) (line : Line) (low : Bool) : Pair :=
  match line with
  | .clock => { p with clock := low }
  | .data => { p with data := low }

/-- The lines with one pulled low or released by another party. -/
def Lines.set (l : Lines) (side : Side) (line : Line) (low : Bool) : Lines :=
  match side with
  | .cSide => { l with c := l.c.set line low }
  | .dSide => { l with d := l.d.set line low }

/-- Another party pulls CnCK low: the falling edge of a sampled eighth or ninth bit, from which on the part drives what
`pull` says (R21), or that of an earlier bit of a byte, where the part puts the next bit of a byte it gives on CnDA
(R28, R73). A clock that is low already has no falling edge. What others pull it to from then on is what is told. -/
def Channel.clockFall (c : Channel) : Channel :=
  if c.highPhase then { c with highPhase := false, ext := c.ext.set .cSide .clock false }
  else if c.ext.c.clock || c.pull.c.clock then c
  else c.shiftOut

/-- Another party pulls a line low or releases it; through a closed bypass switch (`joined`) a D-side line is the
C-side's too (R2, R149). -/
def Channel.lineTold (c : Channel) (joined : Bool) (side : Side) (line : Line) (low : Bool) : Channel :=
  let falls := low && (joined || decide (side = .cSide))
  let c1 := if falls && decide (line = .clock) then c.clockFall else c
  { c1 with ext := c1.ext.set side line low, dataTold := c.dataTold || (falls && decide (line = .data)) }

/-- BUS_LINE_CHANGE (R149): `low` is the line pulled low by another party, or released again. -/
def execBusLineChange (ch : Chan) (side : Side) (line : Line) (low : Bool) (s : State) :
    Host.Outcome State Fault Refusal :=
  .next (s.onChan ch fun c => c.lineTold (s.bypassClosed ch) side line low).retimeAll

/-! ### Changes of effective mode (R10, R11) -/

/-- A waiting change of effective mode may be taken now (R10, R11). The change to MONITOR waits for a hold (R93); no
observed exchange is in flight at the change to ACTIVE (R44, log entries 12 and 26). The time the C-side lines have been
high counts from before the end of the ISOLATED condition (R5, R10), so that a change may come with the supply's ON
itself, where R179's "after the supply has settled" may be read as a count from then (log entry 51). -/
def State.mayChange (s : State) (ch : Chan) : Bool :=
  let c := s.chan ch
  match c.mode, s.target ch with
  | .monitor, .active => c.freePoint && c.exch.isNone
  | .active, .monitor =>
    c.cFree && c.dFree && decide (c.arb.holder ≠ .relay) && !s.jobOn ch && c.health.busClear.isNone
      && c.hold.isNone
  | .isolated, .active => timerDue c.meters.cIdle
  | .isolated, .monitor => timerDue c.meters.cIdle && timerDue c.meters.dIdle
  | _, _ => false

/-- The channel after its change to `m` (R1, R6, R7, R10). A bus-free point before the change serves for none after
it. An exchange that stays in flight (log entry 26) is neither given bytes nor granted the D-side any more: outside
ACTIVE the part drives no line (R1). -/
def Channel.changeTo (c : Channel) (m : Mode) : Channel :=
  let c1 : Channel :=
    { c with
      pull := .released, highData := false, phase := .free, byteOpen := false, freePoint := false, mode := m
      giving := none, bitsOut := 0, grantWait := none, grantLimitTaken := false
      arb := { c.arb with relayWaits := false } }
  match c.mode, m with
  | .monitor, .active => { c1 with seenFree := true, dFree := true }
  | .isolated, .active =>
    { c1 with sync := .synced, cFree := true, seenFree := false, dFree := false
              meters := { c1.meters with dIdle := none } }
  | .isolated, .monitor => { c1 with sync := .synced, cFree := true }
  | _, _ => c1

/-- MODE_CHANGE (R10). -/
def execModeChange (ch : Chan) (s : State) : Host.Outcome State Fault Refusal :=
  if s.inReset = false ∧ s.mayChange ch = true then
    let m := s.target ch
    .next ((s.onChan ch fun c => c.changeTo m).event (some ch) (.mode m)).retimeAll
  else .next s

/-! ### SET CHANNEL, GET CHANNEL, CHANNEL RESET (R15, R17, R18) -/

/-- A numeric setting brought into its range, and whether that changed it. -/
def clamped (lo hi v : Nat) : Nat × Bool := (clampTo lo hi v, decide (clampTo lo hi v ≠ v))

/-- A yes/no setting value. -/
def yesNoOf (v : Nat) : Option Bool :=
  match v with
  | 0 => some false
  | 1 => some true
  | _ => none

/-- One channel setting applied (section 1.6), with whether any value was clamped; an unknown setting or an
enumerated value outside its list is none (R15). -/
def chanSetting (a : ChanSettings × Bool) (p : Byte × Half) : Option (ChanSettings × Bool) :=
  let c := a.1
  let v := p.2.toNat
  match p.1.toNat with
  | 0 => (modeOf v).map fun m => ({ c with requested := m }, a.2)
  | 1 => (yesNoOf v).map fun b => ({ c with defaultAction := if b then .deny else .forward }, a.2)
  | 2 => (yesNoOf v).map fun b => ({ c with defaultRecord := b }, a.2)
  | 3 => some ({ c with rate := (clamped 10 1200 v).1 }, a.2 || (clamped 10 1200 v).2)
  | 4 => some ({ c with lowShare := (clamped 25 75 v).1 }, a.2 || (clamped 25 75 v).2)
  | 5 => some ({ c with dStretchLimit := (clamped 1 255 v).1 }, a.2 || (clamped 1 255 v).2)
  | 6 => some ({ c with stuckLimit := (clamped 1 255 v).1 }, a.2 || (clamped 1 255 v).2)
  | 7 => some ({ c with holdTimeout := (clamped 0 60000 v).1 }, a.2 || (clamped 0 60000 v).2)
  | 8 => some ({ c with busFreeTime := (clamped 10 1000 v).1 }, a.2 || (clamped 10 1000 v).2)
  | 9 => (yesNoOf v).map fun b => ({ c with consoleBlocking := b }, a.2)
  | 10 => (yesNoOf v).map fun b => ({ c with nackCounting := if b then .exchange else .byte }, a.2)
  | 11 => (yesNoOf v).map fun b => ({ c with fallbackOnDegrade := b }, a.2)
  | 12 => (yesNoOf v).map fun b => ({ c with returnOnRecover := b }, a.2)
  | _ => none

/-- A setting list writes setting `k`. -/
def writesSetting (settings : List (Byte × Half)) (k : Nat) : Bool := settings.any fun p => decide (p.1.toNat = k)

/-- A setting list would make the requested mode MONITOR (R11). -/
def asksMonitor (settings : List (Byte × Half)) : Bool :=
  settings.any fun p => decide (p.1.toNat = 0 ∧ p.2.toNat = Mode.monitor.code.toNat)

/-- The plan of a channel's settings (R35). -/
def ChanSettings.plan (t : ChanSettings) : Plan := planOf t.rate t.lowShare

/-- The settings written: the fallback flag and the fallback owed fall with a written requested mode (R12,
R147), and the plan is computed where the rate or the low share is written (R35). Where the target mode becomes another
one, the bus-free point at which the channel stands came before it and serves for no change to it (R10, log entry
12). Measurements that run keep the value they began with (R16); those of a bus clear's high phase begin with it, and in
the low phase before it take the new value (log entry 41). -/
def Channel.setSettings (c : Channel) (settings : List (Byte × Half)) (t : ChanSettings) : Channel :=
  let mode := writesSetting settings 0
  { c with
    settings := t
    meters := if c.clearLow then c.breakClear.meters else c.meters
    fallback := if mode then false else c.fallback
    freePoint := c.freePoint && !(mode && (decide (t.requested ≠ c.settings.requested) || c.fallback))
    health := if mode then { c.health with owed := false } else c.health
    plan := if writesSetting settings 3 || writesSetting settings 4 then t.plan else c.plan }

/-- SET CHANNEL (R15, R11). BAD_PARAM comes before BUSY (log entry 52). A measurement whose condition holds when the
request is taken has begun with the values as they stood: those that have not been brought up to date since, after a
reset or a change of the target mode, begin first, and only then the settings are written (R16). -/
def ownSetChannel (chan : Byte) (settings : List (Byte × Half)) (s : State) : State × Answer :=
  match chanOf chan with
  | none => (s, refuse .badParam)
  | some ch =>
    if settings = [] ∨ noRepeat settings = false then (s, refuse .badParam)
    else
      match applyAll chanSetting ((s.chan ch).settings, false) settings with
      | none => (s, refuse .badParam)
      | some t =>
        if s.jobOn ch = true ∧ asksMonitor settings = true then (s, refuse .busy)
        else
          let s1 := s.retimeAll.onChan ch fun c => c.setSettings settings t.1
          ((s1.isolateIfDue .mode ch s1).retimeAll, okOrAdjusted t.2 (le32 t.1.plan.achieved))

/-- The thirteen settings at their wire widths, in the order of their table (R17, R196). -/
def ChanSettings.bytes (t : ChanSettings) : List Byte :=
  [t.requested.code, t.defaultAction.code] ++ yesNo t.defaultRecord ++ le16 t.rate ++ le8 t.lowShare
    ++ le8 t.dStretchLimit ++ le8 t.stuckLimit ++ le16 t.holdTimeout ++ le16 t.busFreeTime
    ++ yesNo t.consoleBlocking ++ [t.nackCounting.code] ++ yesNo t.fallbackOnDegrade ++ yesNo t.returnOnRecover

/-- GET CHANNEL (R17). -/
def ownGetChannel (chan : Byte) (s : State) : State × Answer :=
  match chanOf chan with
  | none => (s, refuse .badParam)
  | some ch =>
    let c := s.chan ch
    (s, okWith (c.settings.bytes ++ le32 c.settings.plan.achieved ++ [c.mode.code, (s.target ch).code]
      ++ yesNo c.fallback ++ [c.sync.code, c.phase.code] ++ yesNo c.seenFree
      ++ yesNo (decide (c.arb.holder = .relay))))

/-- The health state a CHANNEL RESET clears (R18, R143). -/
def Health.channelReset (h : Health) : Health :=
  { h with misframes := 0, cleanRun := 0, degraded := false, stuckC := false, stuckD := false, running := .zero }

/-- Steps 3 to 6 of R18 after the hold is abandoned. -/
def Channel.afterReset (c : Channel) : Channel :=
  let c1 := c.abandonClear.releaseC.settleKept
  { c1 with
    park := false, health := c1.health.channelReset, fallback := false, sync := .unknown, phase := .free
    byteOpen := false, freePoint := false, dOp := c1.dOp.disown }

/-- A channel reset (R18). -/
def State.resetChannel (s : State) (ch : Chan) : State :=
  let s1 := s.onChan ch fun c => { c with console := [] }
  let s2 := (s1.endExchange ch .aborted).onChan ch fun c => c.closeD false
  ((s2.abandonHold ch).onChan ch Channel.afterReset).retimeAll

/-- CHANNEL RESET (R18). -/
def ownChannelReset (chan : Byte) (s : State) : State × Answer :=
  match chanOf chan with
  | none => (s, refuse .badParam)
  | some ch => if s.jobOn ch then (s, refuse .busy) else (s.resetChannel ch, okWith [])

/-- SET_CHANNEL (R15). -/
def execSetChannel (tag chan : Byte) (settings : List (Byte × Half)) (s : State) :
    Host.Outcome State Fault Refusal := .next (s.serve tag 0x10 (ownSetChannel chan settings))

/-- GET_CHANNEL (R17). -/
def execGetChannel (tag chan : Byte) (s : State) : Host.Outcome State Fault Refusal :=
  .next (s.serve tag 0x11 (ownGetChannel chan))

/-- CHANNEL_RESET (R18). -/
def execChannelReset (tag chan : Byte) (s : State) : Host.Outcome State Fault Refusal :=
  .next (s.serve tag 0x12 (ownChannelReset chan))

end Sys2Proof.Machine
end

