-- ==== Sys2Proof/Machine/Supply.lean ====
section
/-! DEFINITION. The supply controller and the target reset line (chapter 10). -/

namespace Sys2Proof.Machine

/-! ### States (R176) -/

/-- The supply controller changed by `f`. -/
def State.onSupply (s : State) (f : Supply → Supply) : State := { s with supply := f s.supply }

/-- What every change of supply state makes: the EVENT record for no channel and the SUPPLY notice (R176). -/
def State.supplyEvent (s : State) : State := (s.event none (.supply s.supply.state)).raise .supply

/-- OCSENSE is watched (R182). -/
def SupplyState.watched : SupplyState → Bool
  | .ramping => true
  | .on => true
  | .stopping => true
  | _ => false

/-- The RAMP claim removed (R185). -/
def Supply.dropRamp (p : Supply) : Supply := { p with claims := { p.claims with ramp := false } }

/-- The entry to RAMPING (R179, R182). -/
def Supply.ramp (p : Supply) : Supply :=
  { p with
    state := .ramping, settleTimer := some (startTimer (ms p.settings.settle))
    claims := { p.claims with ramp := p.claims.ramp || p.settings.resetDuringRamp }
    filterTimer := if p.ocsense then some (startTimer p.settings.filter) else none }

/-- The entry to OFF: every count of the state left stops (R179, R181, R182). -/
def Supply.toOff (p : Supply) : Supply :=
  { p with state := .off, settleTimer := none, quiesceTimer := none, filterTimer := none }

/-- The entry to STOPPING (R180, step 1). -/
def Supply.stop (p : Supply) : Supply :=
  { p with state := .stopping, quiesceTimer := some (startTimer (ms p.settings.quiesce)) }

/-- Steps 1 and 2 of a trip (R183). -/
def Supply.tripped (p : Supply) (cause : TripCause) (now : Tick) : Supply :=
  { p.dropRamp with
    state := .tripped, tripCount := bump p.tripCount, tripTime := now, lastCause := cause, settleTimer := none
    quiesceTimer := none, filterTimer := none }

/-! ### Moves -/

/-- A trip (R183). -/
def State.trip (s : State) (cause : TripCause) : State :=
  (((s.onSupply fun p => p.tripped cause s.tick).supplyEvent).isolateBoth .fault).occur .fault none

/-- The entry to OFF from STOPPING (R181). -/
def State.endStopping (s : State) (r : StopResult) : State :=
  ((s.onSupply fun p => { p.toOff with lastStop := r }).supplyEvent).isolateBoth .supplyOff

/-- STOPPING is quiesced (R181). -/
def State.quiesced (s : State) : Bool :=
  s.ch0.exch.isNone && s.ch1.exch.isNone && decide (s.ch0.arb.holder ≠ .relay)
    && decide (s.ch1.arb.holder ≠ .relay) && s.engine.job.isNone

/-- POWER OFF in ON: the entry to STOPPING (R180), with the quiesce test of R181 as its last step. The channels' holds
are abandoned in either order (log entry 13). -/
def State.enterStopping (s : State) : State :=
  let s1 := (s.onSupply Supply.stop).supplyEvent
  let both := (s1.ch0.hold.isSome && s1.ch1.hold.isSome)
  let s2 := (s1.onBoth both fun ch t => t.refuseHeld ch).enterEnding .supplyOff
  if s2.quiesced then s2.endStopping .quiesced else s2.retimeAll

/-- STOPPING_QUIESCED (R181). -/
def execStoppingQuiesced (s : State) : Host.Outcome State Fault Refusal :=
  if s.inReset = false ∧ s.supply.state = .stopping ∧ s.quiesced = true then .next (s.endStopping .quiesced)
  else .next s

/-- QUIESCE_LIMIT_EXPIRY (R181). -/
def execQuiesceLimitExpiry (s : State) : Host.Outcome State Fault Refusal :=
  if s.inReset = false ∧ s.supply.state = .stopping ∧ timerDue s.supply.quiesceTimer = true then
    .next (s.endStopping .limit)
  else .next s

/-- SETTLE_TIME_ELAPSED (R179). -/
def execSettleTimeElapsed (s : State) : Host.Outcome State Fault Refusal :=
  if s.inReset = false ∧ s.supply.state = .ramping ∧ timerDue s.supply.settleTimer = true then
    .next (s.onSupply fun p => { p.dropRamp with state := .on, settleTimer := none }).supplyEvent.retimeAll
  else .next s

/-- OCSENSE_CHANGE (R182): a measurement starts in a watched state and is cancelled when the input becomes
inactive. During power-on reset only the level is taken. -/
def execOcsenseChange (active : Bool) (s : State) : Host.Outcome State Fault Refusal :=
  .next (s.onSupply fun p =>
    { p with
      ocsense := active
      filterTimer :=
        if active = true ∧ s.inReset = false ∧ p.state.watched = true then
          some (p.filterTimer.getD (startTimer p.settings.filter))
        else none })

/-- OVERCURRENT_FILTER_EXPIRY (R182, R183). -/
def execOvercurrentFilterExpiry (s : State) : Host.Outcome State Fault Refusal :=
  if s.inReset = false ∧ s.supply.state.watched = true ∧ timerDue s.supply.filterTimer = true then
    .next (s.trip .overcurrent)
  else .next s

/-! ### The supply requests (R177 to R184) -/

/-- The answer that carries the supply state (R178). -/
def State.supplyAnswer (s : State) : State × Answer := (s, okWith [s.supply.state.code])

/-- POWER ON (R178, R179). A refusal carries no results (R191); its status alone tells the state, BUSY that of STOPPING and
TRIPPED that of TRIPPED (log entry 17). -/
def ownPowerOn (s : State) : State × Answer :=
  match s.supply.state with
  | .off => ((s.onSupply Supply.ramp).supplyEvent).supplyAnswer
  | .ramping => s.supplyAnswer
  | .on => s.supplyAnswer
  | .stopping => (s, refuse .busy)
  | .tripped => (s, refuse .tripped)

/-- POWER OFF (R178, R179, R180). -/
def ownPowerOff (s : State) : State × Answer :=
  match s.supply.state with
  | .ramping => ((s.onSupply fun p => p.toOff.dropRamp).supplyEvent).supplyAnswer
  | .on => s.enterStopping.supplyAnswer
  | _ => s.supplyAnswer

/-- CLEAR TRIP (R178, R184). STILL_ACTIVE, a refusal without results (R191), is given in TRIPPED alone (log entry 17). -/
def ownClearTrip (s : State) : State × Answer :=
  match s.supply.state with
  | .tripped =>
    if s.supply.ocsense then (s, refuse .stillActive)
    else ((s.onSupply Supply.toOff).supplyEvent).supplyAnswer
  | _ => s.supplyAnswer

/-- TRIP TEST (R178, R184). -/
def ownTripTest (s : State) : State × Answer :=
  match s.supply.state with
  | .tripped => s.supplyAnswer
  | _ => (s.trip .test).supplyAnswer

/-- One supply setting applied (R177), with whether a value was clamped; a refused one is none. -/
def supplySetting (a : SupplySettings × Bool) (p : Byte × Half) : Option (SupplySettings × Bool) :=
  let c := a.1
  let v := p.2.toNat
  match p.1.toNat with
  | 0 => some ({ c with settle := (clamped 1 1000 v).1 }, a.2 || (clamped 1 1000 v).2)
  | 1 => if v = 16 ∨ v = 64 ∨ v = 256 ∨ v = 1024 then some ({ c with filter := v }, a.2) else none
  | 2 => some ({ c with quiesce := (clamped 1 1000 v).1 }, a.2 || (clamped 1 1000 v).2)
  | 3 => (yesNoOf v).map fun b => ({ c with follow := b }, a.2)
  | 4 => (yesNoOf v).map fun b => ({ c with resetDuringRamp := b }, a.2)
  | 5 => some ({ c with pulseWidth := (clamped 1 65535 v).1 }, a.2 || (clamped 1 65535 v).2)
  | _ => none

/-- The six settings in the order of their table (R177). -/
def SupplySettings.bytes (t : SupplySettings) : List Byte :=
  le16 t.settle ++ le16 t.filter ++ le16 t.quiesce ++ yesNo t.follow ++ yesNo t.resetDuringRamp
    ++ le16 t.pulseWidth

/-- SUPPLY CONFIG (R177). -/
def ownSupplyConfig (settings : List (Byte × Half)) (s : State) : State × Answer :=
  if settings = [] ∨ noRepeat settings = false then (s, refuse .badParam)
  else
    match applyAll supplySetting (s.supply.settings, false) settings with
    | none => (s, refuse .badParam)
    | some t =>
      ((s.onSupply fun p => { p with settings := t.1 }).isolateBoth .supplyOff, okOrAdjusted t.2 t.1.bytes)

/-- The set of claims as a byte: HOST, PULSE, RAMP, JOB from bit 0 on (log entry 18). -/
def Claims.byte (c : Claims) : Nat :=
  (if c.host then 1 else 0) + (if c.pulse then 2 else 0) + (if c.ramp then 4 else 0) + (if c.job then 8 else 0)

/-- The set of claims and the TRST level, LOW 0 and HIGH 1 (R186, log entry 18). -/
def Claims.bytes (c : Claims) : List Byte := le8 c.byte ++ yesNo (!c.asserted)

/-- RESET ASSERT (R186). -/
def ownResetAssert (s : State) : State × Answer :=
  let p := { s.supply with claims := { s.supply.claims with host := true } }
  ({ s with supply := p }, okWith p.claims.bytes)

/-- RESET RELEASE (R186). -/
def ownResetRelease (s : State) : State × Answer :=
  let p := { s.supply with claims := { s.supply.claims with host := false } }
  ({ s with supply := p }, okWith p.claims.bytes)

/-- RESET PULSE (R186). -/
def ownResetPulse (width : Option Half) (s : State) : State × Answer :=
  let w := match width with
    | none => s.supply.settings.pulseWidth
    | some w => max 1 w.toNat
  let p := ({ s.supply with settings := { s.supply.settings with pulseWidth := w } } : Supply).startPulse
  ({ s with supply := p }, okOrAdjusted (decide (width = some 0)) p.claims.bytes)

/-- A time remaining in ms, rounded down; the pulse time too (R187, log entry 47). -/
def msLeft (t : Timer) : List Byte := le16 (timerLeft t / 1000)

/-- SUPPLY STATUS (R187): the sampled level of OCSENSE is 1 while the input is active (log entry 16). -/
def ownSupplyStatus (s : State) : State × Answer :=
  let p := s.supply
  (s, okWith ([p.state.code] ++ yesNo s.tripLatch ++ yesNo p.ocsense ++ yesNo p.filterTimer.isSome
    ++ optField (p.settleTimer.map msLeft) ++ optField (p.quiesceTimer.map msLeft) ++ le32 p.tripCount
    ++ le32 p.tripTime.toNat ++ [p.lastCause.code, p.lastStop.code] ++ p.settings.bytes ++ p.claims.bytes
    ++ optField (p.pulseTimer.map msLeft)))

/-- RESET_PULSE_END (R186). -/
def execResetPulseEnd (s : State) : Host.Outcome State Fault Refusal :=
  if s.inReset = false ∧ timerDue s.supply.pulseTimer = true then
    .next (s.onSupply fun p => { p with pulseTimer := none, claims := { p.claims with pulse := false } })
  else .next s

/-- SUPPLY_CONFIG (R177). -/
def execSupplyConfig (tag : Byte) (settings : List (Byte × Half)) (s : State) :
    Host.Outcome State Fault Refusal := .next (s.serve tag 0x80 (ownSupplyConfig settings))

/-- POWER_ON (R179). -/
def execPowerOn (tag : Byte) (s : State) : Host.Outcome State Fault Refusal := .next (s.serve tag 0x81 ownPowerOn)

/-- POWER_OFF (R180). -/
def execPowerOff (tag : Byte) (s : State) : Host.Outcome State Fault Refusal := .next (s.serve tag 0x82 ownPowerOff)

/-- CLEAR_TRIP (R184). -/
def execClearTrip (tag : Byte) (s : State) : Host.Outcome State Fault Refusal :=
  .next (s.serve tag 0x83 ownClearTrip)

/-- TRIP_TEST (R184). -/
def execTripTest (tag : Byte) (s : State) : Host.Outcome State Fault Refusal := .next (s.serve tag 0x84 ownTripTest)

/-- RESET_ASSERT (R186). -/
def execResetAssert (tag : Byte) (s : State) : Host.Outcome State Fault Refusal :=
  .next (s.serve tag 0x85 ownResetAssert)

/-- RESET_RELEASE (R186). -/
def execResetRelease (tag : Byte) (s : State) : Host.Outcome State Fault Refusal :=
  .next (s.serve tag 0x86 ownResetRelease)

/-- RESET_PULSE (R186). -/
def execResetPulse (tag : Byte) (width : Option Half) (s : State) : Host.Outcome State Fault Refusal :=
  .next (s.serve tag 0x87 (ownResetPulse width))

/-- SUPPLY_STATUS (R187). -/
def execSupplyStatus (tag : Byte) (s : State) : Host.Outcome State Fault Refusal :=
  .next (s.serve tag 0x88 ownSupplyStatus)

end Sys2Proof.Machine
end

