-- ==== Sys2Proof/Machine/Link.lean ====
section
/-! DEFINITION. The bench link (chapter 11): frames and their check, the receiver, dispatch, the transmitter, the
notices and the link's own requests. -/

namespace Sys2Proof.Machine

/-! ### Frames (R189, R197) -/

/-- The two check sums over the covered bytes (R189). -/
def frameSums (a b : Byte) : List Byte → Byte × Byte
  | [] => (a, b)
  | x :: rest => frameSums (a + x) (b + (a + x)) rest

/-- The check bytes of a run of covered bytes: A8, then B8. -/
def frameCheck (covered : List Byte) : List Byte := [(frameSums 0 0 covered).1, (frameSums 0 0 covered).2]

/-- The covered bytes of a frame. -/
def frameCovered (kind tag : Byte) (payload : List Byte) : List Byte := kind :: tag :: (le16 payload.length ++ payload)

/-- A frame. -/
def frame (kind tag : Byte) (payload : List Byte) : List Byte :=
  0x5A :: (frameCovered kind tag payload ++ frameCheck (frameCovered kind tag payload))

/-! ### The receiver (R190) -/

/-- The link changed by `f`. -/
def State.onLink (s : State) (f : Link → Link) : State := { s with link := f s.link }

/-- The measurement since the last byte of a frame begins (R190). -/
def rxTimer : Option Timer := some (startTimer (ms 20))

/-- A frame discarded for length, timeout, bad check or kind (R190). -/
def State.discardFrame (s : State) : State :=
  (s.onLink fun l => { l with rx := .reset, errors := satAdd max16 l.errors 1 }).raise .link

/-- A good REQUEST frame placed in the receive buffer, or an overrun (R190). -/
def State.acceptFrame (s : State) (r : Request) : State :=
  if s.link.lbusy then (s.onLink fun l => { l with rx := .reset, overruns := satAdd max16 l.overruns 1 }).raise .link
  else s.onLink fun l => { l with rx := .reset, buffer := l.buffer ++ [r] }

/-- The judgement of a frame from its covered bytes and check bytes (R190). -/
def State.judgeFrame (s : State) (covered checks : List Byte) : State :=
  if frameCheck covered ≠ checks then s.discardFrame
  else
    match covered with
    | kind :: tag :: _ :: _ :: payload => if kind = 1 then s.acceptFrame ⟨tag, payload⟩ else s.discardFrame
    | _ => s.discardFrame

/-- The payload length of a frame header. -/
def headerLength : List Byte → Nat
  | [_, _, lo, hi] => lo.toNat + 256 * hi.toNat
  | _ => 0

/-- The header is complete (R190). -/
def State.headerDone (s : State) (bytes : List Byte) : State :=
  let n := headerLength bytes
  if 512 < n then s.discardFrame
  else if n = 0 then s.onLink fun l => { l with rx := ⟨.check, bytes, [], 2, rxTimer⟩ }
  else s.onLink fun l => { l with rx := ⟨.payload, bytes, [], n, rxTimer⟩ }

/-- A byte taken by the receiver (R190). -/
def State.receive (s : State) (b : Byte) : State :=
  let rx := s.link.rx
  match rx.state with
  | .hunt => if b = 0x5A then s.onLink fun l => { l with rx := ⟨.header, [], [], 4, rxTimer⟩ } else s
  | .header =>
    if rx.left ≤ 1 then s.headerDone (rx.bytes ++ [b])
    else s.onLink fun l => { l with rx := ⟨.header, rx.bytes ++ [b], [], rx.left - 1, rxTimer⟩ }
  | .payload =>
    if rx.left ≤ 1 then s.onLink fun l => { l with rx := ⟨.check, rx.bytes ++ [b], [], 2, rxTimer⟩ }
    else s.onLink fun l => { l with rx := ⟨.payload, rx.bytes ++ [b], [], rx.left - 1, rxTimer⟩ }
  | .check =>
    if rx.left ≤ 1 then s.judgeFrame rx.bytes (rx.checks ++ [b])
    else s.onLink fun l => { l with rx := ⟨.check, rx.bytes, rx.checks ++ [b], rx.left - 1, rxTimer⟩ }

/-- LRX_BYTE (R190). -/
def execLrxByte (byte : Byte) (s : State) : Host.Outcome State Fault Refusal :=
  if s.inReset then .next s else .next (s.receive byte)

/-- RECEIVE_TIMEOUT (R190). -/
def execReceiveTimeout (s : State) : Host.Outcome State Fault Refusal :=
  if s.inReset = false ∧ timerDue s.link.rx.timer = true then .next s.discardFrame else .next s

/-! ### The link's own requests (R194, R195) -/

/-- IDENTIFY (R194). -/
def ownIdentify (s : State) : State × Answer :=
  (s, okWith ([0x2D, 0xB2, 0x01] ++ le8 32 ++ le8 4 ++ le16 8192 ++ le16 4096 ++ le32 s.link.baud
    ++ le16 s.link.errors ++ le16 s.link.overruns))

/-- SOFT RESET (R195): dispatch stops until the reset is taken. -/
def ownSoftReset (s : State) : State × Answer := (s.onLink fun l => { l with softReset := .waiting }, okWith [])

/-- NOTICE NOW (R194). -/
def ownNoticeNow (s : State) : State × Answer := (s.onLink fun l => { l with noticeDue := true }, okWith [])

/-- LINK CONFIG (R194). -/
def ownLinkConfig (interval : Half) (s : State) : State × Answer :=
  let n := clampTo 1 1000 interval.toNat
  (s.onLink fun l => { l with interval := n, noticeTimer := startTimer (ms n) },
    okOrAdjusted (decide (n ≠ interval.toNat)) (le16 n))

/-- IDENTIFY (R194). -/
def execIdentify (tag : Byte) (s : State) : Host.Outcome State Fault Refusal := .next (s.serve tag 0x01 ownIdentify)

/-- SOFT_RESET (R195). -/
def execSoftReset (tag : Byte) (s : State) : Host.Outcome State Fault Refusal :=
  .next (s.serve tag 0x02 ownSoftReset)

/-- NOTICE_NOW (R194). -/
def execNoticeNow (tag : Byte) (s : State) : Host.Outcome State Fault Refusal :=
  .next (s.serve tag 0x03 ownNoticeNow)

/-- LINK_CONFIG (R194). -/
def execLinkConfig (tag : Byte) (interval : Half) (s : State) : Host.Outcome State Fault Refusal :=
  .next (s.serve tag 0x04 (ownLinkConfig interval))

/-! ### Dispatch (R191) -/

/-- The request code and the owner block's action of a request; none for an event. -/
def requestOwner (i : Instr) : Option (Byte × (State → State × Answer)) :=
  match i with
  | .identify _ => some (0x01, ownIdentify)
  | .softReset _ => some (0x02, ownSoftReset)
  | .noticeNow _ => some (0x03, ownNoticeNow)
  | .linkConfig _ interval => some (0x04, ownLinkConfig interval)
  | .setChannel _ chan settings => some (0x10, ownSetChannel chan settings)
  | .getChannel _ chan => some (0x11, ownGetChannel chan)
  | .channelReset _ chan => some (0x12, ownChannelReset chan)
  | .writeRule _ index rule => some (0x20, ownWriteRule index rule)
  | .eraseRule _ index => some (0x21, ownEraseRule index)
  | .readRule _ index => some (0x22, ownReadRule index)
  | .rearm _ index zeroHits => some (0x23, ownRearm index zeroHits)
  | .enableRule _ index => some (0x24, ownSetEnabled index true)
  | .disableRule _ index => some (0x25, ownSetEnabled index false)
  | .imageConfig _ image size writeTime => some (0x30, ownImageConfig image size writeTime)
  | .imageWrite _ image start bytes => some (0x31, ownImageWrite image start bytes)
  | .imageRead _ image start count clearCount => some (0x32, ownImageRead image start count clearCount)
  | .imageProtect _ image protect => some (0x33, ownImageProtect image protect)
  | .release _ chan disposition => some (0x38, ownRelease chan disposition)
  | .park _ chan choice => some (0x39, ownPark chan choice)
  | .holdStatus _ chan => some (0x3A, ownHoldStatus chan)
  | .logConfig _ settings => some (0x40, ownLogConfig settings)
  | .logRead _ maxBytes => some (0x41, ownLogRead maxBytes)
  | .logClear _ counts => some (0x42, ownLogClear counts)
  | .logStatus _ => some (0x43, ownLogStatus)
  | .timeRead _ => some (0x50, ownTimeRead)
  | .timeSet _ count => some (0x51, ownTimeSet count)
  | .compareConfig _ slot delay period => some (0x52, ownCompareConfig slot delay period)
  | .compareArm _ slot => some (0x53, ownCompareArm slot)
  | .compareDisarm _ slot => some (0x54, ownCompareDisarm slot)
  | .trigInConfig _ selection clearCount => some (0x55, ownTrigInConfig selection clearCount)
  | .trigOut _ operation width => some (0x56, ownTrigOut operation width)
  | .routeWrite _ index enabled source qualifier action =>
    some (0x57, ownRouteWrite index enabled source qualifier action)
  | .routeRead _ index clearCount => some (0x58, ownRouteRead index clearCount)
  | .triggerStatus _ => some (0x59, ownTriggerStatus)
  | .busClear _ chan => some (0x60, ownBusClear chan)
  | .healthConfig _ settings => some (0x61, ownHealthConfig settings)
  | .healthStatus _ chan => some (0x62, ownHealthStatus chan)
  | .statsSnapshot _ => some (0x63, ownStatsSnapshot)
  | .statsRead _ choice => some (0x64, ownStatsRead choice)
  | .stageWrite _ offset bytes => some (0x70, ownStageWrite offset bytes)
  | .stageRead _ offset count => some (0x71, ownStageRead offset count)
  | .stageCheck _ offset length => some (0x72, ownStageCheck offset length)
  | .jobStart _ job => some (0x73, ownJobStart job)
  | .jobAbort _ => some (0x74, ownJobAbort)
  | .jobStatus _ => some (0x75, ownJobStatus)
  | .supplyConfig _ settings => some (0x80, ownSupplyConfig settings)
  | .powerOn _ => some (0x81, ownPowerOn)
  | .powerOff _ => some (0x82, ownPowerOff)
  | .clearTrip _ => some (0x83, ownClearTrip)
  | .tripTest _ => some (0x84, ownTripTest)
  | .resetAssert _ => some (0x85, ownResetAssert)
  | .resetRelease _ => some (0x86, ownResetRelease)
  | .resetPulse _ width => some (0x87, ownResetPulse width)
  | .supplyStatus _ => some (0x88, ownSupplyStatus)
  | .softResetTaken => none
  | .powerOnReset => none
  | .powerOnResetEnd .. => none
  | .lrxByte _ => none
  | .receiveTimeout => none
  | .dispatch => none
  | .transmitStart => none
  | .frameSent => none
  | .lholdChange .. => none
  | .noticeIntervalExpiry => none
  | .tick _ => none
  | .cStart .. => none
  | .cStop .. => none
  | .busFreeTimeElapsed .. => none
  | .addressByteComplete .. => none
  | .dataByteComplete .. => none
  | .cAckComplete .. => none
  | .grantWaitStuckLimit _ => none
  | .dSideGrant _ => none
  | .dAddressAck .. => none
  | .dWriteByteDone .. => none
  | .dReadByteDone .. => none
  | .dReadAckDone _ => none
  | .dStopComplete _ => none
  | .dStopFailed _ => none
  | .closePulsesFailed _ => none
  | .arbitrationLoss _ => none
  | .dStretchTimeout _ => none
  | .modeChange _ => none
  | .holdTimeout _ => none
  | .imageWindowExpiry _ => none
  | .compareFire _ => none
  | .triginEdge _ => none
  | .trigOutPulseEnd => none
  | .stuckCDeclare _ => none
  | .stuckCClear _ => none
  | .stuckDLineTimeout _ => none
  | .stuckDClear _ => none
  | .busClearPulseDone .. => none
  | .busClearStopDone .. => none
  | .statsPeriodExpiry => none
  | .chunkEnd _ => none
  | .probeEnd _ => none
  | .burstEnd _ => none
  | .pollLimitExpiry => none
  | .settleTimeElapsed => none
  | .stoppingQuiesced => none
  | .quiesceLimitExpiry => none
  | .ocsenseChange _ => none
  | .overcurrentFilterExpiry => none
  | .resetPulseEnd => none
  | .dSideCondition .. => none
  | .busLineChange .. => none

/-- A frame taken from the receive buffer: the link's checks, then the owner block, then the reply (R191). -/
def State.answerFrame (s : State) (r : Request) : State :=
  match requestOf r.tag r.payload with
  | .error e => s.reply r.tag e.1 (refuse e.2)
  | .ok i =>
    match requestOwner i with
    | none => s
    | some owner =>
      let t := owner.2 s
      t.1.reply r.tag owner.1 t.2

/-- DISPATCH (R191). -/
def execDispatch (s : State) : Host.Outcome State Fault Refusal :=
  match s.link.buffer with
  | [] => .next s
  | r :: rest =>
    if s.canTake then .next ((s.onLink fun l => { l with buffer := rest }).answerFrame r) else .next s

/-! ### The transmitter (R192, R193, R121) -/

/-- A REPLY frame (R191). -/
def Reply.frame (r : Reply) : List Byte := Machine.frame 2 r.tag (r.code :: r.status.code :: r.results)

/-- A NOTICE frame of a word (R193). -/
def noticeFrame (word : Half) : List Byte := frame 4 0 (le16 word.toNat)

/-- The transmitter may start a frame: idle, LHOLD released, no reset due (R192, R195, log entry 30). -/
def State.mayTransmit (s : State) : Bool :=
  !s.inReset && s.link.tx.isNone && !s.link.lhold && decide (s.link.softReset ≠ .due)

/-- A REPORT frame started (R121, R189, R192). -/
def State.startReport (s : State) : State :=
  let t := takeFitting Config.reportLimit s.log.records
  ({ s with log := { s.log with records := t.2 } } : State).onLink fun l =>
    { l with tx := some (frame 3 l.reportSeq (recordBytes t.1)), reportSeq := l.reportSeq + 1 }

/-- The next frame started: a reply, then a due NOTICE, then a report (R192). -/
def State.startFrame (s : State) : State :=
  match s.link.replies with
  | r :: rest => s.onLink fun l => { l with tx := some r.frame, replies := rest }
  | [] =>
    if s.link.noticeDue then
      s.onLink fun l => { l with tx := some (noticeFrame l.notices), notices := 0, noticeDue := false }
    else if s.log.stream = true ∧ s.log.records ≠ [] then s.startReport
    else s

/-- TRANSMIT_START (R192). -/
def execTransmitStart (s : State) : Host.Outcome State Fault Refusal :=
  if s.mayTransmit then .next s.startFrame else .next s

/-- A frame may end now: LHOLD released, or asserted during the frame's last byte (R188, log entry 29). -/
def Link.mayFinish (l : Link) : Bool := l.tx.isSome && (!l.lhold || l.txLastByte)

/-- FRAME_SENT (R192). The reset of a SOFT RESET is due once its reply, the last of the queue, has been sent
(R195). -/
def execFrameSent (s : State) : Host.Outcome State Fault Refusal :=
  if s.inReset = false ∧ s.link.mayFinish = true then
    .next (s.onLink fun l =>
      { l with
        tx := none, txLastByte := false
        softReset := if l.softReset = .waiting ∧ l.replies = [] then .due else l.softReset })
  else .next s

/-- LHOLD_CHANGE (R188): `lastByte` says that the byte in progress is the frame's last. -/
def execLholdChange (asserted lastByte : Bool) (s : State) : Host.Outcome State Fault Refusal :=
  .next (s.onLink fun l =>
    { l with
      lhold := asserted
      txLastByte := asserted && (if l.lhold then l.txLastByte else lastByte && l.tx.isSome) })

/-- The notice interval timer expires and runs on (R193). -/
def Link.noticeTurn (l : Link) : Link :=
  { l with
    noticeTimer := ⟨l.noticeTimer.elapsed - l.noticeTimer.limit, ms l.interval⟩
    noticeDue := l.noticeDue || decide (l.notices ≠ 0) }

/-- NOTICE_INTERVAL_EXPIRY (R193). -/
def execNoticeIntervalExpiry (s : State) : Host.Outcome State Fault Refusal :=
  if s.inReset = false ∧ timerDue (some s.link.noticeTimer) = true then .next (s.onLink Link.noticeTurn) else .next s

end Sys2Proof.Machine
end

