-- ==== Sys2Proof/Machine/Resets.lean ====
section
/-! DEFINITION. The two resets (00_scope.md 4.5, R19, R126, R175, R176, R195). -/

namespace Sys2Proof.Machine

/-- The supply controller through SOFT RESET: kept, but for the JOB claim (R176). -/
def Supply.softKept (p : Supply) : Supply := { p with claims := { p.claims with job := false } }

/-- A channel after SOFT RESET, its effective mode that of `target` (R19); its lines as others leave them. -/
def Channel.softReset (c : Channel) (target : Mode) : Channel := .reset target c.ext

/-- The mode R8 gives for a requested MONITOR. -/
def Supply.resetMode (p : Supply) : Mode :=
  if p.state = .tripped then .isolated
  else if p.settings.follow = true ∧ (p.state = .off ∨ p.state = .ramping) then .isolated
  else .monitor

/-- Every block but the supply controller, the tick count and the baud rate at its power-on values (R195). -/
def State.softReset (s : State) : State :=
  { State.reset with
    ch0 := s.ch0.softReset s.supply.resetMode
    ch1 := s.ch1.softReset s.supply.resetMode
    log := .reset s.tick
    tick := s.tick
    trigIn := .reset s.trigIn.level
    supply := s.supply.softKept
    link := .reset s.link.baud s.link.lhold
    inReset := s.inReset
    freeIx := s.freeIx
    pending := s.pending }

/-- SOFT_RESET_TAKEN (R195). In STOPPING the quiesce test holds at once after it (R181). -/
def execSoftResetTaken (s : State) : Host.Outcome State Fault Refusal :=
  if s.inReset = false ∧ s.link.softReset = .due then
    let s1 := s.softReset
    if s.supply.state = .stopping then .next (s1.endStopping .quiesced).retimeAll else .next s1.retimeAll
  else .next s

/-- The part while RESETN is asserted: every block at its power-on values; the input pins are as they are, and
the straps are sampled only at the end (R19, R188). -/
def State.powerOnReset (s : State) : State :=
  { State.reset with
    ch0 := .reset .isolated s.ch0.ext
    ch1 := .reset .isolated s.ch1.ext
    trigIn := .reset s.trigIn.level
    supply := .reset s.supply.ocsense
    link := .reset s.link.baud s.link.lhold
    inReset := true
    freeIx := s.freeIx
    pending := s.pending }

/-- POWER_ON_RESET (R19). -/
def execPowerOnReset (s : State) : Host.Outcome State Fault Refusal := .next s.powerOnReset

/-- The baud rate of the straps (R188). -/
def baudOf (lrate1 lrate0 : Bool) : Nat :=
  match lrate1, lrate0 with
  | false, true => 921600
  | true, false => 3000000
  | _, _ => 115200

/-- RESETN released: the straps' rate, and measurements begin anew. -/
def State.leaveReset (s : State) (baud : Nat) : State :=
  { s with
    inReset := false
    link := { s.link with baud := baud }
    ch0 := { s.ch0 with meters := .stopped }
    ch1 := { s.ch1 with meters := .stopped } }

/-- POWER_ON_RESET_END (R2, R188). -/
def execPowerOnResetEnd (lrate1 lrate0 : Bool) (s : State) : Host.Outcome State Fault Refusal :=
  if s.inReset then .next (s.leaveReset (baudOf lrate1 lrate0)).retimeAll else .next s

end Sys2Proof.Machine
end

