-- ==== Sys2Proof/Machine/Dispatch.lean ====
section
/-! DEFINITION. What each command does: one arm for each row of the table, in its order. -/

namespace Sys2Proof.Machine

def exec (i : Instr) (s : State) : Host.Outcome State Fault Refusal :=
  match i with
  | .identify tag => Sys2Proof.Machine.execIdentify tag s
  | .softReset tag => Sys2Proof.Machine.execSoftReset tag s
  | .softResetTaken => Sys2Proof.Machine.execSoftResetTaken s
  | .noticeNow tag => Sys2Proof.Machine.execNoticeNow tag s
  | .linkConfig tag interval => Sys2Proof.Machine.execLinkConfig tag interval s
  | .setChannel tag chan settings => Sys2Proof.Machine.execSetChannel tag chan settings s
  | .getChannel tag chan => Sys2Proof.Machine.execGetChannel tag chan s
  | .channelReset tag chan => Sys2Proof.Machine.execChannelReset tag chan s
  | .writeRule tag index rule => Sys2Proof.Machine.execWriteRule tag index rule s
  | .eraseRule tag index => Sys2Proof.Machine.execEraseRule tag index s
  | .readRule tag index => Sys2Proof.Machine.execReadRule tag index s
  | .rearm tag index zeroHits => Sys2Proof.Machine.execRearm tag index zeroHits s
  | .enableRule tag index => Sys2Proof.Machine.execEnableRule tag index s
  | .disableRule tag index => Sys2Proof.Machine.execDisableRule tag index s
  | .imageConfig tag image size writeTime => Sys2Proof.Machine.execImageConfig tag image size writeTime s
  | .imageWrite tag image start bytes => Sys2Proof.Machine.execImageWrite tag image start bytes s
  | .imageRead tag image start count clearCount => Sys2Proof.Machine.execImageRead tag image start count clearCount s
  | .imageProtect tag image protect => Sys2Proof.Machine.execImageProtect tag image protect s
  | .release tag chan disposition => Sys2Proof.Machine.execRelease tag chan disposition s
  | .park tag chan choice => Sys2Proof.Machine.execPark tag chan choice s
  | .holdStatus tag chan => Sys2Proof.Machine.execHoldStatus tag chan s
  | .logConfig tag settings => Sys2Proof.Machine.execLogConfig tag settings s
  | .logRead tag maxBytes => Sys2Proof.Machine.execLogRead tag maxBytes s
  | .logClear tag counts => Sys2Proof.Machine.execLogClear tag counts s
  | .logStatus tag => Sys2Proof.Machine.execLogStatus tag s
  | .timeRead tag => Sys2Proof.Machine.execTimeRead tag s
  | .timeSet tag count => Sys2Proof.Machine.execTimeSet tag count s
  | .compareConfig tag slot delay period => Sys2Proof.Machine.execCompareConfig tag slot delay period s
  | .compareArm tag slot => Sys2Proof.Machine.execCompareArm tag slot s
  | .compareDisarm tag slot => Sys2Proof.Machine.execCompareDisarm tag slot s
  | .trigInConfig tag selection clearCount => Sys2Proof.Machine.execTrigInConfig tag selection clearCount s
  | .trigOut tag operation width => Sys2Proof.Machine.execTrigOut tag operation width s
  | .routeWrite tag index enabled source qualifier action => Sys2Proof.Machine.execRouteWrite tag index enabled source qualifier action s
  | .routeRead tag index clearCount => Sys2Proof.Machine.execRouteRead tag index clearCount s
  | .triggerStatus tag => Sys2Proof.Machine.execTriggerStatus tag s
  | .busClear tag chan => Sys2Proof.Machine.execBusClear tag chan s
  | .healthConfig tag settings => Sys2Proof.Machine.execHealthConfig tag settings s
  | .healthStatus tag chan => Sys2Proof.Machine.execHealthStatus tag chan s
  | .statsSnapshot tag => Sys2Proof.Machine.execStatsSnapshot tag s
  | .statsRead tag choice => Sys2Proof.Machine.execStatsRead tag choice s
  | .stageWrite tag offset bytes => Sys2Proof.Machine.execStageWrite tag offset bytes s
  | .stageRead tag offset count => Sys2Proof.Machine.execStageRead tag offset count s
  | .stageCheck tag offset length => Sys2Proof.Machine.execStageCheck tag offset length s
  | .jobStart tag job => Sys2Proof.Machine.execJobStart tag job s
  | .jobAbort tag => Sys2Proof.Machine.execJobAbort tag s
  | .jobStatus tag => Sys2Proof.Machine.execJobStatus tag s
  | .supplyConfig tag settings => Sys2Proof.Machine.execSupplyConfig tag settings s
  | .powerOn tag => Sys2Proof.Machine.execPowerOn tag s
  | .powerOff tag => Sys2Proof.Machine.execPowerOff tag s
  | .clearTrip tag => Sys2Proof.Machine.execClearTrip tag s
  | .tripTest tag => Sys2Proof.Machine.execTripTest tag s
  | .resetAssert tag => Sys2Proof.Machine.execResetAssert tag s
  | .resetRelease tag => Sys2Proof.Machine.execResetRelease tag s
  | .resetPulse tag width => Sys2Proof.Machine.execResetPulse tag width s
  | .supplyStatus tag => Sys2Proof.Machine.execSupplyStatus tag s
  | .powerOnReset => Sys2Proof.Machine.execPowerOnReset s
  | .powerOnResetEnd lrate1 lrate0 => Sys2Proof.Machine.execPowerOnResetEnd lrate1 lrate0 s
  | .lrxByte byte => Sys2Proof.Machine.execLrxByte byte s
  | .receiveTimeout => Sys2Proof.Machine.execReceiveTimeout s
  | .dispatch => Sys2Proof.Machine.execDispatch s
  | .transmitStart => Sys2Proof.Machine.execTransmitStart s
  | .frameSent => Sys2Proof.Machine.execFrameSent s
  | .lholdChange asserted lastByte => Sys2Proof.Machine.execLholdChange asserted lastByte s
  | .noticeIntervalExpiry => Sys2Proof.Machine.execNoticeIntervalExpiry s
  | .tick count => Sys2Proof.Machine.execTick count s
  | .cStart ch bits => Sys2Proof.Machine.execCStart ch bits s
  | .cStop ch bits => Sys2Proof.Machine.execCStop ch bits s
  | .busFreeTimeElapsed ch side => Sys2Proof.Machine.execBusFreeTimeElapsed ch side s
  | .addressByteComplete ch byte => Sys2Proof.Machine.execAddressByteComplete ch byte s
  | .dataByteComplete ch byte => Sys2Proof.Machine.execDataByteComplete ch byte s
  | .cAckComplete ch bit => Sys2Proof.Machine.execCAckComplete ch bit s
  | .grantWaitStuckLimit ch => Sys2Proof.Machine.execGrantWaitStuckLimit ch s
  | .dSideGrant ch => Sys2Proof.Machine.execDSideGrant ch s
  | .dAddressAck ch bit => Sys2Proof.Machine.execDAddressAck ch bit s
  | .dWriteByteDone ch bit => Sys2Proof.Machine.execDWriteByteDone ch bit s
  | .dReadByteDone ch byte => Sys2Proof.Machine.execDReadByteDone ch byte s
  | .dReadAckDone ch => Sys2Proof.Machine.execDReadAckDone ch s
  | .dStopComplete ch => Sys2Proof.Machine.execDStopComplete ch s
  | .dStopFailed ch => Sys2Proof.Machine.execDStopFailed ch s
  | .closePulsesFailed ch => Sys2Proof.Machine.execClosePulsesFailed ch s
  | .arbitrationLoss ch => Sys2Proof.Machine.execArbitrationLoss ch s
  | .dStretchTimeout ch => Sys2Proof.Machine.execDStretchTimeout ch s
  | .modeChange ch => Sys2Proof.Machine.execModeChange ch s
  | .holdTimeout ch => Sys2Proof.Machine.execHoldTimeout ch s
  | .imageWindowExpiry image => Sys2Proof.Machine.execImageWindowExpiry image s
  | .compareFire slot => Sys2Proof.Machine.execCompareFire slot s
  | .triginEdge rising => Sys2Proof.Machine.execTriginEdge rising s
  | .trigOutPulseEnd => Sys2Proof.Machine.execTrigOutPulseEnd s
  | .stuckCDeclare ch => Sys2Proof.Machine.execStuckCDeclare ch s
  | .stuckCClear ch => Sys2Proof.Machine.execStuckCClear ch s
  | .stuckDLineTimeout ch => Sys2Proof.Machine.execStuckDLineTimeout ch s
  | .stuckDClear ch => Sys2Proof.Machine.execStuckDClear ch s
  | .busClearPulseDone ch dataHigh => Sys2Proof.Machine.execBusClearPulseDone ch dataHigh s
  | .busClearStopDone ch dataHigh => Sys2Proof.Machine.execBusClearStopDone ch dataHigh s
  | .statsPeriodExpiry => Sys2Proof.Machine.execStatsPeriodExpiry s
  | .chunkEnd result => Sys2Proof.Machine.execChunkEnd result s
  | .probeEnd bit => Sys2Proof.Machine.execProbeEnd bit s
  | .burstEnd result => Sys2Proof.Machine.execBurstEnd result s
  | .pollLimitExpiry => Sys2Proof.Machine.execPollLimitExpiry s
  | .settleTimeElapsed => Sys2Proof.Machine.execSettleTimeElapsed s
  | .stoppingQuiesced => Sys2Proof.Machine.execStoppingQuiesced s
  | .quiesceLimitExpiry => Sys2Proof.Machine.execQuiesceLimitExpiry s
  | .ocsenseChange active => Sys2Proof.Machine.execOcsenseChange active s
  | .overcurrentFilterExpiry => Sys2Proof.Machine.execOvercurrentFilterExpiry s
  | .resetPulseEnd => Sys2Proof.Machine.execResetPulseEnd s
  | .dSideCondition ch cond => Sys2Proof.Machine.execDSideCondition ch cond s
  | .busLineChange ch side line low => Sys2Proof.Machine.execBusLineChange ch side line low s

end Sys2Proof.Machine
end

