-- ==== Sys2Proof/WellFormed.lean ====
section
/-! DEFINITION. Which commands can arrive: an operand at a width its wire field has, a list a payload can hold.
A request whose values are out of range is well formed; its owner block refuses or clamps it. -/

namespace Sys2Proof

/-- A setting and its value fit their wire fields: a one-byte setting has a one-byte value, and an unknown
setting carries none. -/
def pairFits (width : Byte → Option Nat) (p : Byte × Half) : Bool :=
  match width p.1 with
  | none => decide (p.2 = 0)
  | some n => decide (n ≠ 1 ∨ p.2.toNat < 256)

/-- A setting list fits a payload, whose `head` first bytes are taken. -/
def pairsFit (width : Byte → Option Nat) (head : Nat) (l : List (Byte × Half)) : Bool :=
  l.all (pairFits width) && decide (head + 2 * l.length ≤ 512)

/-- A run of data bytes fits a payload, whose `head` first bytes are taken (R197). -/
def bytesFit (head : Nat) (l : List Byte) : Bool := decide (head + l.length ≤ 512)

/-- A burst reads at most 256 bytes (R169). -/
def burstFits : BurstResult → Bool
  | .complete bytes => decide (bytes.length ≤ 256)
  | _ => true

/-- A well-formed command. -/
def Instr.wf : Instr → Bool
  | .setChannel _ _ l => pairsFit Machine.channelWidth 2 l
  | .logConfig _ l => pairsFit Machine.logWidth 1 l
  | .healthConfig _ l => pairsFit Machine.healthWidth 1 l
  | .supplyConfig _ l => pairsFit Machine.supplyWidth 1 l
  | .imageWrite _ _ _ l => bytesFit 3 l
  | .stageWrite _ _ l => bytesFit 3 l
  | .tick n => decide (1 ≤ n)
  | .cStart _ n => decide (n ≤ 8)
  | .cStop _ n => decide (n ≤ 8)
  | .lholdChange asserted lastByte => asserted || !lastByte
  | .burstEnd r => burstFits r
  | _ => true

end Sys2Proof
end

