-- ==== Sys2Proof/Safety.lean ====
section
/-! DEFINITION. The terms claims are made in: when dispatch can take a request, runs of commands, what a command
leaves alone, and the properties a state of the part keeps. -/

namespace Sys2Proof.Machine

/-! ### Taking commands -/

/-- Dispatch can take a request now: no power-on reset, a free place in the reply queue, no SOFT RESET waiting
(R191, R192, R195). -/
def Ready (s : State) : Prop :=
  s.inReset = false ∧ s.link.replies.length < 4 ∧ s.link.softReset = .none

/-- A status of an accepted request (R191). -/
def Status.accepted (st : Status) : Prop := st = .ok ∨ st = .adjusted

/-- Commands one after the other, to the first that gives no next state. -/
def execAll : List Instr → State → Host.Outcome State Fault Refusal
  | [], s => .next s
  | i :: rest, s =>
    match exec i s with
    | .next t => execAll rest t
    | .fault f => .fault f
    | .refused r => .refused r

/-! ### What a command leaves alone -/

/-- Two states of a channel differ in the measurements of its lines only. -/
def SameChannel (c d : Channel) : Prop := d = { c with meters := d.meters }

/-- Every block but the two channels stands as before. -/
def SameBlocks (s t : State) : Prop := t = { s with ch0 := t.ch0, ch1 := t.ch1 }

/-- Nothing changed but channel `ch`, and of the other channel nothing but the measurements of its lines. -/
def OnlyChannel (ch : Chan) (s t : State) : Prop :=
  SameBlocks s t ∧ SameChannel (s.chan (other ch)) (t.chan (other ch))

/-- Nothing changed but the measurements of the lines of both channels. -/
def Measured (s t : State) : Prop := SameBlocks s t ∧ ∀ ch, SameChannel (s.chan ch) (t.chan ch)

/-- Nothing changed but the channels, the capture log and the notice word. -/
def OnlyChannelsAndLog (s t : State) : Prop :=
  t = { s with ch0 := t.ch0, ch1 := t.ch1, log := t.log, link := { s.link with notices := t.link.notices } }

/-- A stored tick count is absent in both, or as far from the present in both (R129). -/
def KeepsDistance (before after : Tick) (o p : Option Tick) : Prop :=
  match o, p with
  | none, none => True
  | some u, some v => v - after = u - before
  | _, _ => False

/-! ### SET CHANNEL (R15) -/

/-- A setting list of SET CHANNEL with nothing wrong in it: not empty, no setting twice, each of the thirteen, every
enumerated value of its list. -/
def SettingsAccepted (l : List (Byte × Half)) : Prop :=
  l ≠ [] ∧ (l.map Prod.fst).Nodup ∧ (∀ p ∈ l, p.1.toNat < 13) ∧ (∀ p ∈ l, p.1 = 0 → p.2.toNat < 3)
    ∧ ∀ p ∈ l, p.1.toNat ∈ [1, 2, 9, 10, 11, 12] → p.2.toNat < 2

/-- A setting list carries a numeric value outside its range (section 1.6). -/
def SettingsClamped (l : List (Byte × Half)) : Prop :=
  ∃ p ∈ l, ∃ q ∈ ([(3, 10, 1200), (4, 25, 75), (5, 1, 255), (6, 1, 255), (7, 0, 60000), (8, 10, 1000)] :
      List (Nat × Nat × Nat)),
    p.1.toNat = q.1 ∧ ¬ (q.2.1 ≤ p.2.toNat ∧ p.2.toNat ≤ q.2.2)

/-- The value a setting list carries for setting `k`. -/
def carriedValue (l : List (Byte × Half)) (k : Nat) : Option Nat :=
  (l.find? fun p => decide (p.1.toNat = k)).map fun p => p.2.toNat

/-- The settings of a channel after an accepted list: those it carries, each in its range, and the others as they
were. -/
def ChanSettings.after (c : ChanSettings) (l : List (Byte × Half)) : ChanSettings :=
  let w := carriedValue l
  let num (k lo hi old : Nat) : Nat := ((w k).map fun v => max lo (min hi v)).getD old
  let flag (k : Nat) (old : Bool) : Bool := ((w k).map fun v => decide (v = 1)).getD old
  { requested := ((w 0).map fun v => if v = 0 then .monitor else if v = 1 then .active else .isolated).getD c.requested
    defaultAction := ((w 1).map fun v => if v = 1 then .deny else .forward).getD c.defaultAction
    defaultRecord := flag 2 c.defaultRecord
    rate := num 3 10 1200 c.rate, lowShare := num 4 25 75 c.lowShare, dStretchLimit := num 5 1 255 c.dStretchLimit
    stuckLimit := num 6 1 255 c.stuckLimit, holdTimeout := num 7 0 60000 c.holdTimeout
    busFreeTime := num 8 10 1000 c.busFreeTime, consoleBlocking := flag 9 c.consoleBlocking
    nackCounting := ((w 10).map fun v => if v = 1 then .exchange else .byte).getD c.nackCounting
    fallbackOnDegrade := flag 11 c.fallbackOnDegrade, returnOnRecover := flag 12 c.returnOnRecover }

/-- The plan of a channel after an accepted list: computed where the list carries the rate or the low share (R35). -/
def Channel.planAfter (c : Channel) (l : List (Byte × Half)) : Plan :=
  let t := c.settings.after l
  if (carriedValue l 3).isSome ∨ (carriedValue l 4).isSome then planOf t.rate t.lowShare else c.plan

/-! ### What the C-side is shown -/

/-- The C-side pair released by the part: a NACK. -/
def Pair.nack : Pair := ⟨false, false⟩

/-- CnDA pulled low by the part: an ACK. -/
def Pair.ack : Pair := ⟨false, true⟩

/-- The address of exchange `x` is refused with a disposition: NACK and REFUSED. -/
def RefusedAs (d : Disposition) (x : Exchange) (c : Channel) : Prop :=
  c.phase = .refused ∧ c.pull.c = .nack
    ∧ c.exch = some { x with disposition := some d, addressAck := some .nack }

/-- The counter DATA_NACKS of a channel that refuses the byte in hand of exchange `x` (R154); `noted` is a byte whose
NACK has been taken already (log entry 20). -/
def nacksAfter (c : Channel) (noted : Bool) (x : Exchange) : Nat :=
  if noted = false ∧ (c.settings.nackCounting = .byte ∨ x.firstNack = none) then
    min 4294967295 (c.health.running.dataNacks + 1)
  else c.health.running.dataNacks

/-- A disposition carried out on exchange `x` of channel `ch` (R22, R23, R71, R81, R95, R96): what the C-side is
answered and where the exchange goes, from state `s` to state `t`. A byte refused at the index stage is the first
NACKed byte (R96), unless its NACK has been taken already, which `noted` says, and the D-side grant stays. -/
def Carried (ch : Chan) (atIndex noted : Bool) (p : Planned) (x : Exchange) (s t : State) : Prop :=
  let c := s.chan ch
  let d := t.chan ch
  match p with
  | .deny =>
    if atIndex then
      d.phase = .refused ∧ d.pull.c = .nack ∧ d.health.running.dataNacks = nacksAfter c noted x
        ∧ d.exch = some (if noted then x else { x with firstNack := some (x.firstNack.getD (x.count - 1)) })
        ∧ d.arb = c.arb ∧ d.dOp = c.dOp ∧ d.pull.d = c.pull.d
    else RefusedAs .denied x d
  | .forward =>
    d.exch = some { x with disposition := some .forwarded }
      ∧ (if c.relayOpen = true ∨ (c.grantable = true ∧ c.arb.engineWaits = false) then
          d.phase = .dAddress ∧ d.arb.holder = .relay ∧ d.dOp = .address
        else d.phase = .grantWait ∧ d.arb.relayWaits = true ∧ d.arb.holder = c.arb.holder
          ∧ d.grantWait = some ⟨0, c.settings.stuckLimit * 1000⟩)
  | .emulate k =>
    if (s.image k).busyUntil.isSome = true then RefusedAs .busy x d
    else d.phase = .localAnswer ∧ d.pull.c = .ack
      ∧ d.exch = some { x with disposition := some .emulated, addressAck := some .ack, onImage := some k }
  | .console =>
    if x.direction = .read then RefusedAs .denied x d
    else if c.settings.consoleBlocking = true ∧ 8192 - t.log.occupancy < 128 then RefusedAs .busy x d
    else d.phase = .localAnswer ∧ d.pull.c = .ack
      ∧ d.exch = some { x with disposition := some .console, addressAck := some .ack, onImage := none }
  | .resume =>
    d.exch = some x
      ∧ (if x.disposition = some .forwarded then d.phase = .relayWrite ∧ d.dOp = .writeByte
        else d.phase = .localAnswer ∧ d.pull.c = .ack)

/-- Exchange `x` of channel `ch` is held, from state `s` to state `t` (R87, R92): the C-side clock stretched, the hold
record in the list, the HOLD record handed to the log, HOLDn raised, the HOLD_START occurrence taken by the router and
HELD counted; the count is stated where no route fits, since a route may take a snapshot. -/
def Held (ch : Chan) (origin : HoldOrigin) (byte : Byte) (planned : Planned) (timeout : HoldTimeout) (x : Exchange)
    (s t : State) : Prop :=
  (t.chan ch).phase = .held ∧ (t.chan ch).pull.c = ⟨true, false⟩ ∧ (t.chan ch).highPhase = false
    ∧ (t.chan ch).exch = some x
    ∧ (t.chan ch).hold = some
        { origin := origin, address := x.address, direction := x.direction, byte := byte, planned := planned
          timeout := timeout, start := s.tick
          deadline := if (s.chan ch).settings.holdTimeout = 0 then none
            else some (s.tick + BitVec.ofNat 32 ((s.chan ch).settings.holdTimeout * 1000))
          elapsed := 0 }
    ∧ t.link.noticed (holdNotice ch) = true
    ∧ t.log = ((s.hand (some ch) (.hold origin x.address x.direction byte)).occur .holdStart none).log
    ∧ t.routes = s.routes.map (fun q =>
        if q.fits .holdStart none then { q with fires := min 65535 (q.fires + 1) } else q)
    ∧ ((∀ q ∈ s.routes, q.fits .holdStart none = false) → (t.chan ch).health.running =
        { (s.chan ch).health.running with held := min 4294967295 ((s.chan ch).health.running.held + 1) })

/-- A misframe of channel `ch` has been taken, from state `s` to state `u`, one of the exchange in flight where `inExch`
(R13, R144 to R148, R12): MISFRAMES rises and the clean run is 0; while DEGRADED is clear the misframe count rises, and
at the degrade threshold DEGRADED is declared with both counts 0, its EVENT record, HEALTHn unless the trip is latched or
a line is stuck, and with fallback-on-degrade the fallback flag, or fallback owed while a job runs on the channel.
Nothing else changes. -/
def MisframeTaken (ch : Chan) (inExch : Bool) (s u : State) : Prop :=
  let c := s.chan ch
  let h := c.health
  let n := min 63 (h.misframes + 1)
  let declares := !h.degraded && decide (s.monitor.degrade ≤ n)
  let falls := declares && c.settings.fallbackOnDegrade
  let quiet := decide (s.supply.state = .tripped) || h.stuckC || h.stuckD
  let v := s.hand (some ch) (.event (.degraded true))
  SameBlocks { s with log := u.log, link := u.link } u ∧ u.chan (other ch) = s.chan (other ch)
    ∧ (if declares = true then u.log = v.log ∧ u.link = (if quiet then v else v.raise (healthNotice ch)).link
      else u.log = s.log ∧ u.link = s.link)
    ∧ u.chan ch = { c with
        exch := if inExch then c.exch.map fun x => { x with misframe := true } else c.exch
        fallback := c.fallback || (falls && !s.jobOn ch)
        health := { h with
          running := { h.running with misframes := min 4294967295 (h.running.misframes + 1) }
          misframes := if h.degraded then h.misframes else if declares then 0 else n
          cleanRun := 0, degraded := h.degraded || declares, owed := h.owed || (falls && s.jobOn ch) } }

/-- What a misframe comes to where sync says whether one is recognised at all (R7, R13, log entry 46). -/
def MisframeSeen (ch : Chan) (inExch : Bool) (s u : State) : Prop :=
  if (s.chan ch).sync = .synced then MisframeTaken ch inExch s u else u = s

/-- State `t` has what the end of an exchange of channel `ch` that led to `e` left (R34): the log, the link, the rule
table, the images, and the channel's health, fallback flag and console buffer. -/
def EndsAs (ch : Chan) (e t : State) : Prop :=
  t.log = e.log ∧ t.link = e.link ∧ t.rules = e.rules ∧ t.images = e.images
    ∧ (t.chan ch).health = (e.chan ch).health ∧ (t.chan ch).fallback = (e.chan ch).fallback
    ∧ (t.chan ch).console = (e.chan ch).console

/-- Records handed to the log one after the other (R109). -/
def State.handAll (s : State) (ch : Option Chan) (l : List Body) : State := l.foldl (fun s b => s.hand ch b) s

/-- The records of an exchange in flight that ends ABORTED at `now` (R34, R83): the console text, and its EXCHANGE
record where it carries the record mark. It is no clean exchange, so DEGRADED does not clear with it. -/
def Channel.abortedRecords (c : Channel) (now : Tick) : List Body :=
  match c.exch with
  | none => []
  | some x => (if c.console = [] then [] else [.console c.console])
      ++ (if x.recordIt then [.exchange (x.body (c.addressAck x) .aborted now)] else [])

/-- The record of a hold that is abandoned (R99, R101). -/
def Channel.abandonedRecords (c : Channel) : List Body :=
  match c.hold with
  | none => []
  | some h => [.holdEnd none .abandoned (min 4294967295 (h.elapsed / 1000))]

/-- A job that runs on channel `ch` told as ended with `cause` at its unit's address (R173): its record, then its
JOB_END occurrence. -/
def State.jobTold (s : State) (ch : Chan) (cause : JobCause) : State :=
  match s.engine.job with
  | none => s
  | some j =>
    if j.chan = ch then
      let r := j.result (j.endingCause.getD cause) j.unitAddress
      let t := (s.hand (some ch) (.job r.id r.outcome r.cause r.done r.failing)).occur .jobEnd none
      { t with engine := { t.engine with job := none } }
    else s

/-- The entry of channel `ch` to ISOLATED told in the order of R9 (log entry 14): the exchange in flight ABORTED, the
hold abandoned, a job ended with `cause`, and last the change of mode. -/
def State.isolationTold (s : State) (ch : Chan) (cause : JobCause) : State :=
  let c := s.chan ch
  ((s.handAll (some ch) (c.abortedRecords s.tick ++ c.abandonedRecords)).jobTold ch cause).hand (some ch)
    (.event (.mode .isolated))

/-- `f` told of the channels among `due`; of two, in the order the free value of log entry 13 gives. -/
def State.toldBoth (s : State) (due : Chan → Bool) (f : Chan → State → State) : State :=
  let one (ch : Chan) (t : State) : State := if due ch then f ch t else t
  if due .c0 && due .c1 && Config.channelOneFirst s.freeIx then one .c0 (one .c1 s) else one .c1 (one .c0 s)

/-- The entries to ISOLATED of the channels among `due`, told. -/
def State.isolationsTold (s : State) (due : Chan → Bool) (cause : JobCause) : State :=
  s.toldBoth due fun ch t => t.isolationTold ch cause

/-- The transaction of the current unit of job `j` (R166 to R169): a chunk with its data bytes from the staging
buffer, a probe, or a burst whose bytes are ACKed but the last. -/
def UnitIs (j : Job) (staging : Mem) (l : List UnitItem) : Prop :=
  let write : Byte := BitVec.ofNat 8 (2 * j.device.toNat)
  let read : Byte := BitVec.ofNat 8 (2 * j.device.toNat + 1)
  let address : List Byte := if j.width = 1 then [BitVec.ofNat 8 j.unitAddress]
    else [BitVec.ofNat 8 (j.unitAddress / 256), BitVec.ofNat 8 j.unitAddress]
  let data : List Byte := (List.range j.unitLength).map fun i =>
    memRead staging (j.staging.getD 0 + (j.unitAddress - j.start) + i)
  match j.unit with
  | .chunk => l = [.start] ++ (write :: address ++ data).map .send ++ [.stop]
  | .probe => l = [.start, .send write, .stop]
  | .burst => l = [.start] ++ (write :: address).map .send ++ [.restart, .send read]
      ++ (List.range j.unitLength).map (fun i => .receive (if i + 1 = j.unitLength then .nack else .ack)) ++ [.stop]

/-- The job `j` has ended with result `r`, from state `s` to state `t` (R173): no job, the last result, no grant and
no wait for one, no transaction and no burst kept, the JOB notice, the JOB claim gone where the job placed it, a
fallback it held back applied while DEGRADED stands and owed no more (R147), and its record where no route fits the
JOB_END occurrence. -/
def JobEnded (j : Job) (r : JobResult) (s t : State) : Prop :=
  t.engine.job = none ∧ t.engine.last = some r ∧ t.engine.unit = [] ∧ t.engine.burst = []
    ∧ (t.chan j.chan).arb.holder ≠ .engine ∧ (t.chan j.chan).arb.engineWaits = false ∧ t.link.noticed .job = true
    ∧ (j.holdReset = true → t.supply.claims.job = false)
    ∧ (t.chan j.chan).health.owed = false
    ∧ (t.chan j.chan).fallback = ((s.chan j.chan).fallback
        || ((s.chan j.chan).health.owed && (s.chan j.chan).health.degraded))
    ∧ ((∀ q ∈ s.routes, q.fits .jobEnd none = false) →
        t.log = (s.hand (some j.chan) (.job r.id r.outcome r.cause r.done r.failing)).log)

/-- The job goes on with a unit as `j`, from state `s` to state `t`, after a unit that ended with its STOP where
`stopped` and by a loss otherwise: where the D-side is grantable and the relay does not wait, it is granted again at
once, with the unit's transaction issued, and elsewhere it waits (R164). A loss leaves the D-side unseen free. -/
def JobGoesOn (j : Job) (stopped : Bool) (s t : State) : Prop :=
  let c := s.chan j.chan
  t.engine.job = some j ∧ t.engine.last = s.engine.last ∧ t.log = s.log ∧ t.link = s.link ∧ t.supply = s.supply
    ∧ SameChannel (s.chan (other j.chan)) (t.chan (other j.chan))
    ∧ (if stopped = true ∧ (c.mode = .active ∨ c.seenFree = true) ∧ c.health.busClear = none
          ∧ c.arb.relayWaits = false then
        (t.chan j.chan).arb = ⟨.engine, .engine, false, false⟩ ∧ (t.chan j.chan).dOp = .unit
          ∧ (t.chan j.chan).latched = some c.plan ∧ UnitIs j t.engine.staging t.engine.unit
      else (t.chan j.chan).arb = { c.arb with holder := .none, engineWaits := true }
        ∧ t.engine.unit = s.engine.unit)

/-- The state with one reply more (R192). -/
def State.withReply (s : State) (r : Reply) : State :=
  { s with link := { s.link with replies := s.link.replies ++ [r] } }

/-- The state with one entry of the rule table replaced. -/
def State.withEntry (s : State) (k : Nat) (e : Entry) : State := { s with rules := s.rules.set k e }

/-- The state with one image replaced. -/
def State.withImage (s : State) (k : Fin 4) (i : Image) : State := { s with images := s.images.set k.val i }

/-! ### Properties every step keeps -/

/-- The rule table (R46, R49): 32 entries; the remaining passes never exceed the pass count of the live copy; an
EMPTY live copy has no passes and no hits. -/
def State.TableOk (s : State) : Prop :=
  s.rules.length = 32 ∧
    ∀ e ∈ s.rules, e.remaining ≤ e.live.passCount ∧ (e.live = .empty → e.hits = 0)

/-- The capture log (R105, R106): at most 8192 bytes, no record longer than 86; and what the log's longest records
come from, the console buffers (R80, R83) and the shown bytes (R20). -/
def State.LogOk (s : State) : Prop :=
  s.log.occupancy ≤ 8192 ∧ (∀ r ∈ s.log.records, r.length ≤ 86) ∧
    ∀ ch, (s.chan ch).console.length < 64 ∧ ∀ x, (s.chan ch).exch = some x → x.shown.length ≤ 16

/-- The bench link's buffers (R191, R192): at most four replies and two request frames. -/
def State.LinkOk (s : State) : Prop := s.link.replies.length ≤ 4 ∧ s.link.buffer.length ≤ 2

/-- An image (R69): its ranges, its pointer below its size, and contents of positions 0..255 in canonical form. -/
def Image.Ok (i : Image) : Prop :=
  1 ≤ i.size ∧ i.size ≤ 256 ∧ i.writeTime ≤ 50 ∧ i.pointer < i.size ∧ i.writeCount ≤ 65535
    ∧ memWf i.contents = true ∧ ∀ p ∈ i.contents, p.1 < 256

/-- The image store (R69): four images. -/
def State.ImagesOk (s : State) : Prop := s.images.length = 4 ∧ ∀ i ∈ s.images, i.Ok

/-- The effective mode follows a target of ISOLATED at once (R8, R9). -/
def State.IsolationOk (s : State) : Prop := ∀ ch, s.target ch = .isolated → (s.chan ch).mode = .isolated

/-- The ranges of the channel settings (section 1.6). -/
def ChanSettings.Ok (t : ChanSettings) : Prop :=
  10 ≤ t.rate ∧ t.rate ≤ 1200 ∧ 25 ≤ t.lowShare ∧ t.lowShare ≤ 75
    ∧ 1 ≤ t.dStretchLimit ∧ t.dStretchLimit ≤ 255 ∧ 1 ≤ t.stuckLimit ∧ t.stuckLimit ≤ 255
    ∧ t.holdTimeout ≤ 60000 ∧ 10 ≤ t.busFreeTime ∧ t.busFreeTime ≤ 1000

/-- Both channels' settings are in range, and the clock plan is the one of the settings (R35). -/
def State.SettingsOk (s : State) : Prop :=
  ∀ ch, (s.chan ch).settings.Ok
    ∧ (s.chan ch).plan = planOf (s.chan ch).settings.rate (s.chan ch).settings.lowShare

/-- The health monitor's counts and thresholds (R143), with no misframe count while DEGRADED (R146). -/
def State.HealthOk (s : State) : Prop :=
  (1 ≤ s.monitor.degrade ∧ s.monitor.degrade ≤ 63) ∧ (1 ≤ s.monitor.clear ∧ s.monitor.clear ≤ 63)
    ∧ (1 ≤ s.monitor.recover ∧ s.monitor.recover ≤ 63)
    ∧ ∀ ch, (s.chan ch).health.misframes ≤ 63 ∧ (s.chan ch).health.cleanRun ≤ 63
        ∧ ((s.chan ch).health.degraded = true → (s.chan ch).health.misframes = 0)

/-- The supply controller (R179 to R186): the settle time is counted exactly in RAMPING and the quiesce limit
exactly in STOPPING; the filter measures only in a watched state with the input active; the RAMP claim is there
only in RAMPING, and the PULSE claim exactly while the pulse timer runs. -/
def State.SupplyOk (s : State) : Prop :=
  (s.supply.settleTimer.isSome = true ↔ s.supply.state = .ramping)
    ∧ (s.supply.quiesceTimer.isSome = true ↔ s.supply.state = .stopping)
    ∧ (s.supply.filterTimer.isSome = true → s.supply.state.watched = true ∧ s.supply.ocsense = true)
    ∧ (s.supply.claims.ramp = true → s.supply.state = .ramping)
    ∧ s.supply.pulseTimer.isSome = s.supply.claims.pulse

/-- A programming job (R161): its ranges, its unit inside its range, and its staging region inside the buffer. -/
def Job.Ok (j : Job) : Prop :=
  1 ≤ j.page ∧ 1 ≤ j.length ∧ j.start ≤ j.unitAddress ∧ j.unitAddress + j.unitLength ≤ j.start + j.length
    ∧ j.unitAddress < j.start + j.length ∧ j.staging.getD 0 + j.length ≤ 4096
    ∧ 1 ≤ j.attempt ∧ j.attempt ≤ 3 ∧ j.sumA < 65521 ∧ j.sumB < 65521

/-- The programming engine (R158, R161, R169): 4096 staging bytes in canonical form, a running job in order, and no
burst kept once its bytes have been used. -/
def State.EngineOk (s : State) : Prop :=
  memWf s.engine.staging = true ∧ (∀ p ∈ s.engine.staging, p.1 < 4096) ∧ (∀ j, s.engine.job = some j → j.Ok)
    ∧ s.engine.burst = []

/-- The timebase and the router (R130, R134, R135, R137): the ranges of the compare slots, the TRIG-OUT width and
the counts, and eight routes. -/
def State.TriggersOk (s : State) : Prop :=
  (∀ slot, 1 ≤ (s.compare slot).delay ∧ (s.compare slot).delay ≤ 2147483648
      ∧ (s.compare slot).period ≤ 16777215 ∧ (s.compare slot).fires ≤ 65535)
    ∧ s.trigIn.count ≤ 65535 ∧ (1 ≤ s.trigOut.width ∧ s.trigOut.width ≤ 65535)
    ∧ s.routes.length = 8 ∧ ∀ r ∈ s.routes, r.fires ≤ 65535

end Sys2Proof.Machine
end

