-- ==== Sys2Proof/Certificates/Slice0/Obligations.lean ====
section
/-! DEFINITION. The statements for the provers, each with the rules it rests on. -/

open Sys2Proof Sys2Proof.Machine

/-- For every command c and state s, a step of s with c at the front of its queue is exec of c on s with the queue's
rest. With no command waiting the block idles, which is the model's choice (log entry 3). (98_reader.md) -/
def Obligations.StepTakesFront : Prop :=
  ∀ s : State,
      (∀ (c : Instr) (rest : List Instr), step { s with pending := c :: rest } = exec c { s with pending := rest })
      ∧ (s.pending = [] → step s = .next s)

/-- In every state every command, the resets included, ends in a next state with the same queue of waiting commands:
the manual names no condition that stops the part. (98_reader.md, R191) -/
def Obligations.NextStateKeepsQueue : Prop :=
  ∀ (c : Instr) (s : State), ∃ t, exec c s = .next t ∧ t.pending = s.pending

/-- A payload that passes the link's checks, taken while dispatch can take it, gives a next state with exactly one
reply more, carrying the request's tag and the payload's first byte. When its status is a refusal it carries no
results and nothing but the reply queue has changed. (R191) -/
def Obligations.OneReplyPerRequest : Prop :=
  ∀ (tag : Byte) (payload : List Byte) (i : Instr) (s : State), requestOf tag payload = .ok i → Ready s →
    ∃ (t : State) (r : Reply), exec i s = .next t ∧ t.link.replies = s.link.replies ++ [r] ∧ r.tag = tag
      ∧ payload.head? = some r.code ∧ (¬ r.status.accepted → r.results = [] ∧ t = s.withReply r)

/-- With a frame in the receive buffer and dispatch able to take one, DISPATCH removes the oldest frame. One that
passes the link's checks is served as its request command is; one that does not is answered with the failing
check's status, no results, and nothing else changes. With an empty buffer, four replies queued or a SOFT RESET
waiting, DISPATCH changes nothing. (R191, R192, R195) -/
def Obligations.DispatchServesOldest : Prop :=
  ∀ s : State,
    ((s.link.buffer = [] ∨ 4 ≤ s.link.replies.length ∨ s.link.softReset ≠ .none) → exec .dispatch s = .next s)
    ∧ ∀ (r : Request) (rest : List Request), s.link.buffer = r :: rest → Ready s →
      (∀ i, requestOf r.tag r.payload = .ok i →
        exec .dispatch s = exec i { s with link := { s.link with buffer := rest } })
      ∧ (∀ code status, requestOf r.tag r.payload = .error (code, status) →
        exec .dispatch s = .next { s with link := { s.link with
          buffer := rest, replies := s.link.replies ++ [⟨r.tag, code, status, []⟩] } })

/-- An empty payload is BAD_LENGTH with code 0; a first byte outside the request code table is UNKNOWN_REQUEST; a
parameter byte left over on a request without parameters, and a missing byte on a request that names one
channel, are BAD_LENGTH. (R191, R196, R197) -/
def Obligations.LinkChecks : Prop :=
  ∀ (tag : Byte),
      requestOf tag [] = .error (0, .badLength)
      ∧ (∀ (code : Byte) (rest : List Byte), code.toNat ∉ [0x01, 0x02, 0x03, 0x04, 0x10, 0x11, 0x12, 0x20, 0x21, 0x22,
          0x23, 0x24, 0x25, 0x30, 0x31, 0x32, 0x33, 0x38, 0x39, 0x3A, 0x40, 0x41, 0x42, 0x43, 0x50, 0x51, 0x52, 0x53,
          0x54, 0x55, 0x56, 0x57, 0x58, 0x59, 0x60, 0x61, 0x62, 0x63, 0x64, 0x70, 0x71, 0x72, 0x73, 0x74, 0x75, 0x80,
          0x81, 0x82, 0x83, 0x84, 0x85, 0x86, 0x87, 0x88] →
        requestOf tag (code :: rest) = .error (code, .unknownRequest))
      ∧ (∀ (code x : Byte) (rest : List Byte), code.toNat ∈ [0x01, 0x02, 0x03, 0x43, 0x50, 0x59, 0x63, 0x74, 0x75,
          0x81, 0x82, 0x83, 0x84, 0x85, 0x86, 0x88] →
        requestOf tag (code :: x :: rest) = .error (code, .badLength))
      ∧ (∀ code : Byte, code.toNat ∈ [0x11, 0x12, 0x3A, 0x60, 0x62] → requestOf tag [code] = .error (code, .badLength))

/-- From HUNT, the bytes of a frame with any kind, tag and payload of up to 512 bytes and any two check bytes, each
an LRX_BYTE, leave the receiver in HUNT and nothing but the link changed: with the check of R189 and the kind
REQUEST the tag and payload stand last in the receive buffer, or with both places full the overrun count is one
higher; with another check or kind the link error count is one higher; and the LINK notice is set for each
discarded frame. (R189, R190, R197) -/
def Obligations.ReceiverJudgesFrames : Prop :=
  ∀ (kind tag a b : Byte) (payload : List Byte) (s : State), payload.length ≤ 512 → s.inReset = false →
    s.link.rx.state = .hunt →
    ∃ t, execAll (((0x5A :: frameCovered kind tag payload) ++ [a, b]).map Instr.lrxByte) s = .next t
      ∧ t = { s with link := t.link } ∧ t.link.rx = .reset
      ∧ t.link = { s.link with rx := t.link.rx, buffer := t.link.buffer, errors := t.link.errors,
                               overruns := t.link.overruns, notices := t.link.notices }
      ∧ (if [a, b] = frameCheck (frameCovered kind tag payload) ∧ kind = 1 then
           if s.link.buffer.length < 2 then
             t.link.buffer = s.link.buffer ++ [⟨tag, payload⟩] ∧ t.link.errors = s.link.errors
               ∧ t.link.overruns = s.link.overruns ∧ t.link.notices = s.link.notices
           else
             t.link.buffer = s.link.buffer ∧ t.link.errors = s.link.errors
               ∧ t.link.overruns = min 65535 (s.link.overruns + 1) ∧ t.link.notices = s.link.notices ||| 0x0400
         else
           t.link.buffer = s.link.buffer ∧ t.link.errors = min 65535 (s.link.errors + 1)
             ∧ t.link.overruns = s.link.overruns ∧ t.link.notices = s.link.notices ||| 0x0400)

/-- With the transmitter idle, LHOLD released and no reset due: the oldest reply as a REPLY frame; with no reply, a
due NOTICE frame, which copies and empties the word; with neither, STREAM on and records in the log, a REPORT
frame under the next sequence number of the oldest whole records that fit 480 bytes, which leave the log;
otherwise nothing. (R192, R193, R121, R195) -/
def Obligations.TransmitterOrder : Prop :=
  ∀ s : State, s.inReset = false → s.link.tx = none → s.link.lhold = false → s.link.softReset ≠ .due →
      (∀ r rest, s.link.replies = r :: rest →
        exec .transmitStart s = .next { s with link := { s.link with
          replies := rest, tx := some (frame 2 r.tag ([r.code, r.status.code] ++ r.results)) } })
      ∧ (s.link.replies = [] → s.link.noticeDue = true →
        exec .transmitStart s = .next { s with link := { s.link with
          tx := some (frame 4 0 (le16 s.link.notices.toNat)), notices := 0, noticeDue := false } })
      ∧ (s.link.replies = [] → s.link.noticeDue = false → s.log.stream = true → s.log.records ≠ [] →
        exec .transmitStart s = .next { s with
          log := { s.log with records := (takeFitting 480 s.log.records).2 }
          link := { s.link with
            tx := some (frame 3 s.link.reportSeq (recordBytes (takeFitting 480 s.log.records).1))
            reportSeq := s.link.reportSeq + 1 } })
      ∧ (s.link.replies = [] → s.link.noticeDue = false → (s.log.stream = false ∨ s.log.records = []) →
        exec .transmitStart s = .next s)

/-- What a report or a LOG READ takes and what stays are together the log's records in their order; the taken ones
fit the room together, and the first that stays would not have fitted with them. (R121, R122) -/
def Obligations.WholeRecordsInOrder : Prop :=
  ∀ (room : Nat) (l : List Record),
      (takeFitting room l).1 ++ (takeFitting room l).2 = l ∧ bytesOf (takeFitting room l).1 ≤ room
      ∧ ∀ r rest, (takeFitting room l).2 = r :: rest → room < bytesOf (takeFitting room l).1 + r.length

/-- In HUNT a byte other than 0x5A is discarded and 0x5A begins a frame in HEADER with four bytes to come; a fourth
header byte that gives a length above 512, and 20 ms without a byte, discard the frame: HUNT, one link error
more, the LINK notice. A frame that has been sent leaves the transmitter idle, and after the last queued reply
of a waiting SOFT RESET makes the reset due. LHOLD follows its pin, with the byte in progress finished (log
entry 29). At the notice interval's expiry a NOTICE frame becomes due when the word is not empty, and the timer
runs on. (R188, R190, R192, R193, R195) -/
def Obligations.LinkEvents : Prop :=
  ∀ (s : State) (b : Byte),
      (s.inReset = false → (
        (s.link.rx.state = .hunt → b ≠ 0x5A → exec (.lrxByte b) s = .next s)
        ∧ (s.link.rx.state = .hunt →
            exec (.lrxByte 0x5A) s =
              .next { s with link := { s.link with rx := ⟨.header, [], [], 4, some ⟨0, 20000⟩⟩ } })
        ∧ (∀ kind tag lo, s.link.rx.state = .header → s.link.rx.bytes = [kind, tag, lo] → s.link.rx.left = 1 →
            512 < lo.toNat + 256 * b.toNat →
            exec (.lrxByte b) s = .next { s with link := { s.link with
              rx := .reset, errors := min 65535 (s.link.errors + 1), notices := s.link.notices ||| 0x0400 } })
        ∧ (∀ tm, s.link.rx.timer = some tm → tm.limit ≤ tm.elapsed →
            exec .receiveTimeout s = .next { s with link := { s.link with
              rx := .reset, errors := min 65535 (s.link.errors + 1), notices := s.link.notices ||| 0x0400 } })))
      ∧ (s.inReset = false → s.link.tx.isSome = true → s.link.lhold = false →
        exec .frameSent s = .next { s with link := { s.link with
          tx := none, txLastByte := false
          softReset := if s.link.softReset = .waiting ∧ s.link.replies = [] then .due else s.link.softReset } })
      ∧ (s.inReset = false → s.link.lhold = true → s.link.txLastByte = false → exec .frameSent s = .next s)
      ∧ (∀ lastByte, s.link.lhold = false →
        exec (.lholdChange true lastByte) s = .next { s with link := { s.link with
          lhold := true, txLastByte := lastByte && s.link.tx.isSome } })
      ∧ (∀ lastByte, exec (.lholdChange false lastByte) s = .next { s with link := { s.link with
          lhold := false, txLastByte := false } })
      ∧ (s.inReset = false → s.link.noticeTimer.limit ≤ s.link.noticeTimer.elapsed →
        exec .noticeIntervalExpiry s = .next { s with link := { s.link with
          noticeTimer := ⟨s.link.noticeTimer.elapsed - s.link.noticeTimer.limit, s.link.interval * 1000⟩
          noticeDue := s.link.noticeDue || decide (s.link.notices ≠ 0) } })

/-- IDENTIFY answers the codes, the capacities, the baud rate and the two counts; NOTICE NOW makes a NOTICE frame
due; LINK CONFIG stores the interval brought into 1..1000 ms, restarts its timer and answers it, ADJUSTED when
it was clamped; SOFT RESET is answered OK and waits. Nothing else changes. The widths of the replies are log
entry 18's. (R194, R195, R191) -/
def Obligations.LinkRequests : Prop :=
  ∀ (s : State) (tag : Byte) (interval : Half), Ready s →
      exec (.identify tag) s = .next (s.withReply ⟨tag, 0x01, .ok,
        [0x2D, 0xB2, 0x01, 32, 4, 0x00, 0x20, 0x00, 0x10] ++ le32 s.link.baud ++ le16 s.link.errors
          ++ le16 s.link.overruns⟩)
      ∧ exec (.noticeNow tag) s = .next (({ s with link := { s.link with noticeDue := true } } : State).withReply
          ⟨tag, 0x03, .ok, []⟩)
      ∧ exec (.softReset tag) s = .next (({ s with link := { s.link with softReset := .waiting } } : State).withReply
          ⟨tag, 0x02, .ok, []⟩)
      ∧ exec (.linkConfig tag interval) s =
          let n := max 1 (min 1000 interval.toNat)
          .next (({ s with link := { s.link with interval := n, noticeTimer := ⟨0, n * 1000⟩ } } : State).withReply
            ⟨tag, 0x04, if n = interval.toNat then .ok else .adjusted, le16 n⟩)

/-- Outside STOPPING, the soft reset that is due keeps the supply controller but for its JOB claim, the tick count,
the baud rate and the input pins, and returns every other block to its power-on values, the log's last stamp
taking the tick count; each channel is ISOLATED where the supply asks for it and MONITOR otherwise. In STOPPING
the supply ends OFF with result QUIESCED. Power-on reset gives every block its power-on values whatever the
state, with both bypass switches closed, so that the two sides of a channel are one bus, and no claim on the
reset line, and lasts until POWER_ON_RESET_END, which samples the straps into the baud rate and opens the
switches of the two ISOLATED channels. The soft reset as one replacement of the state, with no trace of the
exchanges it aborts, is log entry 30; the input pins, the model's own fields and the part under power-on reset
are log entries 27, 28 and 35. (R195, R19, R126, R175, R176, R188, R2) -/
def Obligations.Resets : Prop :=
  ∀ s : State,
      (s.inReset = false → s.link.softReset = .due →
        ∃ t, exec .softResetTaken s = .next t
          ∧ (s.supply.state ≠ .stopping →
              t = { State.reset with
                ch0 := t.ch0, ch1 := t.ch1, log := { Log.reset s.tick with lastStamp := s.tick }, tick := s.tick
                trigIn := .reset s.trigIn.level
                supply := { s.supply with claims := { s.supply.claims with job := false } }
                link := .reset s.link.baud s.link.lhold, freeIx := s.freeIx, pending := s.pending }
              ∧ ∀ ch, ∃ m, SameChannel (.reset m (s.chan ch).ext) (t.chan ch)
                  ∧ m = (if s.supply.state = .tripped
                        ∨ s.supply.settings.follow = true ∧ (s.supply.state = .off ∨ s.supply.state = .ramping)
                      then .isolated else .monitor))
          ∧ (s.supply.state = .stopping → t.supply.state = .off ∧ t.supply.lastStop = .quiesced
              ∧ ∀ ch, (t.chan ch).exch = none ∧ (t.chan ch).hold = none))
      ∧ (∃ t, exec .powerOnReset s = .next t ∧ t.inReset = true
        ∧ t = { State.reset with
            ch0 := .reset .isolated s.ch0.ext, ch1 := .reset .isolated s.ch1.ext
            trigIn := .reset s.trigIn.level, supply := .reset s.supply.ocsense
            link := .reset s.link.baud s.link.lhold, inReset := true, freeIx := s.freeIx, pending := s.pending }
        ∧ (∀ ch, t.bypassClosed ch = true
            ∧ let e := (s.chan ch).ext
              t.cClockLow ch = (e.c.clock || e.d.clock) ∧ t.cDataLow ch = (e.c.data || e.d.data)
                ∧ t.dClockLow ch = (e.c.clock || e.d.clock) ∧ t.dDataLow ch = (e.c.data || e.d.data))
        ∧ t.supply.switchClosed = false ∧ t.supply.claims.asserted = false)
      ∧ (s.inReset = true → ∀ lrate1 lrate0, ∃ t, exec (.powerOnResetEnd lrate1 lrate0) s = .next t
        ∧ t = { s with ch0 := t.ch0, ch1 := t.ch1, inReset := false, link := { s.link with
            baud := if lrate1 = true ∧ lrate0 = false then 3000000
              else if lrate1 = false ∧ lrate0 = true then 921600 else 115200 } }
        ∧ ∀ ch, SameChannel (s.chan ch) (t.chan ch) ∧ t.bypassClosed ch = decide ((s.chan ch).mode = .monitor))

/-- SET CHANNEL is refused BAD_PARAM for a channel other than 0 and 1, with no setting, with a setting twice, with a
setting outside the thirteen, and with an enumerated value outside its list; and BUSY when it would set MONITOR
on a channel that runs a job and nothing else is wrong with it (the order is the model's choice, log entry 52);
nothing but the reply queue then changes. An accepted SET CHANNEL that does not take the channel to ISOLATED
(EntryToIsolated has the one that does) writes each setting it carries, brought into its range, and keeps the
others; a written requested mode clears the fallback flag and the fallback owed; a written rate or low share
gives the channel a new plan. The bus-free point at which the channel stands serves for no change to a target
mode that the request gives it (R10, log entry 12). The reply is ADJUSTED when a value was clamped and OK
otherwise, with the achieved rate of the settings as they then stand. Nothing else changes but the measurements
of the lines. Of these, one that runs, or whose condition held already, goes on with the limit it began with
(R16): bus-free time of the C-side, stuck lines, D-stretch, and the two measurements of high D-side lines. That
in the low phase of a bus clear's pulse these two begin anew, with what is left of that low phase, in whole
microseconds rounded up, and the bus-free time as it then stands, is the model's choice (log entry 41). (R15,
R16, R11, R12, R10, R35, R147, R191) -/
def Obligations.SetChannel : Prop :=
  (∀ (s : State) (tag chan : Byte) (l : List (Byte × Half)), Ready s →
      ((2 ≤ chan.toNat ∨ ¬ SettingsAccepted l) →
        exec (.setChannel tag chan l) s = .next (s.withReply ⟨tag, 0x10, .badParam, []⟩))
      ∧ (∀ ch, chan = chanCode ch → SettingsAccepted l → s.jobOn ch = true → (0, 0) ∈ l →
          exec (.setChannel tag chan l) s = .next (s.withReply ⟨tag, 0x10, .busy, []⟩)))
    ∧ (∀ (s : State) (tag : Byte) (ch : Chan) (l : List (Byte × Half)), Ready s → s.IsolationOk →
    SettingsAccepted l → (s.jobOn ch = true → (0, 0) ∉ l) → ((0, 2) ∉ l ∨ (s.chan ch).mode = .isolated) →
    let c := s.chan ch
    let t := c.settings.after l
    let moded := (carriedValue l 0).isSome
    let keeps (before after : Option Timer) (limit : Nat) : Prop := ∀ n, after = some n → n = before.getD ⟨0, limit⟩
    ∃ (u : State) (st : Status), exec (.setChannel tag (chanCode ch) l) s =
        .next (u.withReply ⟨tag, 0x10, st, le32 (planOf t.rate t.lowShare).achieved⟩)
      ∧ (SettingsClamped l → st = .adjusted) ∧ (¬ SettingsClamped l → st = .ok) ∧ OnlyChannel ch s u
      ∧ u.chan ch = { c with
          settings := t
          fallback := if moded then false else c.fallback
          freePoint := c.freePoint && !(moded && (decide (t.requested ≠ c.settings.requested) || c.fallback))
          health := { c.health with owed := if moded then false else c.health.owed }
          plan := c.planAfter l
          meters := (u.chan ch).meters }
      ∧ keeps c.meters.cIdle (u.chan ch).meters.cIdle c.settings.busFreeTime
      ∧ keeps c.meters.stuckClock (u.chan ch).meters.stuckClock (c.settings.stuckLimit * 1000)
      ∧ keeps c.meters.stuckData (u.chan ch).meters.stuckData (c.settings.stuckLimit * 1000)
      ∧ keeps c.meters.stuckD (u.chan ch).meters.stuckD (c.settings.stuckLimit * 1000)
      ∧ keeps c.meters.dStretch (u.chan ch).meters.dStretch (c.settings.dStretchLimit * 1000)
      ∧ (∀ m n, ((c.meters.dIdle = some m ∧ (u.chan ch).meters.dIdle = some n)
            ∨ (c.meters.dClear = some m ∧ (u.chan ch).meters.dClear = some n)) →
          n = (match c.health.busClear with
            | none => m
            | some b =>
              let lead := (b.plan.low + 47) / 48
              if b.since < lead then ⟨0, lead - b.since + t.busFreeTime⟩ else m)))

/-- From MONITOR or ACTIVE, with any accepted list that makes the requested mode ISOLATED, whatever else it carries:
each carried setting is written in its range and the others kept, the plan computed where the rate or the low
share is written, the fallback flag and the fallback owed clear, and the reply ADJUSTED when a value was clamped
and OK otherwise, with the achieved rate. The effective mode becomes ISOLATED within the request: all four lines
released, no exchange in flight, no hold, park flag and seen-free flag clear, sync UNKNOWN, phase FREE, no bus
clear running and no relay grant; a job on the channel has ended ABORTED with cause MODE, or with its ending
cause; the records of the aborted exchange, of the abandoned hold and of the job stand in the log in that order,
and the EVENT record of the change last (log entry 14); a hold raises HOLDn and a job JOB; the image window and
the references are those of the ended exchange (R34), the running bus clear is ABANDONED; a job on the other
channel is not touched, and the other channel's lines, mode and exchange are as before. (R9, R10, R11, R15, R34,
R35, R99, R151, R172, R173) -/
def Obligations.EntryToIsolated : Prop :=
  ∀ (s : State) (tag : Byte) (ch : Chan) (l : List (Byte × Half)), Ready s → (s.chan ch).mode ≠ .isolated →
    SettingsAccepted l → (0, 2) ∈ l →
    let c := s.chan ch
    let set := c.settings.after l
    ∃ (t : State) (st : Status), exec (.setChannel tag (chanCode ch) l) s =
        .next (t.withReply ⟨tag, 0x10, st, le32 (planOf set.rate set.lowShare).achieved⟩)
      ∧ (SettingsClamped l → st = .adjusted) ∧ (¬ SettingsClamped l → st = .ok)
      ∧ (t.chan ch).settings = set ∧ set.requested = .isolated ∧ (t.chan ch).plan = c.planAfter l
      ∧ (t.chan ch).fallback = false ∧ (t.chan ch).health.owed = false ∧ (t.chan ch).mode = .isolated
      ∧ (t.chan ch).pull = .released ∧ (t.chan ch).exch = none ∧ (t.chan ch).hold = none
      ∧ (t.chan ch).park = false ∧ (t.chan ch).seenFree = false ∧ (t.chan ch).sync = .unknown
      ∧ (t.chan ch).phase = .free ∧ (t.chan ch).health.busClear = none ∧ (t.chan ch).arb.holder ≠ .relay
      ∧ (∀ j, s.engine.job = some j → j.chan = ch →
          t.engine.job = none
          ∧ t.engine.last = some (j.result (j.endingCause.getD .mode) j.unitAddress))
      ∧ (s.jobOn ch = false → t.engine = s.engine)
      ∧ t.log = (s.isolationTold ch .mode).log
      ∧ ((s.chan ch).hold.isSome = true → t.link.noticed (holdNotice ch) = true)
      ∧ (s.jobOn ch = true → t.link.noticed .job = true)
      ∧ t.rules = (s.endExchange ch .aborted).rules ∧ t.images = (s.endExchange ch .aborted).images
      ∧ (t.chan ch).console = (s.endExchange ch .aborted |>.chan ch).console
      ∧ (t.chan ch).health.lastClear =
          (if (s.chan ch).health.busClear.isSome then .abandoned else (s.chan ch).health.lastClear)
      ∧ (t.chan (other ch)).mode = (s.chan (other ch)).mode ∧ (t.chan (other ch)).pull = (s.chan (other ch)).pull
      ∧ (t.chan (other ch)).exch = (s.chan (other ch)).exch

/-- GET CHANNEL on channel 0 or 1 answers the thirteen settings, the achieved rate, the effective and target modes,
the fallback flag, the sync state, the phase, the seen-free flag and whether the relay holds the grant, in the
layout of log entry 18; on any other channel BAD_PARAM. No state changes but the reply queue. (R17, R8, R196) -/
def Obligations.GetChannelReports : Prop :=
  ∀ (s : State) (tag : Byte), Ready s →
      (∀ ch, let c := s.chan ch
        exec (.getChannel tag (chanCode ch)) s = .next (s.withReply ⟨tag, 0x11, .ok,
          [c.settings.requested.code, c.settings.defaultAction.code] ++ yesNo c.settings.defaultRecord
            ++ le16 c.settings.rate ++ le8 c.settings.lowShare ++ le8 c.settings.dStretchLimit
            ++ le8 c.settings.stuckLimit ++ le16 c.settings.holdTimeout ++ le16 c.settings.busFreeTime
            ++ yesNo c.settings.consoleBlocking ++ [c.settings.nackCounting.code]
            ++ yesNo c.settings.fallbackOnDegrade ++ yesNo c.settings.returnOnRecover
            ++ le32 (planOf c.settings.rate c.settings.lowShare).achieved ++ [c.mode.code, (s.target ch).code]
            ++ yesNo c.fallback ++ [c.sync.code, c.phase.code] ++ yesNo c.seenFree
            ++ yesNo (decide (c.arb.holder = .relay))⟩))
      ∧ ∀ chan : Byte, 2 ≤ chan.toNat →
        exec (.getChannel tag chan) s = .next (s.withReply ⟨tag, 0x11, .badParam, []⟩)

/-- With no job on the channel, CHANNEL RESET ends its exchange and its hold, empties its console buffer, clears the
park flag, the misframe count, the clean run, DEGRADED, STUCK_C, STUCK_D and the fallback flag, makes a running
bus clear ABANDONED, zeroes the running counters and keeps the snapshot, and leaves sync UNKNOWN and phase FREE
with the C-side lines released; a relay grant is being closed, not dropped; the settings and the effective mode
are kept. The records of the exchange, without the dropped console text, and of the hold go to the log. What was
kept to the end of a D-side bit is dropped, which is log entry 38's choice. With a job on the channel it is
refused BUSY. (R18, R143, R14, R34, R99) -/
def Obligations.ChannelReset : Prop :=
  ∀ (s : State) (tag : Byte) (ch : Chan), Ready s →
      (s.jobOn ch = true →
        exec (.channelReset tag (chanCode ch)) s = .next (s.withReply ⟨tag, 0x12, .busy, []⟩))
      ∧ (s.jobOn ch = false → ∃ t, exec (.channelReset tag (chanCode ch)) s = .next t
        ∧ t.link.replies = s.link.replies ++ [⟨tag, 0x12, .ok, []⟩]
        ∧ (t.chan ch).exch = none ∧ (t.chan ch).hold = none ∧ (t.chan ch).console = [] ∧ (t.chan ch).park = false
        ∧ (t.chan ch).health.misframes = 0 ∧ (t.chan ch).health.cleanRun = 0
        ∧ (t.chan ch).health.degraded = false ∧ (t.chan ch).health.stuckC = false
        ∧ (t.chan ch).health.stuckD = false ∧ (t.chan ch).fallback = false
        ∧ (t.chan ch).health.running = .zero ∧ (t.chan ch).health.snapshot = (s.chan ch).health.snapshot
        ∧ (t.chan ch).sync = .unknown ∧ (t.chan ch).phase = .free ∧ (t.chan ch).pull.c = ⟨false, false⟩
        ∧ (t.chan ch).settings = (s.chan ch).settings ∧ (t.chan ch).mode = (s.chan ch).mode
        ∧ (t.chan ch).health.busClear = none ∧ (t.chan ch).health.owed = (s.chan ch).health.owed
        ∧ (t.chan ch).health.lastClear =
            (if (s.chan ch).health.busClear.isSome then .abandoned else (s.chan ch).health.lastClear)
        ∧ t.log = (s.handAll (some ch)
            (({ s.chan ch with console := [] } : Channel).abortedRecords s.tick ++ (s.chan ch).abandonedRecords)).log
        ∧ t.rules = (s.endExchange ch .aborted).rules ∧ t.images = (s.endExchange ch .aborted).images
        ∧ (t.chan ch).deferred = [] ∧ (t.chan ch).byteOpen = false
        ∧ ((s.chan ch).arb.holder = .relay → (t.chan ch).arb.holder = .relay ∧ (t.chan ch).relayOpen = false)
        ∧ SameChannel (s.chan (other ch)) (t.chan (other ch))
        ∧ t.engine = s.engine ∧ t.supply = s.supply ∧ t.tick = s.tick)
      ∧ ∀ chan : Byte, 2 ≤ chan.toNat →
        exec (.channelReset tag chan) s = .next (s.withReply ⟨tag, 0x12, .badParam, []⟩)

/-- On an index above the table, or with contents out of range, the request is refused BAD_PARAM. Otherwise contents
that pass the checks, or the erasure, become the pending copy of the entry. With reference count 0 the entry at
once has them as its live copy, no pending copy, remaining passes from the new pass count and hit count 0, and
the reply says yes; otherwise live copy and runtime fields stay, the copy waits and the reply says no. No other
entry and nothing else changes. (R61, R62, R63, R64) -/
def Obligations.WriteAndEraseRule : Prop :=
  ∀ (s : State) (tag index : Byte), Ready s →
      (∀ raw : RawRule, (s.rules.length ≤ index.toNat ∨ ruleOf raw = none) →
        exec (.writeRule tag index raw) s = .next (s.withReply ⟨tag, 0x20, .badParam, []⟩))
      ∧ (s.rules.length ≤ index.toNat →
        exec (.eraseRule tag index) s = .next (s.withReply ⟨tag, 0x21, .badParam, []⟩))
      ∧ ∀ e, s.rules[index.toNat]? = some e →
      (∀ (raw : RawRule) (c : Copy), ruleOf raw = some c →
        exec (.writeRule tag index raw) s = .next ((s.withEntry index.toNat
          (if e.refs = 0 then ⟨c, none, c.passCount, 0, 0⟩ else { e with pending := some c })).withReply
            ⟨tag, 0x20, .ok, [if e.refs = 0 then 1 else 0]⟩))
      ∧ exec (.eraseRule tag index) s = .next ((s.withEntry index.toNat
          (if e.refs = 0 then ⟨.empty, none, 0, 0, 0⟩ else { e with pending := some .empty })).withReply
            ⟨tag, 0x21, .ok, [if e.refs = 0 then 1 else 0]⟩)

/-- The fields of a WRITE RULE pass the checks exactly when each of R63's cases is false: kind, channel set, address
and mask, direction, action of the kind, image and timeout disposition present where the action has them and in
range, index value and mask present for an INDEX entry alone, and yes or no in the yes/no fields. The copy that
is then built has each field from its wire field: bit n of the channel set for channel n, the directions WRITE,
READ and EITHER, the actions and the timeout dispositions in the order of their tables. (R47, R48, R63, R196) -/
def Obligations.RuleContents : Prop :=
  (∀ (r : RawRule) (c : Copy), ruleOf r = some c →
    let h : RuleHead :=
      { enabled := decide (r.enabled = 1), onC0 := r.channels.getLsbD 0, onC1 := r.channels.getLsbD 1
        address := BitVec.ofNat 7 r.address.toNat, addressMask := BitVec.ofNat 7 r.addressMask.toNat
        record := decide (r.record = 1), trigger := decide (r.trigger = 1), oneshot := decide (r.oneshot = 1)
        passCount := r.passCount.toNat }
    let timeout : TimeoutAction := if r.timeout = some 1 then .deny else .forward
    (r.kind = 0 → c = .address h
        (if r.direction = 0 then .write else if r.direction = 1 then .read else .either)
        (if r.action = 0 then .forward else if r.action = 1 then .emulate (Fin.ofNat 4 (r.image.getD 0).toNat)
          else if r.action = 2 then .deny else if r.action = 3 then .hold timeout else .console))
    ∧ (r.kind = 1 → c = .index h (r.indexValue.getD 0) (r.indexMask.getD 0)
        (if r.action = 0 then .pass else if r.action = 1 then .hold timeout else .deny)))
  ∧ ∀ r : RawRule, (ruleOf r).isSome = true ↔
    (r.kind.toNat ≤ 1 ∧ r.channels.toNat ∈ [1, 2, 3] ∧ r.address.toNat ≤ 127 ∧ r.addressMask.toNat ≤ 127
      ∧ r.enabled.toNat ≤ 1 ∧ r.record.toNat ≤ 1 ∧ r.trigger.toNat ≤ 1 ∧ r.oneshot.toNat ≤ 1
      ∧ (r.kind = 0 → r.direction.toNat ≤ 2 ∧ r.action.toNat ≤ 4
          ∧ (r.image.isSome = true ↔ r.action = 1) ∧ (∀ k, r.image = some k → k.toNat ≤ 3)
          ∧ (r.timeout.isSome = true ↔ r.action = 3) ∧ (∀ v, r.timeout = some v → v.toNat ≤ 1)
          ∧ r.indexValue = none ∧ r.indexMask = none)
      ∧ (r.kind = 1 → r.direction = 0 ∧ r.action.toNat ≤ 2 ∧ r.image = none
          ∧ (r.timeout.isSome = true ↔ r.action = 1) ∧ (∀ v, r.timeout = some v → v.toNat ≤ 1)
          ∧ r.indexValue.isSome = true ∧ r.indexMask.isSome = true))

/-- REARM on one of the 32 entries with a live copy sets its remaining passes to the pass count and enabled to yes,
zeroes the hit count when asked, keeps its pending copy and reference count, and is answered OK whatever the
reference count; on an index above 31 or an EMPTY live copy it is refused BAD_PARAM. Nothing else changes. (R66) -/
def Obligations.RearmRule : Prop :=
  ∀ (s : State) (tag index z : Byte), Ready s → s.rules.length = 32 →
      (32 ≤ index.toNat → exec (.rearm tag index z) s = .next (s.withReply ⟨tag, 0x23, .badParam, []⟩))
      ∧ ∀ e, s.rules[index.toNat]? = some e →
        (e.live = .empty → exec (.rearm tag index z) s = .next (s.withReply ⟨tag, 0x23, .badParam, []⟩))
        ∧ (∀ (b : Bool), z = (if b then 1 else 0) → ∀ c, c ≠ .empty → e.live = c →
            exec (.rearm tag index z) s = .next ((s.withEntry index.toNat
              { live := c.setEnabled true, pending := e.pending, remaining := c.passCount
                hits := if b then 0 else e.hits, refs := e.refs }).withReply ⟨tag, 0x23, .ok, []⟩))

/-- On one of the 32 entries with a live copy, ENABLE RULE and DISABLE RULE write the enabled field of the live copy
and nothing else, and are answered OK; on an index above 31 or an EMPTY live copy they are refused BAD_PARAM.
(R67) -/
def Obligations.EnableDisableRule : Prop :=
  ∀ (s : State) (tag index : Byte) (b : Bool), Ready s → s.rules.length = 32 →
    let i : Instr := if b then .enableRule tag index else .disableRule tag index
    let code : Byte := if b then 0x24 else 0x25;
      (32 ≤ index.toNat → exec i s = .next (s.withReply ⟨tag, code, .badParam, []⟩))
      ∧ ∀ e, s.rules[index.toNat]? = some e →
        (e.live = .empty → exec i s = .next (s.withReply ⟨tag, code, .badParam, []⟩))
        ∧ (∀ h d a, e.live = .address h d a →
            exec i s = .next ((s.withEntry index.toNat
              { e with live := .address { h with enabled := b } d a }).withReply ⟨tag, code, .ok, []⟩))
        ∧ (∀ h v m a, e.live = .index h v m a →
            exec i s = .next ((s.withEntry index.toNat
              { e with live := .index { h with enabled := b } v m a }).withReply ⟨tag, code, .ok, []⟩))

/-- READ RULE of an index above the table is BAD_PARAM. Otherwise it answers the live copy, absent when EMPTY and
otherwise, for either kind and every action, in the layout of log entry 15, then the remaining passes, the hit
count, the reference count and whether a pending copy exists; it changes no state but the reply queue. (R65,
R196) -/
def Obligations.ReadRule : Prop :=
  ∀ (s : State) (tag index : Byte), Ready s →
      (s.rules.length ≤ index.toNat →
        exec (.readRule tag index) s = .next (s.withReply ⟨tag, 0x22, .badParam, []⟩))
      ∧ ∀ e, s.rules[index.toNat]? = some e →
      let bit (b : Bool) : Byte := if b then 1 else 0
      let front (kind : Byte) (h : RuleHead) : List Byte :=
        [1, kind, bit h.enabled, BitVec.ofNat 8 ((if h.onC0 then 1 else 0) + (if h.onC1 then 2 else 0)),
          BitVec.ofNat 8 h.address.toNat, BitVec.ofNat 8 h.addressMask.toNat]
      let marks (h : RuleHead) : List Byte := [bit h.record, bit h.trigger, bit h.oneshot] ++ le16 h.passCount
      let timeout (tm : TimeoutAction) : Byte := if tm = .deny then 1 else 0
      exec (.readRule tag index) s = .next (s.withReply ⟨tag, 0x22, .ok,
        (match e.live with
          | .empty => [0]
          | .address h d a => front 0 h
              ++ [match d with
                  | .write => 0
                  | .read => 1
                  | .either => 2]
              ++ (match a with
                  | .forward => [0, 0, 0]
                  | .emulate k => [1, 1, BitVec.ofNat 8 k.val, 0]
                  | .deny => [2, 0, 0]
                  | .hold tm => [3, 0, 1, timeout tm]
                  | .console => [4, 0, 0])
              ++ marks h ++ [0, 0]
          | .index h v m a => front 1 h ++ [0]
              ++ (match a with
                  | .pass => [0, 0, 0]
                  | .hold tm => [1, 0, 1, timeout tm]
                  | .deny => [2, 0, 0])
              ++ marks h ++ [1, v, 1, m])
          ++ le16 e.remaining ++ le32 e.hits ++ [BitVec.ofNat 8 e.refs, bit e.pending.isSome]⟩)

/-- An ADDRESS entry is a candidate of the address-stage scan exactly when it is enabled, its channel set holds the
channel, its address agrees with the exchange's at every position its mask leaves in, and its direction is the
exchange's or EITHER; an INDEX entry is one of the index-stage scan exactly when it is enabled, its channel set
holds the channel, its address agrees so, and its value agrees with the byte at every position its value mask
leaves in; no other entry is. A scan takes the entries in ascending index. With a winner, it is the first
candidate with no remaining passes: its hit count rises, its reference count rises, ONESHOT disables it and its
other fields stay; each candidate before it loses one pass; every entry that is no candidate, and every entry
after the winner, is as before. With no winner every candidate had passes left and has lost one, and the others
are as before. (R50, R51, R52, R53) -/
def Obligations.ScanDecides : Prop :=
  let common (h : RuleHead) (ch : Chan) (address : BitVec 7) : Prop := h.enabled = true
    ∧ (match ch with
        | .c0 => h.onC0
        | .c1 => h.onC1) = true
    ∧ ∀ i, i < 7 → h.addressMask.getLsbD i = false → h.address.getLsbD i = address.getLsbD i
  (∀ (ch : Chan) (address : BitVec 7) (dir : Dir) (c : Copy), addressCandidate ch address dir c = true ↔
      ∃ h d a, c = .address h d a ∧ common h ch address
        ∧ (d = .either ∨ d = .write ∧ dir = .write ∨ d = .read ∧ dir = .read))
    ∧ (∀ (ch : Chan) (address : BitVec 7) (byte : Byte) (c : Copy), indexCandidate ch address byte c = true ↔
      ∃ h v m a, c = .index h v m a ∧ common h ch address
        ∧ ∀ i, i < 8 → m.getLsbD i = false → v.getLsbD i = byte.getLsbD i)
    ∧ ∀ (cand : Copy → Bool) (l : List Entry), (scanFrom cand 0 l).rules.length = l.length ∧
    match (scanFrom cand 0 l).winner with
    | none => ∀ (k : Nat) (e : Entry), l[k]? = some e →
        (cand e.live = true → 0 < e.remaining)
        ∧ (scanFrom cand 0 l).rules[k]? =
            some (if cand e.live then { e with remaining := e.remaining - 1 } else e)
    | some (w, c) => ∃ e : Entry, l[w]? = some e ∧ c = e.live ∧ cand e.live = true ∧ e.remaining = 0
        ∧ (∃ f : Entry, (scanFrom cand 0 l).rules[w]? = some f ∧ f.hits = min 4294967295 (e.hits + 1)
            ∧ f.refs = e.refs + 1 ∧ f.pending = e.pending ∧ f.remaining = 0
            ∧ f.live = (if (e.live.head.map fun h => h.oneshot) = some true then e.live.setEnabled false else e.live))
        ∧ (∀ (k : Nat) (e : Entry), k < w → l[k]? = some e → (cand e.live = true → 0 < e.remaining)
            ∧ (scanFrom cand 0 l).rules[k]? =
                some (if cand e.live then { e with remaining := e.remaining - 1 } else e))
        ∧ (∀ k : Nat, w < k → (scanFrom cand 0 l).rules[k]? = l[k]?)

/-- On image 0..3 of the four: IMAGE CONFIG, with no exchange on the image, stores the size and the write time
brought into their ranges and zeroes the pointer when the size changes, and is refused BUSY otherwise; IMAGE
WRITE replaces the bytes from the start position on, and is refused BAD_PARAM with no byte or past position 255;
IMAGE PROTECT replaces the protect set. The other fields of the image, the other images and every other block
stay. (R76, R77, R78) -/
def Obligations.ImageRequests : Prop :=
  ∀ (s : State) (tag : Byte) (k : Fin 4) (i : Image), Ready s → s.images[k.val]? = some i →
    let name : Byte := BitVec.ofNat 8 k.val;
      (∀ (size : Half) (time : Byte), s.imageInUse k = false →
        let n := max 1 (min 256 size.toNat)
        let w := min 50 time.toNat
        exec (.imageConfig tag name size time) s = .next ((s.withImage k { i with
          size := n, writeTime := w, pointer := if n = i.size then i.pointer else 0 }).withReply
            ⟨tag, 0x30, if n = size.toNat ∧ w = time.toNat then .ok else .adjusted, []⟩))
      ∧ (∀ (size : Half) (time : Byte), s.imageInUse k = true →
        exec (.imageConfig tag name size time) s = .next (s.withReply ⟨tag, 0x30, .busy, []⟩))
      ∧ (∀ (start : Byte) (bytes : List Byte), bytes ≠ [] → start.toNat + bytes.length ≤ 256 →
        exec (.imageWrite tag name start bytes) s = .next ((s.withImage k { i with
          contents := memWriteList i.contents start.toNat bytes }).withReply ⟨tag, 0x31, .ok, []⟩))
      ∧ (∀ (start : Byte) (bytes : List Byte), (bytes = [] ∨ 256 < start.toNat + bytes.length) →
        exec (.imageWrite tag name start bytes) s = .next (s.withReply ⟨tag, 0x31, .badParam, []⟩))
      ∧ (∀ set : BitVec 256, exec (.imageProtect tag name set) s =
        .next ((s.withImage k { i with protect := set }).withReply ⟨tag, 0x33, .ok, []⟩))

/-- IMAGE READ answers the bytes asked for, then the size, the write time, the protect set, the pointer, the state
with the until-time, and the target write count, which it then zeroes when asked; a count of 0, a run past
position 255, an unknown image and a choice that is neither yes nor no are BAD_PARAM. When the tick count has
come to the until-time of a BUSY image it is READY, with no record and no notice; before that, and on a READY
image, nothing happens. Nothing else changes. The layout is log entry 18's; that an until-time stands as come to
for half a wrap past it is log entry 6. (R79, R196, R70, R127) -/
def Obligations.ImageReadAndWindow : Prop :=
  (∀ (s : State) (tag : Byte) (k : Fin 4) (i : Image) (start : Byte) (count : Half) (clear : Bool), Ready s →
    s.images[k.val]? = some i →
      (1 ≤ count.toNat → start.toNat + count.toNat ≤ 256 →
        exec (.imageRead tag (BitVec.ofNat 8 k.val) start count (if clear then 1 else 0)) s =
          .next ((s.withImage k { i with
              writeCount := if clear then 0 else i.writeCount }).withReply ⟨tag, 0x32, .ok,
            memReadList i.contents start.toNat count.toNat ++ (le16 i.size ++ le8 i.writeTime
              ++ setBytes 32 i.protect.toNat ++ le8 i.pointer
              ++ (match i.busyUntil with
                  | none => [0, 0]
                  | some u => [1, 1] ++ le32 u.toNat)
              ++ le16 i.writeCount)⟩))
      ∧ ((count = 0 ∨ 256 < start.toNat + count.toNat) →
        exec (.imageRead tag (BitVec.ofNat 8 k.val) start count (if clear then 1 else 0)) s =
          .next (s.withReply ⟨tag, 0x32, .badParam, []⟩))
      ∧ (∀ image z : Byte, (4 ≤ image.toNat ∨ 2 ≤ z.toNat) →
        exec (.imageRead tag image start count z) s = .next (s.withReply ⟨tag, 0x32, .badParam, []⟩)))
    ∧ (∀ (s : State) (k : Fin 4) (i : Image), s.images[k.val]? = some i → s.inReset = false →
      (∀ u, i.busyUntil = some u → (s.tick - u).toNat < 2147483648 →
        exec (.imageWindowExpiry k) s = .next (s.withImage k { i with busyUntil := none }))
      ∧ (∀ u, i.busyUntil = some u → 2147483648 ≤ (s.tick - u).toNat → exec (.imageWindowExpiry k) s = .next s)
      ∧ (i.busyUntil = none → exec (.imageWindowExpiry k) s = .next s))

/-- PARK sets or cancels the park flag of a channel and answers the flag as it was; setting it in ISOLATED is
WRONG_MODE. HOLD STATUS answers whether a hold is present, the hold record where one is, and the park flag, in
the layout of log entry 18; a deadline stands as reached, with 0 ms remaining, for half a wrap past it (log
entry 6). RELEASE with no hold is NOT_HELD; FORWARD or EMULATE for a hold at the index stage, a disposition
outside the list and a channel above 1 are BAD_PARAM. Nothing else changes. (R102, R103, R94, R196) -/
def Obligations.HoldRequests : Prop :=
  ∀ (s : State) (tag : Byte) (ch : Chan), Ready s →
      ((s.chan ch).mode ≠ .isolated → exec (.park tag (chanCode ch) 0) s =
        .next ((s.setChan ch { s.chan ch with park := true }).withReply ⟨tag, 0x39, .ok, yesNo (s.chan ch).park⟩))
      ∧ ((s.chan ch).mode = .isolated →
        exec (.park tag (chanCode ch) 0) s = .next (s.withReply ⟨tag, 0x39, .wrongMode, []⟩))
      ∧ exec (.park tag (chanCode ch) 1) s =
        .next ((s.setChan ch { s.chan ch with park := false }).withReply ⟨tag, 0x39, .ok, yesNo (s.chan ch).park⟩)
      ∧ (∀ chan choice : Byte, (2 ≤ chan.toNat ∨ 2 ≤ choice.toNat) →
        exec (.park tag chan choice) s = .next (s.withReply ⟨tag, 0x39, .badParam, []⟩))
      ∧ ((s.chan ch).hold = none → exec (.holdStatus tag (chanCode ch)) s =
        .next (s.withReply ⟨tag, 0x3A, .ok, [0, 0] ++ yesNo (s.chan ch).park⟩))
      ∧ (∀ h, (s.chan ch).hold = some h → exec (.holdStatus tag (chanCode ch)) s =
        .next (s.withReply ⟨tag, 0x3A, .ok,
          1 :: 1 :: ([chanCode ch, h.origin.code, h.origin.stage] ++ le8 h.address.toNat
            ++ [h.direction.code, h.byte, h.planned.code, h.timeout.code] ++ le32 h.start.toNat
            ++ (match h.deadline with
                | none => [0]
                | some d => 1 :: le32 d.toNat)
            ++ le32 (min 4294967295 (h.elapsed / 1000))
            ++ (match h.deadline with
                | none => [0]
                | some d => 1 :: le16 (if (s.tick - d).toNat < 2147483648 then 0 else (d - s.tick).toNat / 1000)))
            ++ yesNo (s.chan ch).park⟩))
      ∧ (∀ chan : Byte, 2 ≤ chan.toNat →
        exec (.holdStatus tag chan) s = .next (s.withReply ⟨tag, 0x3A, .badParam, []⟩))
      ∧ (∀ chan d : Byte, (2 ≤ chan.toNat ∨ d.toNat ∉ [0, 1, 2, 8, 9, 10, 11]) →
        exec (.release tag chan d) s = .next (s.withReply ⟨tag, 0x38, .badParam, []⟩))
      ∧ (∀ d : Byte, d.toNat ∈ [0, 1, 2, 8, 9, 10, 11] → (s.chan ch).hold = none →
        exec (.release tag (chanCode ch) d) s = .next (s.withReply ⟨tag, 0x38, .notHeld, []⟩))
      ∧ (∀ (d : Byte) (h : Hold), d.toNat ∈ [1, 8, 9, 10, 11] → (s.chan ch).hold = some h → h.origin.atIndex = true →
        exec (.release tag (chanCode ch) d) s = .next (s.withReply ⟨tag, 0x38, .badParam, []⟩))

/-- RELEASE of a held exchange answers the disposition it applies, PLANNED standing for the planned one;
HOLD_TIMEOUT, once the tick count has come to the deadline, applies the timeout disposition, CONTINUE for
FORWARD at the index stage. Either takes the hold from the list, hands a HOLD_END record with the disposition,
the cause and the held time in milliseconds, raises HOLDn, and then carries the disposition out. Of the channel
nothing else changes, its settings, mode, park flag, sync and kept conditions included; a disposition other than
FORWARD and CONTINUE leaves the D-side, its grant and its plan alone. No other block changes but the log. The
reply carries the code of log entry 18. A byte that DENY refuses at the index stage counts in DATA_NACKS at that
moment, which is log entry 20. A hold without a deadline, and one before its deadline, does not time out. That a
deadline stands as reached for half a wrap past it is log entry 6; that the HOLD_END record stands before the
disposition is log entry 37. (R95, R96, R97, R101, R94, R87, R93, R22, R164) -/
def Obligations.HoldEnds : Prop :=
  ∀ (s : State) (ch : Chan) (h : Hold) (x : Exchange), (s.chan ch).hold = some h → (s.chan ch).exch = some x →
    let c := s.chan ch
    let ended (p : Planned) (cause : HoldCause) (t : State) : Prop :=
      (t.chan ch).hold = none
        ∧ t.log = (s.hand (some ch) (.holdEnd (some p) cause (min 4294967295 (h.elapsed / 1000)))).log
        ∧ t.link.noticed (holdNotice ch) = true ∧ Carried ch h.origin.atIndex c.noted p x s t
        ∧ OnlyChannelsAndLog s t ∧ SameChannel (s.chan (other ch)) (t.chan (other ch))
        ∧ (let d := t.chan ch
          d = { c with
              hold := none, phase := d.phase, pull := d.pull, exch := d.exch, arb := d.arb, dOp := d.dOp, dSpan := d.dSpan
              latched := d.latched, dFree := d.dFree, grantWait := d.grantWait, grantLimitTaken := d.grantLimitTaken
              noted := d.noted, meters := d.meters, health := { c.health with
                running := { c.health.running with dataNacks := d.health.running.dataNacks } } }
            ∧ (p ≠ .forward → p ≠ .resume → d.arb.holder = c.arb.holder ∧ d.arb.last = c.arb.last ∧ d.dOp = c.dOp
                ∧ d.dSpan = c.dSpan ∧ d.latched = c.latched ∧ d.dFree = c.dFree ∧ d.pull.d = c.pull.d)
            ∧ ((p ≠ .deny ∨ h.origin.atIndex = false) →
                d.health.running.dataNacks = c.health.running.dataNacks))
    (∀ (tag d : Byte) (p : Planned), Ready s → (h.origin.atIndex = true → d.toNat ∈ [0, 2]) →
        (d = 0 ∧ p = h.planned ∨ d = 1 ∧ p = .forward ∨ d = 2 ∧ p = .deny
          ∨ ∃ k : Fin 4, d = BitVec.ofNat 8 (8 + k.val) ∧ p = .emulate k) →
        ∃ t, exec (.release tag (chanCode ch) d) s = .next (t.withReply ⟨tag, 0x38, .ok, [p.code]⟩)
          ∧ ended p .released t)
      ∧ (s.inReset = false → ∀ u, h.deadline = some u → (s.tick - u).toNat < 2147483648 →
        ∃ t, exec (.holdTimeout ch) s = .next t
          ∧ ended (match h.timeout with
              | .planned => h.planned
              | .deny => .deny
              | .forward => if h.origin.atIndex then .resume else .forward) .timeout t)
      ∧ (h.deadline = none → exec (.holdTimeout ch) s = .next s)
      ∧ (∀ u, h.deadline = some u → 2147483648 ≤ (s.tick - u).toNat → exec (.holdTimeout ch) s = .next s)

/-- Behind a closed gate an EXCHANGE or CONSOLE record changes nothing. An EXCHANGE record equal to the newest
record but for duration and repeat, within the coalescing window, with a repeat below 255, no GAP pending and no
mark needed, raises that record's repeat by 1. Any other record is stored when it fits with the TIME_MARK and
GAP it needs; under STOP it is dropped otherwise, counted for the next GAP, and LOGLOSS is raised; under WRAP
the oldest records are removed, as few as make room, and counted, and LOGLOSS is raised. LOGFILL is raised when
the occupancy passes from below 4096 to 4096 or more. Nothing but the log and the notice word changes. (R109,
R110, R111, R113, R114, R115, R116, R119) -/
def Obligations.LogTakesRecord : Prop :=
  ∀ (s : State) (chan : Option Chan) (body : Body), body.length ≤ 80 →
    let l := s.log
    let t := s.hand chan body
    let elapsed := (s.tick - l.lastStamp).toNat
    let gap := 0 < l.gapCount
    let mark := l.markNeeded = true ∨ 16777215 < elapsed
    let need := 6 + body.length + (if mark ∨ gap then 10 else 0) + (if gap then 8 else 0)
    let written : List Record := (if gap then [⟨none, 0, .gap l.gapCount⟩] else [])
      ++ (if mark ∨ gap then [⟨none, 0, .timeMark s.tick⟩, ⟨chan, 0, body⟩] else [⟨chan, elapsed, body⟩])
    let gated := l.gateOpen = false ∧ ((∃ b, body = .exchange b) ∨ ∃ text, body = .console text)
    let merges (old : List Record) (d : Nat) (b : ExchangeBody) : Prop := l.records = old ++ [⟨chan, d, .exchange b⟩]
      ∧ (∃ new : ExchangeBody, body = .exchange new ∧ new = { b with duration := new.duration, repeats := new.repeats })
      ∧ 0 < l.window ∧ elapsed ≤ l.window * 1000 ∧ b.repeats < 255 ∧ l.gapCount = 0 ∧ l.markNeeded = false
    let notices (loss : Bool) : Prop :=
      (t.link.noticed .logloss = (loss || s.link.noticed .logloss))
        ∧ (t.link.noticed .logfill = (s.link.noticed .logfill
            || decide (bytesOf l.records < 4096 ∧ 4096 ≤ bytesOf t.log.records)))
    let stored (kept : List Record) : Log :=
      { l with records := kept ++ written, lastStamp := s.tick, crossings := 0, markNeeded := false, gapCount := 0 }
    t = { s with log := t.log, link := { s.link with notices := t.link.notices } }
      ∧ (gated → t = s)
      ∧ (¬ gated → ∀ old d b, merges old d b →
          t = { s with log := { l with
            records := old ++ [⟨chan, d, .exchange { b with repeats := b.repeats + 1 }⟩] } })
      ∧ (¬ gated → (∀ old d b, ¬ merges old d b) →
          (bytesOf l.records + need ≤ 8192 → t.log = stored l.records ∧ notices false)
          ∧ (8192 < bytesOf l.records + need → l.wrap = false →
              t.log = { l with markNeeded := decide mark, gapCount := min 65535 (l.gapCount + 1)
                               dropped := min 4294967295 (l.dropped + 1) }
              ∧ t.link.noticed .logloss = true ∧ t.link.noticed .logfill = s.link.noticed .logfill)
          ∧ (8192 < bytesOf l.records + need → l.wrap = true →
              notices true ∧ ∃ gone last kept, l.records = gone ++ last :: kept
                ∧ bytesOf kept + need ≤ 8192 ∧ 8192 < bytesOf (last :: kept) + need
                ∧ t.log = { stored kept with overwritten := min 4294967295 (l.overwritten + (gone.length + 1)) }))

/-- LOG READ refuses a count of 0 or above 480 and, while STREAM is on, any count, with BAD_PARAM first where both
apply (the model's choice, log entry 52); otherwise the oldest whole records that fit leave the log and are
answered with their number and the occupancy that stays. LOG STATUS answers occupancy, free space, number of
records, the four settings, the mark-needed flag, the last stamp and the three counts, and changes no state but
the reply queue. The widths of the replies are log entry 18's. (R122, R125) -/
def Obligations.LogReadAndStatus : Prop :=
  ∀ (s : State) (tag : Byte) (n : Half), Ready s →
      ((n = 0 ∨ 480 < n.toNat) → exec (.logRead tag n) s = .next (s.withReply ⟨tag, 0x41, .badParam, []⟩))
      ∧ (n ≠ 0 → n.toNat ≤ 480 → s.log.stream = true →
        exec (.logRead tag n) s = .next (s.withReply ⟨tag, 0x41, .wrongMode, []⟩))
      ∧ (n ≠ 0 → n.toNat ≤ 480 → s.log.stream = false →
        let taken := (takeFitting n.toNat s.log.records).1
        let kept := (takeFitting n.toNat s.log.records).2
        exec (.logRead tag n) s = .next (({ s with log := { s.log with records := kept } } : State).withReply
          ⟨tag, 0x41, .ok, le8 taken.length ++ (taken.map Record.bytes).flatten ++ le16 (bytesOf kept)⟩))
      ∧ exec (.logStatus tag) s = .next (s.withReply ⟨tag, 0x43, .ok,
          le16 (bytesOf s.log.records) ++ le16 (8192 - bytesOf s.log.records) ++ le16 s.log.records.length
            ++ ([if s.log.wrap then 1 else 0] ++ le16 s.log.window
              ++ [if s.log.stream then 0 else 1, if s.log.gateOpen then 0 else 1])
            ++ yesNo s.log.markNeeded ++ le32 s.log.lastStamp.toNat ++ le16 s.log.gapCount ++ le32 s.log.dropped
            ++ le32 s.log.overwritten⟩)

/-- LOG CLEAR discards every record, sets the pending GAP count to 0 and the mark-needed flag, and with choice yes
zeroes the dropped and the overwritten count; the gate, the policy, the window, STREAM, the last stamp, the
crossing count, the frame in the transmitter, the notices and everything else stay, and the reply is OK. The
next record made, while the gate lets it pass, follows a TIME_MARK with no GAP and no merge, and raises LOGFILL
exactly as a log of occupancy 0 does. (R124) -/
def Obligations.LogClear : Prop :=
  ∀ (s : State) (tag : Byte) (zero : Bool), Ready s →
    let u : State := { s with log := { s.log with
      records := [], gapCount := 0, markNeeded := true
      dropped := if zero then 0 else s.log.dropped, overwritten := if zero then 0 else s.log.overwritten } }
    exec (.logClear tag (if zero then 1 else 0)) s = .next (u.withReply ⟨tag, 0x42, .ok, []⟩)
      ∧ u.log.occupancy = 0
      ∧ ∀ (later : Tick) (chan : Option Chan) (body : Body), u.log.gated body = false → body.length ≤ 80 →
        let v := ({ u with tick := later } : State).hand chan body
        v.log.records = [⟨none, 0, .timeMark later⟩, ⟨chan, 0, body⟩] ∧ v.log.gapCount = 0
          ∧ v.link.notices = s.link.notices

/-- A list with no setting, a setting twice, an unknown setting or an enumerated value outside its list is
BAD_PARAM. Otherwise LOG CONFIG writes the settings it carries and HEALTH CONFIG those it carries, thresholds
brought into 1..63 and a period other than 0 into 10..60000 ms; a written period restarts or stops the
statistics timer, and an expiry that is still due is due no more (log entry 50). The other settings and
everything else stay. The reply carries the four settings as they then stand, ADJUSTED where a value was
clamped, in the layout of log entry 18. (R123, R157, R155) -/
def Obligations.ConfigRequests : Prop :=
  ∀ (s : State) (tag : Byte) (l : List (Byte × Half)), Ready s →
    let w (k : Nat) : Option Nat := (l.find? fun p => decide (p.1.toNat = k)).map fun p => p.2.toNat
    let fair (n : Nat) : Prop := l ≠ [] ∧ (l.map Prod.fst).Nodup ∧ ∀ p ∈ l, p.1.toNat < n
    let clip (v : Nat) : Nat := max 1 (min 63 v)
    let per (v : Nat) : Nat := if v = 0 then 0 else max 10 (min 60000 v)
    let m : Monitor := { s.monitor with
      degrade := ((w 0).map clip).getD s.monitor.degrade, clear := ((w 1).map clip).getD s.monitor.clear
      recover := ((w 2).map clip).getD s.monitor.recover, period := ((w 3).map per).getD s.monitor.period
      timer := match w 3 with
        | none => s.monitor.timer
        | some v => if v = 0 then none else some ⟨0, per v * 1000⟩
      expiryDue := if (w 3).isSome then false else s.monitor.expiryDue }
    let g : Log := { s.log with
      wrap := ((w 0).map fun v => decide (v = 1)).getD s.log.wrap, window := (w 1).getD s.log.window
      stream := ((w 2).map fun v => decide (v = 0)).getD s.log.stream
      gateOpen := ((w 3).map fun v => decide (v = 0)).getD s.log.gateOpen }
    (¬ (fair 4 ∧ ∀ p ∈ l, p.1.toNat ≠ 1 → p.2.toNat < 2) →
        exec (.logConfig tag l) s = .next (s.withReply ⟨tag, 0x40, .badParam, []⟩))
      ∧ (fair 4 ∧ (∀ p ∈ l, p.1.toNat ≠ 1 → p.2.toNat < 2) →
        exec (.logConfig tag l) s = .next (({ s with log := g } : State).withReply ⟨tag, 0x40, .ok,
          [if g.wrap then 1 else 0] ++ le16 g.window ++ [if g.stream then 0 else 1, if g.gateOpen then 0 else 1]⟩))
      ∧ (¬ fair 4 → exec (.healthConfig tag l) s = .next (s.withReply ⟨tag, 0x61, .badParam, []⟩))
      ∧ (fair 4 → ∃ st, exec (.healthConfig tag l) s = .next (({ s with monitor := m } : State).withReply ⟨tag, 0x61, st,
            le8 m.degrade ++ le8 m.clear ++ le8 m.recover ++ le16 m.period⟩)
          ∧ ((∀ k, k < 3 → ∀ v, w k = some v → clip v = v) ∧ (∀ v, w 3 = some v → per v = v) → st = .ok)
          ∧ (((∃ k v, k < 3 ∧ w k = some v ∧ clip v ≠ v) ∨ ∃ v, w 3 = some v ∧ per v ≠ v) → st = .adjusted))

/-- TIME READ answers the tick count. TIME SET loads the count, moves the targets of the compare slots, the
until-times of the images, each hold's start and deadline, each exchange's start time and the time of each
condition kept to the end of a D-side bit, which is log entry 38's own field and choice, so that each stays as
far from the present as it was, sets the log's mark-needed flag, zeroes its crossing count, and answers the old
and the new count. Nothing else changes: no record, stamp, timer or limit. (R128, R129, R93) -/
def Obligations.TimeRequests : Prop :=
  ∀ (s : State) (tag : Byte) (count : Word), Ready s →
      exec (.timeRead tag) s = .next (s.withReply ⟨tag, 0x50, .ok, le32 s.tick.toNat⟩)
      ∧ ∃ t : State, exec (.timeSet tag count) s =
          .next (t.withReply ⟨tag, 0x51, .ok, le32 s.tick.toNat ++ le32 count.toNat⟩)
        ∧ t.tick = count ∧ t.log = { s.log with markNeeded := true, crossings := 0 }
        ∧ t = { s with tick := count, log := t.log, ch0 := t.ch0, ch1 := t.ch1, cmpA := t.cmpA, cmpB := t.cmpB
                       images := t.images }
        ∧ (∀ slot, t.compare slot = { s.compare slot with target := (t.compare slot).target }
            ∧ KeepsDistance s.tick t.tick (s.compare slot).target (t.compare slot).target)
        ∧ t.images.length = s.images.length
        ∧ (∀ (k : Nat) (i j : Image), s.images[k]? = some i → t.images[k]? = some j →
            j = { i with busyUntil := j.busyUntil } ∧ KeepsDistance s.tick t.tick i.busyUntil j.busyUntil)
        ∧ ∀ ch, (t.chan ch) = { s.chan ch with
              hold := (t.chan ch).hold, exch := (t.chan ch).exch, startTick := (t.chan ch).startTick
              deferred := (t.chan ch).deferred }
            ∧ (t.chan ch).deferred = (s.chan ch).deferred.map (fun
              | .cond k inByte time => .cond k inByte (time + (count - s.tick))
              | .address byte => .address byte)
            ∧ (t.chan ch).startTick - t.tick = (s.chan ch).startTick - s.tick
            ∧ ((s.chan ch).hold = none → (t.chan ch).hold = none)
            ∧ (∀ h, (s.chan ch).hold = some h → ∃ g, (t.chan ch).hold = some g
                ∧ g = { h with start := g.start, deadline := g.deadline }
                ∧ g.start - t.tick = h.start - s.tick ∧ KeepsDistance s.tick t.tick h.deadline g.deadline)
            ∧ ((s.chan ch).exch = none → (t.chan ch).exch = none)
            ∧ (∀ x, (s.chan ch).exch = some x → ∃ y, (t.chan ch).exch = some y
                ∧ y = { x with startTime := y.startTime } ∧ y.startTime - t.tick = x.startTime - s.tick)

/-- Outside power-on reset, TICK of n raises the tick count by n mod 2^32 and every running measurement by n, counts
the passages of the tick count over a multiple of 2^24, setting the mark-needed flag with the second, counts the
time of a bus clear's pulse, and changes nothing else but that with a time of more than 0 the channel stands at
no bus-free point any more (log entry 12). In the clock-high of a sampled bit the part pulls CnDA as it did for
that bit, and does not stretch yet (log entry 8). The measurements of a channel's lines run while what they
measure stands: bus-free time of the C-side with both its lines high; of the D-side with both high, a watched
side and no holder, outside the STOP of a bus clear; the clearing of STUCK_D with both high and no holder,
outside that STOP; a stuck C-side line that the part does not pull low itself, outside ISOLATED and a hold, and
for CnCK not in the clock-high of a sampled bit (log entry 8); a stuck DnDA in ACTIVE with DnCK high, no holder
and no bus clear; and the D-stretch while the part generates with DnCK low. Each begins at 0 with the limit of
its setting, the two of high D-side lines in a bus clear after what is left of the low phase of its pulse, keeps
the limit it began with, and is gone when its condition ends. TICK of a and then TICK of b leave the state TICK
of a + b leaves. The model's choices here are that one TICK stands for several ticks (log entry 4), the lines
between events (log entry 7), where the D-stretch wait begins (log entry 32), a bus clear's low phase before the
two measurements of its high lines (log entry 41), and that a low DnCK cancels the stuck data line's (log entry
42). (R127, R112, R16, R5, R40, R149, R150, R93) -/
def Obligations.TicksPass : Prop :=
  (∀ (s : State) (a b : Nat), s.inReset = false → execAll [.tick a, .tick b] s = exec (.tick (a + b)) s)
      ∧ ∀ (s : State) (n : Nat), s.inReset = false →
        let up (o : Option Timer) : Option Timer := o.map fun m => ⟨m.elapsed + n, m.limit⟩
        let keep (run : Bool) (limit : Nat) (o : Option Timer) : Option Timer :=
          if run then some (match o with
            | none => ⟨n, limit⟩
            | some m => ⟨m.elapsed + n, m.limit⟩) else none
        let after (ch : Chan) : Channel :=
          let c := s.chan ch
          let p : Lines := { c.pull with c := if c.highPhase then ⟨false, c.highData⟩ else c.pull.c }
          let e := c.ext
          let joined := decide (c.mode = .monitor)
          let cnCk := p.c.clock || e.c.clock || (joined && (p.d.clock || e.d.clock))
          let cnDa := p.c.data || e.c.data || (joined && (p.d.data || e.d.data))
          let dnCk := p.d.clock || e.d.clock || (joined && (p.c.clock || e.c.clock))
          let dnDa := p.d.data || e.d.data || (joined && (p.c.data || e.c.data))
          let held := decide (c.arb.holder ≠ .none)
          let clearing := c.health.busClear.isSome
          let watched := decide (c.mode = .active ∨ c.mode = .isolated ∧ s.target ch = .monitor)
          let cWatched := decide (c.mode ≠ .isolated) && c.hold.isNone
          let rests := !dnCk && !dnDa && !held && (c.health.busClear.all fun b => !b.stopping)
          let lowLeft := match c.health.busClear with
            | none => 0
            | some b => (b.plan.low + 47) / 48 - b.since
          { c with
            grantWait := up c.grantWait
            hold := c.hold.map fun h => { h with elapsed := h.elapsed + n }
            freePoint := if n = 0 then c.freePoint else false
            health := { c.health with busClear := c.health.busClear.map fun b => { b with since := b.since + n } }
            meters :=
              { cIdle := keep (!cnCk && !cnDa) c.settings.busFreeTime c.meters.cIdle
                dIdle := keep (rests && watched) (c.settings.busFreeTime + lowLeft) c.meters.dIdle
                dClear := keep rests (c.settings.busFreeTime + lowLeft) c.meters.dClear
                stuckClock := keep (cWatched && cnCk && !p.c.clock && !c.highPhase)
                  (c.settings.stuckLimit * 1000) c.meters.stuckClock
                stuckData := keep (cWatched && cnDa && !p.c.data) (c.settings.stuckLimit * 1000) c.meters.stuckData
                stuckD := keep (decide (c.mode = .active) && !held && !clearing && dnDa && !dnCk)
                  (c.settings.stuckLimit * 1000) c.meters.stuckD
                dStretch := keep ((decide (c.dOp ≠ .idle) || clearing) && dnCk) (c.settings.dStretchLimit * 1000)
                  c.meters.dStretch } }
        let passed := (s.tick.toNat + n) / 16777216 - s.tick.toNat / 16777216
        exec (.tick n) s = .next { s with
          tick := BitVec.ofNat 32 (s.tick.toNat + n)
          log := { s.log with
            crossings := min 2 (s.log.crossings + passed)
            markNeeded := s.log.markNeeded || decide (s.log.crossings < 2 ∧ 2 ≤ s.log.crossings + passed) }
          ch0 := after .c0
          ch1 := after .c1
          trigOut := { s.trigOut with timer := up s.trigOut.timer }
          monitor := { s.monitor with timer := up s.monitor.timer }
          engine := { s.engine with job := s.engine.job.map fun j => { j with pollTimer := up j.pollTimer } }
          supply := { s.supply with
            settleTimer := up s.supply.settleTimer, quiesceTimer := up s.supply.quiesceTimer
            filterTimer := up s.supply.filterTimer, pulseTimer := up s.supply.pulseTimer }
          link := { s.link with
            rx := { s.link.rx with timer := up s.link.rx.timer }
            noticeTimer := ⟨s.link.noticeTimer.elapsed + n, s.link.noticeTimer.limit⟩ } }

/-- COMPARE CONFIG stores the delay brought into 1..2^31 and the period brought into 0..2^24 - 1 and leaves target
and fire count; COMPARE ARM sets the target to the tick count plus the delay and answers it; a slot other than A
and B is BAD_PARAM. When the tick count has come to the target, the slot fires: the fire count rises, the target
advances by the period or is gone with period 0, and then its source occurs at the router. A slot that is not
armed, or whose target has not been reached, does not fire (log entry 5); a target stands as reached for half a
wrap past it, so a firing may be late (log entry 6). (R130, R131, R132) -/
def Obligations.CompareSlots : Prop :=
  ∀ (s : State) (tag : Byte) (sl : CompareSlot) (delay period : Word),
    let code : Byte := match sl with
      | .slotA => 0
      | .slotB => 1
    let c := s.compare sl
    let d := max 1 (min 2147483648 delay.toNat)
    let p := min 16777215 period.toNat;
      (Ready s → exec (.compareConfig tag code delay period) s =
        .next ((s.setCompare sl { c with delay := d, period := p }).withReply
          ⟨tag, 0x52, if d = delay.toNat ∧ p = period.toNat then .ok else .adjusted, []⟩))
      ∧ (Ready s → exec (.compareArm tag code) s =
        .next ((s.setCompare sl { c with target := some (s.tick + BitVec.ofNat 32 c.delay) }).withReply
          ⟨tag, 0x53, .ok, le32 (s.tick + BitVec.ofNat 32 c.delay).toNat⟩))
      ∧ (Ready s → ∀ slot : Byte, 2 ≤ slot.toNat →
        exec (.compareConfig tag slot delay period) s = .next (s.withReply ⟨tag, 0x52, .badParam, []⟩)
        ∧ exec (.compareArm tag slot) s = .next (s.withReply ⟨tag, 0x53, .badParam, []⟩))
      ∧ (s.inReset = false → ∀ u, c.target = some u → (s.tick - u).toNat < 2147483648 →
        exec (.compareFire sl) s = .next ((s.setCompare sl { c with
            fires := min 65535 (c.fires + 1)
            target := if c.period = 0 then none else some (u + BitVec.ofNat 32 c.period) }).occur
          (match sl with
            | .slotA => .compareA
            | .slotB => .compareB) none))
      ∧ (c.target = none → exec (.compareFire sl) s = .next s)
      ∧ (∀ u, c.target = some u → 2147483648 ≤ (s.tick - u).toNat → exec (.compareFire sl) s = .next s)

/-- On slot A or B, COMPARE DISARM leaves the slot disarmed with no target, keeps its delay, its period and its fire
count, answers OK with whether it was armed, and changes nothing else; a slot that was not armed is left as it
was. On any other slot it is BAD_PARAM and changes nothing. A slot so disarmed is armed again by COMPARE ARM and
by the router actions ARM_A and ARM_B. (R133) -/
def Obligations.CompareDisarm : Prop :=
  ∀ (s : State) (tag slot : Byte), Ready s →
      (2 ≤ slot.toNat → exec (.compareDisarm tag slot) s = .next (s.withReply ⟨tag, 0x54, .badParam, []⟩))
      ∧ ∀ sl : CompareSlot, slot = (match sl with
          | .slotA => 0
          | .slotB => 1) →
        let t := s.setCompare sl { s.compare sl with target := none }
        exec (.compareDisarm tag slot) s =
            .next (t.withReply ⟨tag, 0x54, .ok, [if (s.compare sl).target.isSome then 1 else 0]⟩)
          ∧ ((s.compare sl).target = none → t = s)
          ∧ (∃ (u : State) (r : Reply), exec (.compareArm tag slot) t = .next (u.withReply r) ∧ (u.compare sl).target.isSome = true)
          ∧ ((t.act (some (match sl with
              | .slotA => .armA
              | .slotB => .armB))).compare sl).target.isSome = true

/-- TRIG IN CONFIG stores one of the four selections and answers the last edge time and the edge count as they were,
which it then zeroes when asked. A selected edge stores the tick count, raises the count to at most 65535,
raises TRIGIN and then the TRIG_IN source; an edge not selected changes nothing but the sampled level. TRIG OUT
stores a carried width, a width of 0 as 1 with ADJUSTED, and applies LOW, HIGH, PULSE or TOGGLE, TOGGLE
inverting the pin's level; it answers pin and stored level. At the end of the width the timer stops and the pin
shows the stored level. (R134, R135, R136) -/
def Obligations.TriggerPins : Prop :=
  ∀ (s : State) (tag : Byte),
      (Ready s → ∀ (sel : EdgeSel) (zero : Bool), exec (.trigInConfig tag sel.code (if zero then 1 else 0)) s =
        .next (({ s with trigIn := { s.trigIn with
            selection := sel, count := if zero then 0 else s.trigIn.count } } : State).withReply
          ⟨tag, 0x55, .ok, le32 s.trigIn.lastEdge.toNat ++ le16 s.trigIn.count⟩))
      ∧ (Ready s → ∀ sel zero : Byte, (4 ≤ sel.toNat ∨ 2 ≤ zero.toNat) →
        exec (.trigInConfig tag sel zero) s = .next (s.withReply ⟨tag, 0x55, .badParam, []⟩))
      ∧ (∀ rising, s.trigIn.level = rising → exec (.triginEdge rising) s = .next s)
      ∧ (∀ rising, s.trigIn.level = !rising → s.inReset = false →
        let selected := s.trigIn.selection = .both ∨ s.trigIn.selection = .rise ∧ rising = true
          ∨ s.trigIn.selection = .fall ∧ rising = false
        (selected → exec (.triginEdge rising) s = .next (({ s with
            trigIn := ⟨s.trigIn.selection, rising, s.tick, min 65535 (s.trigIn.count + 1)⟩
            link := { s.link with notices := s.link.notices ||| 0x0100 } } : State).occur .trigIn none))
        ∧ (¬ selected → exec (.triginEdge rising) s =
            .next { s with trigIn := { s.trigIn with level := rising } }))
      ∧ (Ready s → ∀ width : Option Half,
        let w := (width.map fun v => max 1 v.toNat).getD s.trigOut.width
        let st : Status := if width = some 0 then .adjusted else .ok
        let pin := s.trigOut.timer.isSome || s.trigOut.stored
        exec (.trigOut tag 0 width) s =
            .next (({ s with trigOut := ⟨false, w, none⟩ } : State).withReply ⟨tag, 0x56, st, [0, 0]⟩)
          ∧ exec (.trigOut tag 1 width) s =
            .next (({ s with trigOut := ⟨true, w, none⟩ } : State).withReply ⟨tag, 0x56, st, [1, 1]⟩)
          ∧ exec (.trigOut tag 2 width) s = .next (({ s with trigOut := ⟨s.trigOut.stored, w, some ⟨0, w⟩⟩ } : State).withReply
              ⟨tag, 0x56, st, 1 :: yesNo s.trigOut.stored⟩)
          ∧ exec (.trigOut tag 3 width) s = .next (({ s with trigOut := ⟨!pin, w, none⟩ } : State).withReply
              ⟨tag, 0x56, st, yesNo (!pin) ++ yesNo (!pin)⟩)
          ∧ ∀ op : Byte, 4 ≤ op.toNat →
            exec (.trigOut tag op width) s = .next (s.withReply ⟨tag, 0x56, .badParam, []⟩))
      ∧ (s.inReset = false → ∀ m, s.trigOut.timer = some m → m.limit ≤ m.elapsed →
        exec .trigOutPulseEnd s = .next { s with trigOut := ⟨s.trigOut.stored, s.trigOut.width, none⟩ })

/-- ROUTE WRITE of index 0..7, with a source and an action of their lists and a qualifier, ANY or an entry 0..31,
exactly for source RULE, replaces the route with fire count 0; anything else is BAD_PARAM. ROUTE READ answers
the route and its fire count, which it then zeroes when asked. TRIGGER STATUS answers the tick count, both
slots, both pins' units. Reply layouts are log entry 18's; that TRIGIN high is sent as 1 and low as 0 is the
model's choice in log entry 16, and that the time the TRIG-OUT pulse has left is sent in microseconds in two
bytes is the model's choice in log entry 47. Nothing else changes. (R141, R142, R137, R196) -/
def Obligations.RouteRequests : Prop :=
  ∀ (s : State) (tag index : Byte), Ready s →
      (∀ (on : Bool) (src : Source) (q : Option Qualifier) (act : RouteAction), index.toNat < 8 →
        (q.isSome = true ↔ src = .rule) → (∀ k, q = some (.entry k) → k < 32) →
        exec (.routeWrite tag index (if on then 1 else 0) src.code (q.map Qualifier.code) act.code) s =
          .next (({ s with routes := s.routes.set index.toNat ⟨on, some src, q, some act, 0⟩ } : State).withReply
            ⟨tag, 0x57, .ok, []⟩))
      ∧ (∀ (on src : Byte) (q : Option Byte) (act : Byte),
        (8 ≤ index.toNat ∨ 2 ≤ on.toNat ∨ src = 0 ∨ 8 ≤ src.toNat ∨ act = 0 ∨ 11 ≤ act.toNat ∨ (q = none ↔ src = 1)
          ∨ ∃ v : Byte, q = some v ∧ 32 ≤ v.toNat ∧ v ≠ 255) →
        exec (.routeWrite tag index on src q act) s = .next (s.withReply ⟨tag, 0x57, .badParam, []⟩))
      ∧ (∀ (r : Route) (zero : Bool), s.routes[index.toNat]? = some r →
        exec (.routeRead tag index (if zero then 1 else 0)) s =
          .next (({ s with routes := if zero then s.routes.set index.toNat { r with fires := 0 } else s.routes } :
              State).withReply ⟨tag, 0x58, .ok,
            yesNo r.enabled ++ [(r.source.map Source.code).getD 0]
              ++ (match r.qualifier with
                  | none => [0]
                  | some q => [1, q.code])
              ++ [(r.action.map RouteAction.code).getD 0] ++ le16 r.fires⟩))
      ∧ (∀ zero : Byte, (s.routes.length ≤ index.toNat ∨ 2 ≤ zero.toNat) →
        exec (.routeRead tag index zero) s = .next (s.withReply ⟨tag, 0x58, .badParam, []⟩))
      ∧ (let slot (c : Compare) : List Byte := le32 c.delay ++ le32 c.period
            ++ (match c.target with
                | none => [0, 0, 0]
                | some u => [1, 1] ++ le32 u.toNat ++ [1] ++ le32 (u - s.tick).toNat)
            ++ le16 c.fires
        exec (.triggerStatus tag) s = .next (s.withReply ⟨tag, 0x59, .ok,
          le32 s.tick.toNat ++ slot s.cmpA ++ slot s.cmpB ++ [s.trigIn.selection.code] ++ yesNo s.trigIn.level
            ++ le32 s.trigIn.lastEdge.toNat ++ le16 s.trigIn.count ++ yesNo s.trigOut.stored
            ++ yesNo (s.trigOut.timer.isSome || s.trigOut.stored) ++ le16 s.trigOut.width
            ++ (match s.trigOut.timer with
                | none => [0, 0]
                | some m => [1, 1] ++ le16 (m.limit - m.elapsed))⟩))

/-- With no fitting route an occurrence changes nothing. Otherwise one TRIGGER record is handed to the log, the fire
count of each fitting route rises by 1 and of no other, no route changes otherwise, and rules, images, engine
and tick count are not touched. When one route fits, its action is all that follows: the gate, a park flag of a
channel that is not ISOLATED, a pulse or toggle of TRIG-OUT, a snapshot, the arming of a slot, or a reset pulse.
Several fitting routes act in ascending index. (R138, R139, R140, R108) -/
def Obligations.RouterOccurrence : Prop :=
  ∀ (s : State) (source : Source) (entry : Option Nat),
    let fits (r : Route) : Bool := r.enabled && decide (r.source = some source)
      && decide (entry = none ∨ r.qualifier = some .any ∨ ∃ k, entry = some k ∧ r.qualifier = some (.entry k))
    let t := s.occur source entry
    let u := { s.hand none (.trigger source entry) with routes := t.routes };
      ((∀ r ∈ s.routes, fits r = false) → t = s)
      ∧ ((∃ r ∈ s.routes, fits r = true) →
        t.routes = s.routes.map (fun r => if fits r then { r with fires := min 65535 (r.fires + 1) } else r)
        ∧ t.log = { u.log with gateOpen := t.log.gateOpen }
        ∧ t = { s with ch0 := t.ch0, ch1 := t.ch1, log := t.log, trigOut := t.trigOut, cmpA := t.cmpA, cmpB := t.cmpB
                       routes := t.routes, monitor := t.monitor, supply := t.supply
                       link := { s.link with notices := t.link.notices } })
      ∧ (∀ r, s.routes.filter fits = [r] →
        (r.action = some .logOpen → t = { u with log := { u.log with gateOpen := true } })
        ∧ (r.action = some .logClose → t = { u with log := { u.log with gateOpen := false } })
        ∧ (∀ ch, r.action = some (match ch with
              | .c0 => .park0
              | .c1 => .park1) →
            t = if (s.chan ch).mode = .isolated then u else u.setChan ch { s.chan ch with park := true })
        ∧ (r.action = some .pulseOut →
            t = { u with trigOut := ⟨s.trigOut.stored, s.trigOut.width, some ⟨0, s.trigOut.width⟩⟩ })
        ∧ (r.action = some .toggleOut →
            t = { u with trigOut := ⟨!(s.trigOut.timer.isSome || s.trigOut.stored), s.trigOut.width, none⟩ })
        ∧ (r.action = some .snapshot → t = u.snapshotNow)
        ∧ (r.action = some .armA →
            t = { u with cmpA := { s.cmpA with target := some (s.tick + BitVec.ofNat 32 s.cmpA.delay) } })
        ∧ (r.action = some .armB →
            t = { u with cmpB := { s.cmpB with target := some (s.tick + BitVec.ofNat 32 s.cmpB.delay) } })
        ∧ (r.action = some .resetPulse →
            t = { u with supply := { s.supply with
              claims := { s.supply.claims with pulse := true }
              pulseTimer := some ⟨0, s.supply.settings.pulseWidth * 1000⟩ } }))
      ∧ (∀ first rest, s.routes.filter fits = first :: rest →
        t = (first :: rest).foldl (fun v r => v.act r.action) u)

/-- A snapshot, by request or at the expiry of the period, copies each channel's running set, stores the tick count,
raises the number by 1 mod 65536, zeroes the running sets, raises STATS and restarts the period timer when the
period is above 0. Where an expiry falls together with another snapshot that is taken first, its own snapshot is
taken by the STATS_PERIOD_EXPIRY that follows; with no expiry due that command changes nothing (log entry 50).
STATS READ answers the snapshot set with its time and number, or the running sets with the tick count, and
changes no state; any other choice is BAD_PARAM. HEALTH STATUS answers one channel's part of the monitor with
the settings. Layouts are log entry 18's. (R155, R156, R157, R153) -/
def Obligations.HealthAndStatistics : Prop :=
  ∀ (s : State) (tag : Byte),
    let wire (t : Stats) : List Byte := le32 t.exchanges ++ le32 t.addressNacks ++ le32 t.dataNacks ++ le32 t.denied
      ++ le32 t.emulated ++ le32 t.held ++ le32 t.misframes ++ le32 t.arbLosses ++ le32 t.dStretchTimeouts
      ++ le32 t.bytes
    let take (c : Channel) : Channel := { c with health := { c.health with
      snapshot := c.health.running, running := ⟨0, 0, 0, 0, 0, 0, 0, 0, 0, 0⟩ } }
    let due : Bool := match s.monitor.timer with
      | none => false
      | some m => decide (m.limit ≤ m.elapsed)
    let u (left : Bool) : State := { s with
      ch0 := take s.ch0, ch1 := take s.ch1
      monitor := { s.monitor with
        snapTime := s.tick, snapNumber := s.monitor.snapNumber + 1
        timer := if s.monitor.period = 0 then none else some ⟨0, s.monitor.period * 1000⟩, expiryDue := left }
      link := { s.link with notices := s.link.notices ||| 0x0200 } };
      (Ready s → exec (.statsSnapshot tag) s = .next ((u (s.monitor.expiryDue || due)).withReply ⟨tag, 0x63, .ok,
        wire s.ch0.health.running ++ wire s.ch1.health.running ++ le32 s.tick.toNat
          ++ le16 (s.monitor.snapNumber + 1).toNat⟩))
      ∧ (s.inReset = false → due = true → exec .statsPeriodExpiry s = .next (u s.monitor.expiryDue))
      ∧ (s.inReset = false → due = false → s.monitor.expiryDue = true → exec .statsPeriodExpiry s = .next (u false))
      ∧ (due = false → s.monitor.expiryDue = false → exec .statsPeriodExpiry s = .next s)
      ∧ (Ready s → exec (.statsRead tag 0) s = .next (s.withReply ⟨tag, 0x64, .ok,
        wire s.ch0.health.snapshot ++ wire s.ch1.health.snapshot ++ le32 s.monitor.snapTime.toNat
          ++ le16 s.monitor.snapNumber.toNat⟩))
      ∧ (Ready s → exec (.statsRead tag 1) s = .next (s.withReply ⟨tag, 0x64, .ok,
        wire s.ch0.health.running ++ wire s.ch1.health.running ++ le32 s.tick.toNat⟩))
      ∧ (Ready s → ∀ choice : Byte, 2 ≤ choice.toNat →
        exec (.statsRead tag choice) s = .next (s.withReply ⟨tag, 0x64, .badParam, []⟩))
      ∧ (Ready s → ∀ ch, let h := (s.chan ch).health
        exec (.healthStatus tag (chanCode ch)) s = .next (s.withReply ⟨tag, 0x62, .ok,
          le8 h.misframes ++ le8 h.cleanRun ++ yesNo h.degraded ++ yesNo h.stuckC ++ yesNo h.stuckD ++ yesNo h.owed
            ++ yesNo h.busClear.isSome ++ [h.lastClear.code] ++ le8 s.monitor.degrade ++ le8 s.monitor.clear
            ++ le8 s.monitor.recover ++ le16 s.monitor.period⟩))
      ∧ (Ready s → ∀ chan : Byte, 2 ≤ chan.toNat →
        exec (.healthStatus tag chan) s = .next (s.withReply ⟨tag, 0x62, .badParam, []⟩))

/-- STUCK_C, declared when a stuck measurement has gone on for longer than its limit with no hold, aborts the
exchange, leaves the phase FREE with the C-side lines released and closes an open relay grant, in a closing that
falls in no later transaction (log entry 25); cleared after the bus-free time, it leaves sync UNKNOWN, and a
side not free yet has its bus-free point then (log entries 12 and 21). STUCK_D, declared when its measurement
has gone on for longer than its limit, clears the seen-free flag, makes the D-side busy (log entry 49), fails a
job on the channel, whose record follows the EVENT, and starts one bus clear where DnCK is high and nobody holds
the D-side; cleared, it abandons the hold, ends the exchange ABORTED, leaves phase FREE and sync UNKNOWN, and
the D-side free, with HOLD_END, the EXCHANGE record and the EVENT in the log in that order. Each change hands
its EVENT record and, with no trip latched, raises HEALTHn. How an exchange ends here is log entry 22. (R149,
R150, R148, R147, R170, R173, R23, R34, R99, R33, R151) -/
def Obligations.StuckLines : Prop :=
  ∀ (s : State) (ch : Chan), s.inReset = false →
    let c := s.chan ch
    let healthy (t : State) : Prop := s.supply.state ≠ .tripped → t.link.noticed (healthNotice ch) = true
    (∀ m, (c.meters.stuckClock = some m ∨ c.meters.stuckData = some m) → m.limit < m.elapsed →
        c.health.stuckC = false → c.hold = none → c.mode ≠ .isolated →
        ∃ t : State, exec (.stuckCDeclare ch) s = .next t ∧ (t.chan ch).health.stuckC = true ∧ (t.chan ch).exch = none
          ∧ (t.chan ch).phase = .free ∧ (t.chan ch).pull.c = ⟨false, false⟩ ∧ (t.chan ch).arb.holder = c.arb.holder
          ∧ (c.relayOpen = true → (t.chan ch).dOp = .closing false)
          ∧ t.log = ((s.endExchange ch .aborted).hand (some ch) (.event (.stuckC true))).log ∧ healthy t
          ∧ SameChannel (s.chan (other ch)) (t.chan (other ch))
          ∧ t = { s with ch0 := t.ch0, ch1 := t.ch1, rules := t.rules, images := t.images, log := t.log
                         link := { s.link with notices := t.link.notices } })
      ∧ ((∀ m, (c.meters.stuckClock = some m ∨ c.meters.stuckData = some m) → m.elapsed ≤ m.limit) →
        exec (.stuckCDeclare ch) s = .next s)
      ∧ ((∀ m, c.meters.stuckD = some m → m.elapsed ≤ m.limit) → exec (.stuckDLineTimeout ch) s = .next s)
      ∧ (∀ m, c.meters.cIdle = some m → m.limit ≤ m.elapsed → c.health.stuckC = true →
        ∃ t : State, exec (.stuckCClear ch) s = .next t
          ∧ t.chan ch = { c with
              health := { c.health with stuckC := false }, sync := .unknown, cFree := true, byteOpen := false
              freePoint := if c.cFree then c.freePoint else true, meters := (t.chan ch).meters }
          ∧ t.log = (s.hand (some ch) (.event (.stuckC false))).log ∧ healthy t
          ∧ SameChannel (s.chan (other ch)) (t.chan (other ch)) ∧ OnlyChannelsAndLog s t)
      ∧ (∀ m, c.meters.stuckD = some m → m.limit < m.elapsed → c.health.stuckD = false →
        ∃ t : State, exec (.stuckDLineTimeout ch) s = .next t ∧ (t.chan ch).health.stuckD = true
          ∧ (t.chan ch).seenFree = false ∧ (t.chan ch).dFree = false ∧ healthy t
          ∧ (s.dClockLow ch = false → c.arb.holder = .none → c.health.busClear = none →
              (t.chan ch).health.busClear = some ⟨0, c.plan, false, 0⟩)
          ∧ ((s.dClockLow ch = true ∨ c.arb.holder ≠ .none ∨ c.health.busClear ≠ none) →
              (t.chan ch).health.busClear = c.health.busClear)
          ∧ t.log = ((s.hand (some ch) (.event (.stuckD true))).jobTold ch .stuck).log
          ∧ (t.chan ch).exch.isSome = c.exch.isSome ∧ (t.chan ch).hold = c.hold ∧ (t.chan ch).mode = c.mode
          ∧ t.rules = s.rules ∧ t.images = s.images
          ∧ (∀ j, s.engine.job = some j → j.chan = ch →
              JobEnded j (j.result (j.endingCause.getD .stuck) j.unitAddress)
                (s.hand (some ch) (.event (.stuckD true))) t)
          ∧ (s.jobOn ch = false → OnlyChannelsAndLog s t
              ∧ SameChannel (s.chan (other ch)) (t.chan (other ch))
              ∧ (∀ x, c.phase = .grantWait → c.grantLimitTaken = true → c.exch = some x →
                  RefusedAs .busy x (t.chan ch))))
      ∧ (∀ m, c.meters.dClear = some m → m.limit ≤ m.elapsed → c.health.stuckD = true →
        ∃ t : State, exec (.stuckDClear ch) s = .next t ∧ (t.chan ch).health.stuckD = false ∧ (t.chan ch).exch = none
          ∧ (t.chan ch).hold = none ∧ (t.chan ch).phase = .free ∧ (t.chan ch).pull.c = ⟨false, false⟩
          ∧ (t.chan ch).sync = .unknown ∧ (t.chan ch).dFree = true
          ∧ (c.mode = .active → (t.chan ch).seenFree = true) ∧ healthy t
          ∧ t.log = (s.handAll (some ch)
              (c.abandonedRecords ++ c.abortedRecords s.tick ++ [.event (.stuckD false)])).log
          ∧ (c.hold.isSome = true → t.link.noticed (holdNotice ch) = true)
          ∧ t.rules = (s.endExchange ch .aborted).rules ∧ t.images = (s.endExchange ch .aborted).images
          ∧ (t.chan ch).health = { ((s.endExchange ch .aborted).chan ch).health with stuckD := false }
          ∧ (t.chan ch).console = ((s.endExchange ch .aborted).chan ch).console
          ∧ (c.exch = none → c.hold = none → OnlyChannelsAndLog s t)
          ∧ t.engine = s.engine ∧ t.supply = s.supply ∧ SameChannel (s.chan (other ch)) (t.chan (other ch)))

/-- BUS CLEAR in ACTIVE with the D-side not held, no bus clear running and DnCK high starts one under the plan as it
stands; otherwise it is BAD_PARAM, WRONG_MODE or BUSY, the first that applies in this order (the model's choice,
log entry 52). A pulse that finds DnDA high is followed by the STOP; a pulse that finds it low is followed by
the next, and after the ninth the bus clear is FAILED. A STOP that leaves DnDA high ends it CLEARED, with the
D-side free, and STUCK_D cleared where it was declared, with what R150 gives: the hold abandoned, the exchange
ABORTED, phase FREE and sync UNKNOWN, and the records HOLD_END, EXCHANGE and EVENT in that order. That the phase
is FREE with no exchange in flight too is log entry 22; a failed STOP is followed by the next pulse, or after
the ninth by FAILED. Where STUCK_D does not clear, nothing changes but the channel. The time since a pulse began
is log entry 41's own field. (R151, R152, R143, R150, R5, R34, R99) -/
def Obligations.BusClearRuns : Prop :=
  ∀ (s : State) (tag : Byte) (ch : Chan),
    let c := s.chan ch
    (Ready s → c.mode = .active → c.arb.holder = .none → c.health.busClear = none → s.dClockLow ch = false →
        ∃ t : State, exec (.busClear tag (chanCode ch)) s = .next (t.withReply ⟨tag, 0x60, .ok, []⟩) ∧ OnlyChannel ch s t
          ∧ t.chan ch = { c with
              pull := { c.pull with d := ⟨false, false⟩ }
              health := { c.health with busClear := some ⟨0, c.plan, false, 0⟩ }, meters := (t.chan ch).meters })
      ∧ (Ready s → c.mode ≠ .active →
        exec (.busClear tag (chanCode ch)) s = .next (s.withReply ⟨tag, 0x60, .wrongMode, []⟩))
      ∧ (Ready s → c.mode = .active →
          (c.arb.holder ≠ .none ∨ c.health.busClear.isSome = true ∨ s.dClockLow ch = true) →
        exec (.busClear tag (chanCode ch)) s = .next (s.withReply ⟨tag, 0x60, .busy, []⟩))
      ∧ (Ready s → ∀ chan : Byte, 2 ≤ chan.toNat →
        exec (.busClear tag chan) s = .next (s.withReply ⟨tag, 0x60, .badParam, []⟩))
      ∧ (∀ b, s.inReset = false → c.health.busClear = some b → b.stopping = false → ∀ high,
        ∃ t : State, exec (.busClearPulseDone ch high) s = .next t ∧ OnlyChannel ch s t
          ∧ (high = true → t.chan ch = { c with
              health := { c.health with busClear := some ⟨b.pulses + 1, b.plan, true, 0⟩ }, meters := (t.chan ch).meters })
          ∧ (high = false → b.pulses < 8 → t.chan ch = { c with
              health := { c.health with busClear := some ⟨b.pulses + 1, b.plan, false, 0⟩ }, meters := (t.chan ch).meters })
          ∧ (high = false → 8 ≤ b.pulses → t.chan ch = { c with
              pull := { c.pull with d := ⟨false, false⟩ }
              health := { c.health with busClear := none, lastClear := .failed }, meters := (t.chan ch).meters }))
      ∧ (∀ b, s.inReset = false → c.health.busClear = some b → b.stopping = true →
        (∃ t : State, exec (.busClearStopDone ch true) s = .next t ∧ (t.chan ch).health.busClear = none
          ∧ (t.chan ch).health.lastClear = .cleared ∧ (t.chan ch).health.stuckD = false
          ∧ (t.chan ch).pull.d = ⟨false, false⟩ ∧ (t.chan ch).dFree = true
          ∧ (c.mode = .active → (t.chan ch).seenFree = true)
          ∧ (c.health.stuckD = true → (t.chan ch).exch = none ∧ (t.chan ch).hold = none ∧ (t.chan ch).phase = .free
              ∧ (t.chan ch).sync = .unknown ∧ (t.chan ch).pull.c = ⟨false, false⟩
              ∧ t.log = (s.handAll (some ch)
                  (c.abandonedRecords ++ c.abortedRecords s.tick ++ [.event (.stuckD false)])).log
              ∧ (s.supply.state ≠ .tripped → t.link.noticed (healthNotice ch) = true)
              ∧ t.rules = (s.endExchange ch .aborted).rules ∧ t.images = (s.endExchange ch .aborted).images
              ∧ t.engine = s.engine ∧ t.supply = s.supply ∧ SameChannel (s.chan (other ch)) (t.chan (other ch)))
          ∧ (c.health.stuckD = false → OnlyChannel ch s t ∧ (t.chan ch).exch = c.exch ∧ (t.chan ch).phase = c.phase))
        ∧ (∃ t : State, exec (.busClearStopDone ch false) s = .next t ∧ OnlyChannel ch s t
          ∧ (b.pulses < 9 → t.chan ch = { c with
              health := { c.health with busClear := some ⟨b.pulses, b.plan, false, 0⟩ }, meters := (t.chan ch).meters })
          ∧ (9 ≤ b.pulses → t.chan ch = { c with
              pull := { c.pull with d := ⟨false, false⟩ }
              health := { c.health with busClear := none, lastClear := .failed }, meters := (t.chan ch).meters })))

/-- STAGE WRITE of 1 to 480 bytes inside the 4096 replaces the buffer's bytes from the offset on, in order, and no
other byte; it is BUSY while a job runs whose staging region shares an offset with it, and BAD_PARAM outside the
ranges, which comes first (the model's choice, log entry 52). STAGE READ answers the bytes as they stand and
changes no state but the reply queue. A byte written is the byte read at its address, and every other address
reads as before. (R158, R159) -/
def Obligations.StagingRequests : Prop :=
  ∀ (s : State) (tag : Byte) (offset : Half), Ready s → memWf s.engine.staging = true →
      (∀ bytes : List Byte,
        let shares := ∃ (j : Job) (o : Nat), s.engine.job = some j ∧ j.staging = some o
          ∧ offset.toNat < o + j.length ∧ o < offset.toNat + bytes.length
        let fits := bytes ≠ [] ∧ bytes.length ≤ 480 ∧ offset.toNat + bytes.length ≤ 4096
        (¬ fits → exec (.stageWrite tag offset bytes) s = .next (s.withReply ⟨tag, 0x70, .badParam, []⟩))
        ∧ (fits → shares → exec (.stageWrite tag offset bytes) s = .next (s.withReply ⟨tag, 0x70, .busy, []⟩))
        ∧ (fits → ¬ shares → ∃ m, exec (.stageWrite tag offset bytes) s =
            .next (({ s with engine := { s.engine with staging := m } } : State).withReply ⟨tag, 0x70, .ok, []⟩)
          ∧ memWf m = true
          ∧ ∀ a, memRead m a = (if offset.toNat ≤ a then
              bytes[a - offset.toNat]?.getD (memRead s.engine.staging a) else memRead s.engine.staging a)))
      ∧ ∀ count : Half,
        ((count = 0 ∨ 480 < count.toNat ∨ 4096 < offset.toNat + count.toNat) →
          exec (.stageRead tag offset count) s = .next (s.withReply ⟨tag, 0x71, .badParam, []⟩))
        ∧ (count ≠ 0 → count.toNat ≤ 480 → offset.toNat + count.toNat ≤ 4096 →
          exec (.stageRead tag offset count) s = .next (s.withReply ⟨tag, 0x71, .ok,
            (List.range count.toNat).map fun i => memRead s.engine.staging (offset.toNat + i)⟩))

/-- STAGE CHECK of a length 1..4096 inside the buffer answers OK with the check value of the bytes from the offset
on, in ascending offset, whatever job runs, and changes no state but the reply queue; otherwise it is BAD_PARAM.
The check value is B × 65536 + A of the two sums over the bytes. A CHECK job whose bursts bring the same bytes,
however cut, ends with the same value. (R160) -/
def Obligations.StageCheck : Prop :=
  let add (p : Nat × Nat) (b : Byte) : Nat × Nat := ((p.1 + b.toNat) % 65521, (p.2 + (p.1 + b.toNat) % 65521) % 65521)
  let value (bytes : List Byte) : Nat := (bytes.foldl add (1, 0)).2 * 65536 + (bytes.foldl add (1, 0)).1
  (∀ (s : State) (tag : Byte) (offset length : Half), Ready s →
      ((length = 0 ∨ 4096 < length.toNat ∨ 4096 < offset.toNat + length.toNat) →
        exec (.stageCheck tag offset length) s = .next (s.withReply ⟨tag, 0x72, .badParam, []⟩))
      ∧ (length ≠ 0 → length.toNat ≤ 4096 → offset.toNat + length.toNat ≤ 4096 →
        exec (.stageCheck tag offset length) s = .next (s.withReply ⟨tag, 0x72, .ok,
          le32 (value ((List.range length.toNat).map fun i => memRead s.engine.staging (offset.toNat + i)))⟩)))
    ∧ ∀ (j : Job) (bursts : List (List Byte)) (address : Nat), j.kind = .check → j.sumA = 1 → j.sumB = 0 →
        ((bursts.foldl (fun k b => k.folded b) j).result .none address).check = some (value bursts.flatten)

/-- JOB START is BAD_PARAM outside the ranges, BUSY while a job runs and WRONG_MODE unless the channel is ACTIVE
outside STOPPING. Otherwise the job begins with its first chunk or burst, cut at its page, places the JOB claim
when asked, and holds the D-side at once where it is grantable and the relay does not wait, under the plan as it
stands and with the transaction of its unit issued, or waits for it. The transaction as a field is log entry
24's choice. JOB ABORT turns a job that holds the D-side to ENDING with cause HOST_ABORT, where a byte still
received is given NACK (log entry 24), ends one that does not, and changes nothing with no job or in ENDING. JOB
STATUS answers the phase, the job record, whether the engine holds or waits for the grant, and the last result
in the layout of log entry 18, and changes nothing. (R161, R162, R163, R164, R36, R166, R167, R169, R171, R174) -/
def Obligations.JobRequests : Prop :=
  ∀ (s : State) (tag : Byte), Ready s →
    (∀ raw : RawJob,
      let fits : Prop := raw.kind.toNat ≤ 2 ∧ raw.channel.toNat ≤ 1 ∧ raw.device.toNat ≤ 127
        ∧ (raw.width = 1 ∨ raw.width = 2) ∧ raw.page.toNat ∈ [1, 2, 4, 8, 16, 32, 64, 128, 256]
        ∧ 1 ≤ raw.length.toNat ∧ raw.length.toNat ≤ 4096
        ∧ raw.start.toNat + raw.length.toNat ≤ (if raw.width = 1 then 256 else 65536)
        ∧ (raw.staging = none ↔ raw.kind = 2) ∧ (∀ o, raw.staging = some o → o.toNat + raw.length.toNat ≤ 4096)
        ∧ (raw.verify.isSome = true → raw.kind = 0) ∧ (∀ v, raw.verify = some v → v.toNat ≤ 1)
        ∧ (∀ v, raw.holdReset = some v → v.toNat ≤ 1)
      (¬ fits → exec (.jobStart tag raw) s = .next (s.withReply ⟨tag, 0x73, .badParam, []⟩))
      ∧ (fits → ∀ (ch : Chan) (kind : JobKind), raw.channel = chanCode ch → raw.kind = kind.code →
        let c := s.chan ch
        let j : Job :=
          { id := raw.id, kind := kind, chan := ch, device := BitVec.ofNat 7 raw.device.toNat
            width := raw.width.toNat, page := raw.page.toNat, start := raw.start.toNat, length := raw.length.toNat
            staging := raw.staging.map BitVec.toNat
            pollLimit := (raw.pollLimit.map fun v => max 1 (min 100 v.toNat)).getD 10
            verify := decide (raw.verify = some 1), holdReset := decide (raw.holdReset = some 1)
            phase := match kind with
              | .write => .write
              | .read => .read
              | .check => .check
            unit := if kind = .write then .chunk else .burst
            unitAddress := raw.start.toNat
            unitLength := min raw.length.toNat (raw.page.toNat - raw.start.toNat % raw.page.toNat)
            attempt := 1, done := 0, sumA := 1, sumB := 0, endingCause := none, pollTimer := none
            pollExpired := false, probeAck := none }
        (s.engine.job.isSome = true → exec (.jobStart tag raw) s = .next (s.withReply ⟨tag, 0x73, .busy, []⟩))
        ∧ (s.engine.job = none → (c.mode ≠ .active ∨ s.supply.state = .stopping) →
          exec (.jobStart tag raw) s = .next (s.withReply ⟨tag, 0x73, .wrongMode, []⟩))
        ∧ (s.engine.job = none → c.mode = .active → s.supply.state ≠ .stopping →
          ∃ t : State, exec (.jobStart tag raw) s = .next (t.withReply ⟨tag, 0x73,
              if raw.pollLimit.all (fun v => decide (1 ≤ v.toNat ∧ v.toNat ≤ 100)) then .ok else .adjusted, []⟩)
            ∧ t = { s with
                ch0 := t.ch0, ch1 := t.ch1, engine := { s.engine with job := some j, unit := t.engine.unit }
                supply := { s.supply with claims := { s.supply.claims with
                  job := s.supply.claims.job || j.holdReset } } }
            ∧ SameChannel (s.chan (other ch)) (t.chan (other ch)) ∧ (t.chan ch).exch = c.exch
            ∧ (c.grantable = true → c.arb.relayWaits = false → (t.chan ch).arb.holder = .engine
                ∧ (t.chan ch).arb.last = .engine ∧ (t.chan ch).dOp = .unit ∧ (t.chan ch).latched = some c.plan
                ∧ UnitIs j s.engine.staging t.engine.unit)
            ∧ ((c.grantable = false ∨ c.arb.relayWaits = true) →
                (t.chan ch).arb = { c.arb with engineWaits := true } ∧ (t.chan ch).dOp = c.dOp
                  ∧ t.engine.unit = []))))
    ∧ ((s.engine.job = none ∨ s.jobEnding = true) →
        ∃ t : State, exec (.jobAbort tag) s = .next (t.withReply ⟨tag, 0x74, .ok, []⟩) ∧ Measured s t)
    ∧ (∀ j, s.engine.job = some j → j.phase ≠ .ending →
        ∃ t : State, exec (.jobAbort tag) s = .next (t.withReply ⟨tag, 0x74, .ok, []⟩)
          ∧ (if (s.chan j.chan).arb.holder = .engine then
              Measured { s with engine := { s.engine with
                job := some { j with phase := .ending, endingCause := some .hostAbort }
                unit := s.engine.unit.map fun
                  | .receive _ => .receive .nack
                  | item => item } } t
            else JobEnded j (j.result .hostAbort j.unitAddress) s t))
    ∧ (let last : List Byte := match s.engine.last with
        | none => [0]
        | some r => 1 :: ([r.id, r.kind.code, chanCode r.chan, r.outcome.code, r.cause.code] ++ le16 r.done
            ++ le32 r.failing ++ (match r.check with
              | none => [0]
              | some v => 1 :: le32 v))
      (s.engine.job = none → exec (.jobStatus tag) s = .next (s.withReply ⟨tag, 0x75, .ok, [0, 0, 0] ++ last⟩))
      ∧ ∀ j, s.engine.job = some j → exec (.jobStatus tag) s = .next (s.withReply ⟨tag, 0x75, .ok,
          [j.phase.code, 1, j.id, j.kind.code, chanCode j.chan] ++ le8 j.device.toNat ++ le8 j.width ++ le16 j.page
            ++ le16 j.start ++ le16 j.length
            ++ (match j.staging with
                | none => [0]
                | some o => 1 :: le16 o)
            ++ le8 j.pollLimit ++ (if j.kind = .write then 1 :: yesNo j.verify else [0]) ++ yesNo j.holdReset
            ++ le16 j.unitAddress ++ le16 j.unitLength ++ le8 j.attempt ++ le16 j.done
            ++ (match j.endingCause with
                | none => [0]
                | some c => [1, c.code])
            ++ yesNo (decide ((s.chan j.chan).arb.holder = .engine ∨ (s.chan j.chan).arb.engineWaits = true))
            ++ last⟩))

/-- In ENDING the end of the unit ends the job with its ending cause. A chunk that is complete is polled; a chunk or
burst that failed is tried again to the third attempt and then ends the job with its cause. A probe's
acknowledge bit decides at once: an ACK before the limit raises chunks done and turns the job to the next chunk,
to VERIFY, or leaves it with nothing to do; its STOP then begins, one full low phase and one high phase long
(R37, R39). With the STOP made, the job ends POLL_TIMEOUT where the limit has expired, DONE where nothing is
left to do, and goes on otherwise, after a NACK with another probe. The poll limit ends the job between probes
at once and after the probe in progress otherwise. A burst's bytes pass through the burst buffer, which is then
empty; they are compared with the staging bytes in VERIFY, ending the job at the first difference, stored and
folded in READ and folded in CHECK, and the job goes on to the next burst or is DONE. Going on, the job holds
the D-side again at once where it is grantable and the relay does not wait, its next unit's transaction issued,
and waits for it otherwise; an ended job's fallback owed is settled; the other channel is untouched. The cause
of a unit that ends in ENDING, and where a probe is decided and ends, are log entry 24. (R166, R167, R168, R169,
R171, R172, R173, R158, R164, R37, R39, R147) -/
def Obligations.UnitsEnd : Prop :=
  ∀ (s : State) (j : Job), s.inReset = false → s.engine.job = some j →
    let c := s.chan j.chan
    let after := j.unitAddress + j.unitLength
    let more := after < j.start + j.length
    let next (k : Job) (unit : JobUnit) (a : Nat) : Job :=
      { k with unit := unit, unitAddress := a, attempt := 1
               unitLength := min (j.start + j.length - a) (j.page - a % j.page) }
    let fails (cause : JobCause) (t : State) : Prop :=
      if j.attempt < 3 then JobGoesOn { j with attempt := j.attempt + 1 } true s t
      else JobEnded j (j.result cause j.unitAddress) s t
    let add (p : Nat × Nat) (b : Byte) : Nat × Nat :=
      ((p.1 + b.toNat) % 65521, (p.2 + (p.1 + b.toNat) % 65521) % 65521)
    let used (k : Job) (t : State) : Prop :=
      if more then JobGoesOn (next k .burst after) true s t else JobEnded j (k.result .none j.unitAddress) s t
    let offset := j.staging.getD 0 + (j.unitAddress - j.start)
    let runs (unit : JobUnit) : Prop := c.arb.holder = .engine ∧ j.unit = unit ∧ j.probeAck = none
    let going : Prop := j.phase ≠ .ending ∧ j.endingCause = none
    (j.phase = .ending → ∀ i : Instr,
        ((∃ r, i = .chunkEnd r ∧ runs .chunk) ∨ (∃ r, i = .burstEnd r ∧ runs .burst)
            ∨ (i = .dStopComplete j.chan ∧ c.arb.holder = .engine ∧ j.probeAck.isSome = true)) →
          ∃ t : State, exec i s = .next t
            ∧ JobEnded j (j.result (j.endingCause.getD .none) j.unitAddress) s t ∧ t.engine.staging = s.engine.staging)
      ∧ (going → runs .chunk →
        (∃ t : State, exec (.chunkEnd .complete) s = .next t ∧ JobGoesOn { j with
            phase := .poll, unit := .probe, attempt := 1, pollTimer := some ⟨0, j.pollLimit * 1000⟩
            pollExpired := false } true s t)
        ∧ (∃ t : State, exec (.chunkEnd .addressNack) s = .next t ∧ fails .addressNack t)
        ∧ (∃ t : State, exec (.chunkEnd .dataNack) s = .next t ∧ fails .dataNack t))
      ∧ (runs .probe → ∀ bit,
        let k : Job := { j with done := j.done + 1, pollTimer := none, pollExpired := false }
        let w : Job :=
          if bit = .ack ∧ j.pollExpired = false ∧ j.phase ≠ .ending then
            if more then { next k .chunk after with phase := .write }
            else if j.verify = true then { next k .burst j.start with phase := .verify }
            else k
          else j
        ∃ t : State, exec (.probeEnd bit) s = .next t
          ∧ OnlyChannel j.chan { s with engine := { s.engine with job := some { w with probeAck := some bit } } } t
          ∧ (t.chan j.chan).dOp = .stop false ∧ (t.chan j.chan).arb = c.arb
          ∧ (t.chan j.chan).dSpan = (c.latched.getD c.plan).low + (c.latched.getD c.plan).high
          ∧ (t.chan j.chan).pull = { c.pull with d := ⟨false, false⟩ } ∧ (t.chan j.chan).exch = c.exch
          ∧ (t.chan j.chan).phase = c.phase ∧ (t.chan j.chan).health = c.health)
      ∧ (∀ bit, going → c.arb.holder = .engine → j.probeAck = some bit →
        ∃ t : State, exec (.dStopComplete j.chan) s = .next t
          ∧ (if j.pollExpired = true then JobEnded j (j.result .pollTimeout j.unitAddress) s t
            else if j.phase = .poll ∧ bit = .ack then JobEnded j (j.result .none j.unitAddress) s t
            else JobGoesOn { j with probeAck := none } true s t))
      ∧ (going → runs .burst →
        (∃ t : State, exec (.burstEnd .addressNack) s = .next t ∧ fails .addressNack t ∧ t.engine.burst = [])
        ∧ (∃ t : State, exec (.burstEnd .dataNack) s = .next t ∧ fails .dataNack t ∧ t.engine.burst = [])
        ∧ ∀ bytes : List Byte, bytes.length = j.unitLength →
          let run := (List.range j.unitLength).map fun i => memRead s.engine.staging (offset + i)
          let k : Job := { j with
            sumA := (bytes.foldl add (j.sumA, j.sumB)).1, sumB := (bytes.foldl add (j.sumA, j.sumB)).2
            done := j.done + 1 }
          ∃ t : State, exec (.burstEnd (.complete bytes)) s = .next t ∧ t.engine.burst = []
            ∧ (j.kind ≠ .read → t.engine.staging = s.engine.staging)
            ∧ (j.kind = .write → bytes = run → used j t)
            ∧ (j.kind = .write → ∀ i, i < bytes.length → bytes.take i = run.take i → bytes[i]? ≠ run[i]? →
                JobEnded j (j.result .verifyMismatch (j.unitAddress + i)) s t)
            ∧ (j.kind = .read → t.engine.staging = memWriteList s.engine.staging offset bytes ∧ used k t)
            ∧ (j.kind = .check → used k t))
      ∧ (∀ m, j.phase = .poll → j.endingCause = none → j.pollTimer = some m → m.limit ≤ m.elapsed →
        (c.arb.holder = .engine → exec .pollLimitExpiry s = .next { s with
          engine := { s.engine with job := some { j with pollExpired := true } } })
        ∧ (c.arb.holder ≠ .engine → ∃ t : State, exec .pollLimitExpiry s = .next t
          ∧ JobEnded j (j.result .pollTimeout j.unitAddress) s t))

/-- SUPPLY CONFIG writes the settings it carries, brought into range, or refuses the request whole; where
follow-supply makes a channel's target mode ISOLATED it is ISOLATED at once, with its records (log entry 14; of
two channels in either order, log entry 13), and a job on it ends with cause SUPPLY_OFF, or with its ending
cause. POWER ON in OFF enters RAMPING with the settle time counted, the RAMP claim when reset-during-ramp is
yes, and the filter measured when the input is active. POWER OFF in RAMPING enters OFF. The settle time elapsed,
the state is ON and the RAMP claim gone. CLEAR TRIP in TRIPPED enters OFF with the input inactive and is
STILL_ACTIVE otherwise. Each change of state hands its EVENT record and raises SUPPLY. In the other states the
requests answer as R178's table has it and change nothing; a refused one carries no results (R191), its status
alone telling the state (log entry 17). OCSENSE_CHANGE starts and cancels the filter measurement. (R177, R178,
R179, R184, R176, R9, R172, R182, R183) -/
def Obligations.SupplyRequests : Prop :=
  ∀ (s : State) (tag : Byte),
    let p := s.supply
    let moved (q : Supply) : State :=
      (({ s with supply := q } : State).hand none (.event (.supply q.state))).raise .supply
    let w (l : List (Byte × Half)) (k : Nat) : Option Nat :=
      (l.find? fun x => decide (x.1.toNat = k)).map fun x => x.2.toNat
    (Ready s → ∀ l : List (Byte × Half),
      let fair : Prop := l ≠ [] ∧ (l.map Prod.fst).Nodup ∧ (∀ x ∈ l, x.1.toNat < 6)
        ∧ (∀ x ∈ l, x.1 = 1 → x.2.toNat ∈ [16, 64, 256, 1024])
        ∧ (∀ x ∈ l, (x.1 = 3 ∨ x.1 = 4) → x.2.toNat < 2)
      let clip (hi v : Nat) : Nat := max 1 (min hi v)
      let q : SupplySettings :=
        { settle := ((w l 0).map (clip 1000)).getD p.settings.settle, filter := (w l 1).getD p.settings.filter
          quiesce := ((w l 2).map (clip 1000)).getD p.settings.quiesce
          follow := ((w l 3).map fun v => decide (v = 1)).getD p.settings.follow
          resetDuringRamp := ((w l 4).map fun v => decide (v = 1)).getD p.settings.resetDuringRamp
          pulseWidth := ((w l 5).map (clip 65535)).getD p.settings.pulseWidth }
      let off : Prop := (∃ v, w l 0 = some v ∧ clip 1000 v ≠ v) ∨ (∃ v, w l 2 = some v ∧ clip 1000 v ≠ v)
        ∨ (∃ v, w l 5 = some v ∧ clip 65535 v ≠ v)
      let u : State := { s with supply := { p with settings := q } }
      (¬ fair → exec (.supplyConfig tag l) s = .next (s.withReply ⟨tag, 0x80, .badParam, []⟩))
      ∧ (fair → ∃ (t : State) (st : Status), exec (.supplyConfig tag l) s = .next (t.withReply ⟨tag, 0x80, st,
            le16 q.settle ++ le16 q.filter ++ le16 q.quiesce ++ yesNo q.follow ++ yesNo q.resetDuringRamp
              ++ le16 q.pulseWidth⟩)
          ∧ (off → st = .adjusted) ∧ (¬ off → st = .ok) ∧ t.supply.settings = q ∧ t.supply.state = p.state
          ∧ (∀ ch, u.target ch = .isolated → (t.chan ch).mode = .isolated)
          ∧ t.log = (s.isolationsTold (fun ch =>
              decide ((s.chan ch).mode ≠ .isolated ∧ u.target ch = .isolated)) .supplyOff).log
          ∧ (∀ j, s.engine.job = some j → if (s.chan j.chan).mode ≠ .isolated ∧ u.target j.chan = .isolated then
                t.engine.job = none
                  ∧ t.engine.last = some (j.result (j.endingCause.getD .supplyOff) j.unitAddress)
              else t.engine = s.engine)
          ∧ ((∀ ch, u.target ch = .isolated → (s.chan ch).mode = .isolated) → Measured u t)))
      ∧ (Ready s → p.state = .off → exec (.powerOn tag) s = .next ((moved { p with
          state := .ramping, settleTimer := some ⟨0, p.settings.settle * 1000⟩
          claims := { p.claims with ramp := p.claims.ramp || p.settings.resetDuringRamp }
          filterTimer := if p.ocsense then some ⟨0, p.settings.filter⟩ else none }).withReply ⟨tag, 0x81, .ok, [1]⟩))
      ∧ (Ready s → p.state = .ramping ∨ p.state = .on → exec (.powerOn tag) s =
          .next (s.withReply ⟨tag, 0x81, .ok, [p.state.code]⟩))
      ∧ (Ready s → p.state = .stopping → exec (.powerOn tag) s = .next (s.withReply ⟨tag, 0x81, .busy, []⟩))
      ∧ (Ready s → p.state = .tripped → exec (.powerOn tag) s = .next (s.withReply ⟨tag, 0x81, .tripped, []⟩))
      ∧ (Ready s → p.state = .ramping → exec (.powerOff tag) s = .next ((moved { p with
          state := .off, settleTimer := none, quiesceTimer := none, filterTimer := none
          claims := { p.claims with ramp := false } }).withReply ⟨tag, 0x82, .ok, [0]⟩))
      ∧ (Ready s → p.state = .off ∨ p.state = .stopping ∨ p.state = .tripped →
          exec (.powerOff tag) s = .next (s.withReply ⟨tag, 0x82, .ok, [p.state.code]⟩))
      ∧ (Ready s → p.state = .tripped → p.ocsense = true →
          exec (.clearTrip tag) s = .next (s.withReply ⟨tag, 0x83, .stillActive, []⟩))
      ∧ (Ready s → p.state = .tripped → p.ocsense = false → exec (.clearTrip tag) s = .next ((moved { p with
          state := .off, settleTimer := none, quiesceTimer := none, filterTimer := none }).withReply
            ⟨tag, 0x83, .ok, [0]⟩))
      ∧ (Ready s → p.state ≠ .tripped →
          exec (.clearTrip tag) s = .next (s.withReply ⟨tag, 0x83, .ok, [p.state.code]⟩))
      ∧ (s.inReset = false → p.state = .ramping → ∀ m, p.settleTimer = some m → m.limit ≤ m.elapsed →
          ∃ t : State, exec .settleTimeElapsed s = .next t ∧ Measured (moved { p with
            state := .on, settleTimer := none, claims := { p.claims with ramp := false } }) t)
      ∧ (s.inReset = false → ∀ active, exec (.ocsenseChange active) s = .next { s with supply := { p with
          ocsense := active
          filterTimer := if active = true ∧ (p.state = .ramping ∨ p.state = .on ∨ p.state = .stopping) then
              some (p.filterTimer.getD ⟨0, p.settings.filter⟩)
            else none } })

/-- POWER OFF in ON enters STOPPING with the quiesce limit counted, abandons every hold with its exchange refused,
and turns a job to ENDING or ends it with cause SUPPLY_OFF, the record of the state, those of the holds and that
of the job in that order; then it makes the quiesce test (log entry 11), so with nothing in flight the state is
OFF, result QUIESCED, and the reply carries OFF. STOPPING ends OFF, result QUIESCED with no exchange in flight,
no relay grant and no job, result LIMIT at the quiesce limit; channels that follow the supply are then ISOLATED,
with the records of R9 after the SUPPLY/OFF record, and a job on one ends with its ending cause or SUPPLY_OFF. A
trip, by TRIP TEST outside TRIPPED or by the filter in a watched state, latches TRIPPED, counts, stores the tick
count and the cause, stops the three counts, removes the RAMP claim, takes every channel to ISOLATED with its
lines released and its exchange and hold ended, and aborts a job with cause FAULT, or its ending cause: in the
log SUPPLY/TRIPPED stands before the records of each channel (log entry 14; the two channels in either order,
log entry 13), and the FAULT occurrence comes after them. TRIP TEST in TRIPPED changes nothing. Conditions for
the ends not met, nothing happens (log entry 5). (R180, R181, R182, R183, R184, R172, R173, R100, R99, R9) -/
def Obligations.StoppingAndTrips : Prop :=
  ∀ (s : State) (tag : Byte),
    let p := s.supply
    let stopped (r : StopResult) (t : State) : Prop :=
      t.supply.state = .off ∧ t.supply.lastStop = r ∧ t.supply.settleTimer = none ∧ t.supply.quiesceTimer = none
        ∧ t.supply.filterTimer = none ∧ t.supply.settings = p.settings ∧ t.link.noticed .supply = true
        ∧ (p.settings.follow = true → ∀ ch, (t.chan ch).mode = .isolated)
        ∧ (∀ ch, (s.chan ch).mode ≠ .isolated → (t.chan ch).mode = .isolated →
            (t.chan ch).pull = .released ∧ (t.chan ch).exch = none ∧ (t.chan ch).hold = none)
    let off : State := { s with supply := { p with state := .off } }
    let leaves (ch : Chan) : Bool := decide ((s.chan ch).mode ≠ .isolated ∧ off.target ch = .isolated)
    let told (t : State) : Prop :=
      t.log = ((s.hand none (.event (.supply .off))).isolationsTold leaves .supplyOff).log
        ∧ (∀ j, s.engine.job = some j → if leaves j.chan = true then t.engine.job = none
              ∧ t.engine.last = some (j.result (j.endingCause.getD .supplyOff) j.unitAddress)
            else t.engine = s.engine)
        ∧ (s.engine.job = none → t.engine = s.engine)
        ∧ (s.ch0.mode = .isolated → s.ch1.mode = .isolated → t.supply.claims = p.claims)
    let stopping : State := (s.hand none (.event (.supply .stopping))).toldBoth (fun ch => (s.chan ch).hold.isSome)
      fun ch t => t.handAll (some ch) (s.chan ch).abandonedRecords
    let waits : State := match s.engine.job with
      | none => stopping
      | some j => if j.phase ≠ .ending ∧ (s.chan j.chan).arb.holder ≠ .engine then
          ({ stopping with engine := { s.engine with job := some { j with endingCause := none } } } : State).jobTold
            j.chan .supplyOff
        else stopping
    let quiesced : Prop := (∀ ch, (s.chan ch).exch = none ∧ (s.chan ch).arb.holder ≠ .relay)
      ∧ ∀ j, s.engine.job = some j → j.phase ≠ .ending ∧ (s.chan j.chan).arb.holder ≠ .engine
    let trips (cause : TripCause) (t : State) : Prop :=
      t.supply.state = .tripped ∧ t.supply.tripCount = min 4294967295 (p.tripCount + 1) ∧ t.supply.tripTime = s.tick
        ∧ t.supply.lastCause = cause ∧ t.supply.lastStop = p.lastStop ∧ t.supply.settleTimer = none
        ∧ t.supply.quiesceTimer = none ∧ t.supply.filterTimer = none ∧ t.supply.claims.ramp = false
        ∧ t.supply.settings = p.settings ∧ t.supply.switchClosed = false ∧ t.link.noticed .supply = true
        ∧ (∀ ch, (t.chan ch).mode = .isolated ∧ ((s.chan ch).mode ≠ .isolated →
            (t.chan ch).pull = .released ∧ (t.chan ch).exch = none ∧ (t.chan ch).hold = none
              ∧ (t.chan ch).park = false))
        ∧ (∀ j, s.engine.job = some j → (s.chan j.chan).mode ≠ .isolated → t.engine.job = none
            ∧ t.engine.last = some (j.result (j.endingCause.getD .fault) j.unitAddress))
        ∧ t.log = (((s.hand none (.event (.supply .tripped))).isolationsTold
            (fun ch => decide ((s.chan ch).mode ≠ .isolated)) .fault).occur .fault none).log
    (Ready s → p.state = .on → quiesced → ∃ t : State,
          exec (.powerOff tag) s = .next (t.withReply ⟨tag, 0x82, .ok, [0]⟩) ∧ stopped .quiesced t
        ∧ t.engine.job = none ∧ (∀ j, s.engine.job = some j → t.engine.last = some (j.result .supplyOff j.unitAddress))
        ∧ (s.engine.job = none → t.engine = s.engine) ∧ (∀ ch, (t.chan ch).hold = none)
        ∧ (s.ch0.hold = none → s.ch1.hold = none →
            t.log = ((waits.hand none (.event (.supply .off))).isolationsTold leaves .supplyOff).log))
      ∧ (Ready s → p.state = .on → ¬ quiesced → ∃ t : State, exec (.powerOff tag) s = .next (t.withReply ⟨tag, 0x82, .ok, [3]⟩)
        ∧ t.supply.state = .stopping ∧ t.supply.quiesceTimer = some ⟨0, p.settings.quiesce * 1000⟩
        ∧ t.supply.lastStop = p.lastStop ∧ t.link.noticed .supply = true ∧ t.log = waits.log
        ∧ (∀ ch, (t.chan ch).hold = none ∧ (t.chan ch).mode = (s.chan ch).mode
            ∧ (∀ h x, (s.chan ch).hold = some h → (s.chan ch).exch = some x → (t.chan ch).phase = .refused
                ∧ (t.chan ch).pull.c = ⟨false, false⟩
                ∧ (h.origin.atIndex = false → RefusedAs .busy x (t.chan ch))))
        ∧ (∀ j, s.engine.job = some j → j.phase ≠ .ending →
            ((s.chan j.chan).arb.holder = .engine →
              t.engine.job = some { j with phase := .ending, endingCause := some .supplyOff })
            ∧ ((s.chan j.chan).arb.holder ≠ .engine → t.engine.job = none
              ∧ t.engine.last = some (j.result .supplyOff j.unitAddress)))
        ∧ (∀ j, s.engine.job = some j → j.phase = .ending → t.engine = s.engine))
      ∧ (s.inReset = false → p.state = .stopping → s.engine.job = none →
          (∀ ch, (s.chan ch).exch = none ∧ (s.chan ch).arb.holder ≠ .relay) →
          ∃ t : State, exec .stoppingQuiesced s = .next t ∧ stopped .quiesced t ∧ told t)
      ∧ ((p.state ≠ .stopping ∨ s.engine.job.isSome = true
          ∨ ∃ ch, (s.chan ch).exch.isSome = true ∨ (s.chan ch).arb.holder = .relay) →
          exec .stoppingQuiesced s = .next s)
      ∧ (s.inReset = false → p.state = .stopping → ∀ m, p.quiesceTimer = some m →
          (m.limit ≤ m.elapsed → ∃ t : State, exec .quiesceLimitExpiry s = .next t ∧ stopped .limit t ∧ told t)
          ∧ (m.elapsed < m.limit → exec .quiesceLimitExpiry s = .next s))
      ∧ (Ready s → p.state ≠ .tripped →
          ∃ t : State, exec (.tripTest tag) s = .next (t.withReply ⟨tag, 0x84, .ok, [4]⟩) ∧ trips .test t)
      ∧ (Ready s → p.state = .tripped → exec (.tripTest tag) s = .next (s.withReply ⟨tag, 0x84, .ok, [4]⟩))
      ∧ (s.inReset = false → (p.state = .ramping ∨ p.state = .on ∨ p.state = .stopping) → ∀ m, p.filterTimer = some m →
          (m.limit ≤ m.elapsed → ∃ t : State, exec .overcurrentFilterExpiry s = .next t ∧ trips .overcurrent t)
          ∧ (m.elapsed < m.limit → exec .overcurrentFilterExpiry s = .next s))

/-- RESET ASSERT places and RESET RELEASE removes the HOST claim; RESET PULSE stores a carried width, 0 as 1 with
ADJUSTED, starts or restarts the pulse timer for the stored width and places the PULSE claim; each answers the
claims and the TRST level, LOW while a claim is present. When the timer has run its width, it stops and the
PULSE claim is removed. SUPPLY STATUS answers the controller's state and changes nothing. The claims byte and
the layouts are log entry 18's; that OCSENSE is sent as 1 while active and 0 otherwise, and TRST LOW as 0, is
log entry 16, the former the model's choice; the pulse time remaining in ms rounded down is log entry 47. (R185,
R186, R187) -/
def Obligations.ResetLine : Prop :=
  ∀ (s : State) (tag : Byte),
    let p := s.supply
    let shown (c : Claims) : List Byte :=
      [BitVec.ofNat 8 ((if c.host then 1 else 0) + (if c.pulse then 2 else 0) + (if c.ramp then 4 else 0)
          + (if c.job then 8 else 0)),
        if c.host = true ∨ c.pulse = true ∨ c.ramp = true ∨ c.job = true then 0 else 1]
    let left (m : Option Timer) : List Byte := match m with
      | none => [0]
      | some m => 1 :: le16 ((m.limit - m.elapsed) / 1000)
    (Ready s → exec (.resetAssert tag) s =
        .next (({ s with supply := { p with claims := { p.claims with host := true } } } : State).withReply
          ⟨tag, 0x85, .ok, shown { p.claims with host := true }⟩))
      ∧ (Ready s → exec (.resetRelease tag) s =
        .next (({ s with supply := { p with claims := { p.claims with host := false } } } : State).withReply
          ⟨tag, 0x86, .ok, shown { p.claims with host := false }⟩))
      ∧ (Ready s → ∀ width : Option Half,
        let n := (width.map fun v => max 1 v.toNat).getD p.settings.pulseWidth
        exec (.resetPulse tag width) s = .next (({ s with supply := { p with
            settings := { p.settings with pulseWidth := n }, claims := { p.claims with pulse := true }
            pulseTimer := some ⟨0, n * 1000⟩ } } : State).withReply
          ⟨tag, 0x87, if width = some 0 then .adjusted else .ok, shown { p.claims with pulse := true }⟩))
      ∧ (s.inReset = false → ∀ m, p.pulseTimer = some m → m.limit ≤ m.elapsed →
        exec .resetPulseEnd s = .next { s with supply := { p with
          pulseTimer := none, claims := { p.claims with pulse := false } } })
      ∧ (Ready s → exec (.supplyStatus tag) s = .next (s.withReply ⟨tag, 0x88, .ok,
          [p.state.code] ++ yesNo (decide (p.state = .tripped)) ++ yesNo p.ocsense ++ yesNo p.filterTimer.isSome
            ++ left p.settleTimer ++ left p.quiesceTimer ++ le32 p.tripCount ++ le32 p.tripTime.toNat
            ++ [p.lastCause.code, p.lastStop.code] ++ le16 p.settings.settle ++ le16 p.settings.filter
            ++ le16 p.settings.quiesce ++ yesNo p.settings.follow ++ yesNo p.settings.resetDuringRamp
            ++ le16 p.settings.pulseWidth ++ shown p.claims ++ left p.pulseTimer⟩))

/-- The console text is handed to the log first; then, where the exchange carries the record mark, one EXCHANGE
record with its address, direction, disposition, entry, address ack, end kind, duration, byte count, first
NACKed position and shown bytes; then the image's write window begins where a byte was stored; then the health
monitor takes a clean exchange where it was neither aborted nor misframed: the clean run rises, at the clear
threshold both counts are 0, and while DEGRADED at the recover threshold DEGRADED clears, with its EVENT record,
HEALTHn unless the trip is latched or a line is stuck, fallback owed no, and the fallback flag cleared under
return-on-recover; the five counters that apply rise; and each reference on an entry is released, with the
pending copy promoted at reference count 0. The phase, the lines, the mode, the other channel, the engine and
the supply stay. An address ack that was not sampled is NACK (log entry 36), and a first NACKed position stops
at 65534 (log entry 40); the duration is the distance of two tick counts, mod 2^32 (log entry 43); on an image
that is BUSY already the later of the two ends stands (log entry 39). (R34, R83, R20, R107, R153, R60, R61, R70,
R145, R146, R147, R148) -/
def Obligations.ExchangeEnds : Prop :=
  ∀ (s : State) (ch : Chan) (x : Exchange) (kind : EndKind), (s.chan ch).exch = some x →
    let c := s.chan ch
    let t := s.endExchange ch kind
    let d := t.chan ch
    let bit : AckBit := if c.byteOpen = true ∧ x.count = 0 then .nack else x.addressAck.getD .nack
    let s1 := if c.console = [] then s else s.hand (some ch) (.console c.console)
    let s2 := if x.recordIt then s1.hand (some ch) (.exchange
        { address := x.address, direction := x.direction, disposition := x.disposition.getD .busy
          entry := x.addressEntry, ack := bit, endKind := kind, duration := min 65535 (s.tick - x.startTime).toNat
          count := min 65535 x.count, firstNack := x.firstNack.map (min 65534), repeats := 1, shown := x.shown })
      else s1
    let clean := kind ≠ .aborted ∧ x.misframe = false
    let run := min 63 (c.health.cleanRun + 1)
    let one (n : Nat) : Nat := min 4294967295 (n + 1)
    d.exch = none ∧ d.console = [] ∧ d.giving = none ∧ d.nextAct = none ∧ d.dOp = c.dOp ∧ d.arb = { c.arb with relayWaits := false }
      ∧ d.phase = c.phase ∧ d.pull = c.pull ∧ d.mode = c.mode ∧ d.hold = c.hold
      ∧ d.health.running = { c.health.running with
          exchanges := one c.health.running.exchanges
          addressNacks := if bit = .nack then one c.health.running.addressNacks else c.health.running.addressNacks
          denied := if x.disposition = some .denied then one c.health.running.denied else c.health.running.denied
          emulated := if x.disposition = some .emulated then one c.health.running.emulated
            else c.health.running.emulated
          bytes := min 4294967295 (c.health.running.bytes + x.count) }
      ∧ (¬ clean → t.log = s2.log ∧ t.link = s2.link ∧ d.fallback = c.fallback
          ∧ d.health = { c.health with running := d.health.running })
      ∧ (clean → c.health.degraded = false → t.log = s2.log ∧ t.link = s2.link ∧ d.fallback = c.fallback
          ∧ d.health = { c.health with
              running := d.health.running
              misframes := if s.monitor.clear ≤ run then 0 else c.health.misframes
              cleanRun := if s.monitor.clear ≤ run then 0 else run })
      ∧ (clean → c.health.degraded = true → ¬ s.monitor.recover ≤ run → t.log = s2.log ∧ t.link = s2.link
          ∧ d.fallback = c.fallback ∧ d.health = { c.health with running := d.health.running, cleanRun := run })
      ∧ (clean → c.health.degraded = true → s.monitor.recover ≤ run →
          let v := s2.hand (some ch) (.event (.degraded false))
          t.log = v.log
            ∧ t.link = (if s.supply.state = .tripped ∨ c.health.stuckC = true ∨ c.health.stuckD = true then v
                else v.raise (healthNotice ch)).link
            ∧ d.fallback = (c.fallback && !c.settings.returnOnRecover)
            ∧ d.health = { c.health with running := d.health.running, degraded := false, cleanRun := 0, owed := false })
      ∧ (∀ (k : Nat) (e : Entry), s.rules[k]? = some e →
          let n := (if x.addressEntry = some k then 1 else 0) + (if x.indexEntry = some k then 1 else 0)
          n ≤ 1 → t.rules[k]? = some (if n = 0 then e
            else if e.refs ≤ 1 then (match e.pending with
              | none => { e with refs := 0 }
              | some p => ⟨p, none, p.passCount, 0, 0⟩)
            else { e with refs := e.refs - 1 }))
      ∧ ((x.onImage = none ∨ x.stored = false) → t.images = s.images)
      ∧ (∀ (k : Fin 4) (i : Image), x.onImage = some k → x.stored = true → s.images[k.val]? = some i →
          (i.writeTime = 0 → t.images = s.images)
          ∧ (i.writeTime ≠ 0 → i.busyUntil = none → t.images = s.images.set k.val { i with
              busyUntil := some (s.tick + BitVec.ofNat 32 (i.writeTime * 1000)) })
          ∧ (∀ u, i.writeTime ≠ 0 → i.busyUntil = some u → t.images =
              if 2147483648 ≤ (s.tick - u).toNat ∧ i.writeTime * 1000 % 4294967296 < (u - s.tick).toNat then s.images
              else s.images.set k.val { i with
                busyUntil := some (s.tick + BitVec.ofNat 32 (i.writeTime * 1000)) }))
      ∧ t.chan (other ch) = s.chan (other ch) ∧ t.engine = s.engine ∧ t.supply = s.supply ∧ t.tick = s.tick

/-- In ISOLATED and in power-on reset a condition moves the levels only (log entry 35); while the part holds the
clock low none can arrive, but one in the clock-high of the last sampled bit can (log entry 8). With sync
UNKNOWN a START makes the side busy and a STOP makes it free and SYNCED, and no exchange begins or ends; on a
side already free by time sync stays as it was (log entry 44). With STUCK_C declared and sync SYNCED the same,
but a condition inside a byte is a misframe, which belongs to no exchange. While a D-side acknowledge bit is
being finished, a condition at a byte boundary is kept for its end, and what follows joins it, with whether it
fell inside a byte and its tick; one inside a byte is a misframe taken at once, and not one of the exchange in
flight, which the kept condition before it ends (log entry 38). Otherwise a condition at a byte boundary ends
the exchange with RESTART or STOP, and one inside a byte is a misframe, taken as R144 to R148 give, that ends it
ABORTED: the log, the link, the rule table, the images and the health are those of the misframe and the end
after it. A START then begins an address byte with the present tick count as its start time, a STOP leaves the
side free, and an open relay grant is closed by a STOP or, for a misframe, by the closing pulses, which fall in
the transaction that a START goes on with (log entry 25). The relay's grant is kept until then. A bus-free point
that a MODE_CHANGE may use falls with a START and comes with a STOP (log entry 12). The lines after a condition
are log entry 7. (R3, R5, R7, R13, R14, R21, R31, R32, R33, R43, R149, 08_bus_health_and_statistics.md) -/
def Obligations.ConditionsOnTheCSide : Prop :=
  ∀ (s : State) (ch : Chan) (k : Cond) (bits : Nat),
    let i : Instr := match k with
      | .start => .cStart ch bits
      | .stop => .cStop ch bits
    let c := s.chan ch
    let inByte : Prop := c.byteOpen = true ∨ bits ≠ 0
    let low : Prop := c.pull.c.clock = true ∧ c.highPhase = false
    let live : Prop := s.inReset = false ∧ c.mode ≠ .isolated ∧ ¬ low
    let synced : Prop := c.sync = .synced
    let kept : Prop := c.deferred ≠ [] ∨ (c.dOp = .readAck ∧ ¬ inByte)
    let lines : Lines :=
      { c := ⟨decide (k = .start), false⟩, d := if c.mode = .monitor then ⟨false, false⟩ else c.ext.d }
    let loose : DOp := match c.dOp with
      | .stop _ => .stop false
      | .closing _ => .closing false
      | op => op
    let misframed (inExch : Bool) (u : State) : Prop := (inByte → MisframeTaken ch inExch s u) ∧ (¬ inByte → u = s)
    let plain (d : Channel) (m : Meters) : Channel := match k with
      | .start => { d with
          ext := lines, dataTold := false, highPhase := false, cFree := false, freePoint := false, byteOpen := false
          noted := false
          meters := m }
      | .stop => { d with
          ext := lines, dataTold := false, highPhase := false, highData := false
          pull := { c.pull with c := ⟨false, false⟩ }
          phase := .free, byteOpen := false, noted := false, dOp := loose, cFree := true
          freePoint := if c.cFree then c.freePoint else true, sync := if c.cFree then c.sync else .synced, meters := m }
    let kind : EndKind := if c.byteOpen || decide (bits ≠ 0) then .aborted else if k = .start then .restart else .stop
    ((s.inReset = true ∨ c.mode = .isolated) → ∃ t : State, exec i s = .next t ∧ OnlyChannel ch s t
        ∧ t.chan ch = { c with ext := lines, dataTold := false, meters := (t.chan ch).meters })
      ∧ (s.inReset = false → c.mode ≠ .isolated → low → ∃ t : State, exec i s = .next t ∧ Measured s t)
      ∧ (live → ¬ synced → ∃ t : State, exec i s = .next t ∧ OnlyChannel ch s t
          ∧ t.chan ch = plain c (t.chan ch).meters)
      ∧ (live → synced → c.health.stuckC = true → ∃ t u : State, exec i s = .next t ∧ misframed false u
          ∧ OnlyChannel ch u t ∧ t.chan ch = plain (u.chan ch) (t.chan ch).meters)
      ∧ (live → synced → c.health.stuckC = false → kept → ∃ t u : State, exec i s = .next t ∧ misframed false u
          ∧ OnlyChannel ch u t ∧ t.chan ch = { u.chan ch with
              ext := lines, dataTold := false, highPhase := false, highData := false
              pull := { c.pull with c := ⟨false, false⟩ }
              byteOpen := false, deferred := c.deferred ++ [.cond k (c.byteOpen || decide (bits ≠ 0)) s.tick]
              meters := (t.chan ch).meters })
      ∧ (live → synced → c.health.stuckC = false → ¬ kept → ∃ t u : State, exec i s = .next t ∧ misframed true u
          ∧ EndsAs ch (u.endExchange ch kind) t ∧ (t.chan ch).exch = none
          ∧ (t.chan ch).byteOpen = false ∧ (t.chan ch).pull.c = ⟨false, false⟩ ∧ (t.chan ch).ext = lines
          ∧ (t.chan ch).dataTold = false ∧ (t.chan ch).highPhase = false ∧ (t.chan ch).sync = .synced
          ∧ (t.chan ch).deferred = c.deferred
          ∧ (t.chan ch).settings = c.settings ∧ (t.chan ch).mode = c.mode ∧ (t.chan ch).park = c.park
          ∧ (t.chan ch).hold = c.hold ∧ (t.chan ch).latched = c.latched
          ∧ (t.chan ch).arb = { c.arb with relayWaits := c.arb.relayWaits && c.exch.isNone }
          ∧ (k = .start → (t.chan ch).phase = (if c.mode = .monitor then .observing else .address)
              ∧ (t.chan ch).startTick = s.tick ∧ (t.chan ch).cFree = false ∧ (t.chan ch).freePoint = false)
          ∧ (k = .stop → (t.chan ch).phase = .free ∧ (t.chan ch).cFree = true
              ∧ (c.cFree = false → (t.chan ch).freePoint = true))
          ∧ (c.relayOpen = true → inByte → (t.chan ch).dOp = .closing (decide (k = .start)))
          ∧ (c.relayOpen = true → ¬ inByte → (t.chan ch).dOp = (if k = .stop then .stop false else c.dOp))
          ∧ (c.relayOpen = false → (t.chan ch).dOp = (if k = .stop then loose else c.dOp))
          ∧ SameChannel (s.chan (other ch)) (t.chan (other ch))
          ∧ t = { s with ch0 := t.ch0, ch1 := t.ch1, rules := t.rules, images := t.images, log := t.log
                         link := { s.link with notices := t.link.notices } })

/-- On a channel that knows where bytes begin, the address byte opens an exchange with its address, direction and
start time; behind a START that is kept to the end of a D-side bit it is kept with it, the clock stretched (the
keeping is log entry 38, the lines between events log entry 7, the clock still high after the sampled bit log
entry 8). While STUCK_C is declared no exchange begins, and a byte is only followed to its end, so that a
condition inside it is known as one (log entry 38). In MONITOR it is observed and scanned. In ACTIVE in STOPPING
it is refused BUSY with no scan, the default record as it stands at that byte marking it (log entry 45), and the
NACK is given with the closing STOP in progress (log entry 10). Otherwise the rule table is scanned; the winner,
or the default action, decides; the winner's RECORD mark, or the default record, marks it. A HOLD entry holds
it; a park flag holds it with its action planned; without either the action is carried out. With a relay grant
open and anything but FORWARD decided, the part closes the D-side first, the clock stretched, and so where it is
closing the grant of the same transaction already (log entry 10). The clauses on the outcome are for a winner
without TRIGGER, whose occurrence RouterOccurrence describes. (R20, R21, R22, R23, R26, R31, R43, R53, R54, R88,
R92, R149) -/
def Obligations.AddressByteDecided : Prop :=
  ∀ (s : State) (ch : Chan) (byte : Byte),
    let c := s.chan ch
    let b := byte &&& c.giving.getD 0xFF
    let low := !b.getLsbD 0 && (c.dataTold || decide (b = 0))
    let lines : Lines :=
      { c := ⟨true, c.ext.c.data && low⟩, d := if c.mode = .monitor then ⟨false, c.ext.d.data && low⟩ else c.ext.d }
    s.inReset = false → c.sync = .synced → c.byteOpen = false →
    (c.health.stuckC = true → c.mode ≠ .isolated → c.pull.c.clock = false →
      ∀ i : Instr, (i = .addressByteComplete ch byte ∨ i = .dataByteComplete ch byte) →
        ∃ t : State, exec i s = .next t ∧ OnlyChannel ch s t ∧ t.chan ch = { c with
          ext := lines, dataTold := false, highPhase := true, highData := c.pull.c.data, byteOpen := true
          meters := (t.chan ch).meters })
    ∧ (c.health.stuckC = false →
    let x0 : Exchange :=
      { address := BitVec.ofNat 7 (byte.toNat / 2), direction := if byte.toNat % 2 = 1 then .read else .write
        disposition := none, action := none, addressEntry := none, indexEntry := none
        recordIt := c.settings.defaultRecord, addressAck := none, count := 0, shown := [], firstNack := none
        startTime := c.startTick, misframe := false, onImage := none, stored := false }
    let r := scanFrom (addressCandidate ch x0.address x0.direction) 0 s.rules
    let action : AddrAction := match r.winner with
      | some (_, .address _ _ a) => a
      | _ => if c.settings.defaultAction = .deny then .deny else .forward
    let x1 : Exchange := { x0 with
      action := some action, addressEntry := r.winner.map Prod.fst
      recordIt := match r.winner with
        | none => c.settings.defaultRecord
        | some (_, w) => (w.head.map fun h => h.record).getD false }
    let quiet : Prop := ∀ k w h, r.winner = some (k, w) → w.head = some h → h.trigger = false
    let holds : Prop := ∃ tm, action = .hold tm
    let timeout (tm : TimeoutAction) : HoldTimeout := match tm with
      | .forward => .forward
      | .deny => .deny
    let planned : Planned := match action with
      | .emulate k => .emulate k
      | .deny => .deny
      | .console => .console
      | _ => .forward
    let forwards : Prop := planned = .forward ∧ ¬ holds ∧ c.park = false
    let closing : Prop := c.relayOpen = true ∨ (c.arb.holder = .relay ∧ (c.dOp = .stop true ∨ c.dOp = .closing true))
    let unparked (t : State) : Prop := (∀ q ∈ s.routes, q.fits .holdStart none = false) → (t.chan ch).park = false
    let i := Instr.addressByteComplete ch byte
    (∀ l inB time, c.mode = .active → c.deferred = l ++ [.cond .start inB time] → ∃ t : State, exec i s = .next t
        ∧ OnlyChannel ch s t ∧ t.chan ch = { c with
            ext := lines, dataTold := false, highPhase := true, highData := c.pull.c.data
            pull := { c.pull with c := ⟨true, false⟩ }, byteOpen := true, deferred := c.deferred ++ [.address byte], meters := (t.chan ch).meters })
      ∧ (c.exch = none → c.deferred = [] →
      (c.mode = .monitor → c.phase = .observing → ∃ t : State, exec i s = .next t
        ∧ (t.chan ch).exch = some { x1 with disposition := some .observed } ∧ (t.chan ch).phase = .observing
        ∧ (t.chan ch).byteOpen = true ∧ (t.chan ch).pull = c.pull ∧ t.rules = r.rules
        ∧ (quiet → t.log = s.log ∧ (t.chan ch).park = c.park))
      ∧ (c.mode = .active → c.phase = .address → s.supply.state = .stopping → ∃ t : State, exec i s = .next t
        ∧ OnlyChannel ch s t ∧ RefusedAs .busy x0 (t.chan ch)
        ∧ (t.chan ch).dOp = (if c.relayOpen then .stop true else c.dOp))
      ∧ (c.mode = .active → c.phase = .address → s.supply.state ≠ .stopping → ∃ t : State, exec i s = .next t
        ∧ t.rules = r.rules ∧ (t.chan ch).byteOpen = true ∧ t.images = s.images ∧ t.engine = s.engine
        ∧ (quiet → (¬ closing ∨ forwards) →
            (∀ k w tm, r.winner = some (k, w) → action = .hold tm →
              Held ch (.entryAddress k) 0 .forward (timeout tm) x1 s t ∧ unparked t)
            ∧ (¬ holds → c.park = true → Held ch .park 0 planned .planned x1 s t ∧ unparked t)
            ∧ (¬ holds → c.park = false → Carried ch false false planned x1 s t ∧ (t.chan ch).park = false
                ∧ t.log = s.log ∧ SameChannel (s.chan (other ch)) (t.chan (other ch))))
        ∧ (quiet → closing → ¬ forwards →
            (t.chan ch).dOp = (if c.relayOpen then .stop true else c.dOp) ∧ (t.chan ch).exch = some x1
              ∧ (t.chan ch).phase = .decide ∧ (t.chan ch).pull.c = ⟨true, false⟩ ∧ t.log = s.log
              ∧ (t.chan ch).park = false
              ∧ (∀ k w tm, r.winner = some (k, w) → action = .hold tm →
                  (t.chan ch).nextAct = some (.hold (.entryAddress k) .forward (timeout tm)))
              ∧ (¬ holds → (t.chan ch).nextAct =
                  some (if c.park then .hold .park planned .planned else .apply planned))))))

/-- A grantable D-side goes, of two waiters, to the one that is not the last holder, the relay first after NONE: it
latches the clock plan and begins its address or unit, the engine with the transaction of its unit issued, as
R166 to R169 give it (a field of the model, log entry 24); a wait that ends so is a command of its own (log
entry 11). A wait that comes to the stuck limit is refused BUSY once the seen-free flag is clear, and marked
otherwise. The device's address acknowledge is shown to the C-side and opens RELAY_WRITE, RELAY_READ or, for a
NACK, REFUSED. A relayed byte ACKed is shown as ACK, one NACKed as NACK with REFUSED. A NACKed byte is noted
once (log entry 20). A byte read is given to the C-side, its first bit on CnDA and the clock released (log entry
7). After the controller's acknowledge has been driven the next byte is read, or in REFUSED the relay rests;
conditions kept to the end of the bit are then acted on as they fell (log entry 38), a START with its own tick
as the start time, and an address byte kept behind it begins its exchange. A kept condition ends the exchange in
flight, ABORTED where it fell inside a byte, whose misframe has been taken when it was recognised; the closing
after it falls in the transaction that a START goes on with and in none after a STOP (log entry 25). But for
what such an end hands on, and what an address byte kept behind a START begins, nothing but the channel changes.
Of a longer list only that it is acted on to its end is stated; its items are acted on one after the other, and
an address byte that a further condition follows is looked up and no more (log entry 38). (R23, R24, R27, R28,
R29, R31, R34, R36, R164, R21, R14, 09_the_programming_engine.md) -/
def Obligations.RelayOperations : Prop :=
  ∀ (s : State) (ch : Chan), s.inReset = false →
    let c := s.chan ch
    let relays (op : DOp) : Prop := c.arb.holder = .relay ∧ c.dOp = op
    (∀ m x, c.phase = .grantWait → c.grantWait = some m → m.limit ≤ m.elapsed → c.grantLimitTaken = false →
        c.exch = some x → ∃ t : State, exec (.grantWaitStuckLimit ch) s = .next t ∧ OnlyChannel ch s t
          ∧ (c.seenFree = false → RefusedAs .busy x (t.chan ch) ∧ (t.chan ch).arb.relayWaits = false)
          ∧ (c.seenFree = true → t.chan ch = { c with grantLimitTaken := true, meters := (t.chan ch).meters }))
      ∧ (c.grantable = true → c.arb.relayWaits = true → (c.arb.engineWaits = false ∨ c.arb.last ≠ .relay) →
        ∃ t : State, exec (.dSideGrant ch) s = .next t ∧ OnlyChannel ch s t
          ∧ (t.chan ch).arb = ⟨.relay, .relay, false, c.arb.engineWaits⟩ ∧ (t.chan ch).phase = .dAddress
          ∧ (t.chan ch).dOp = .address ∧ (t.chan ch).latched = some c.plan ∧ (t.chan ch).dFree = false
          ∧ (t.chan ch).exch = c.exch)
      ∧ (∀ j, c.grantable = true → c.arb.engineWaits = true → (c.arb.relayWaits = false ∨ c.arb.last = .relay) →
        s.engine.job = some j → ∃ t : State, exec (.dSideGrant ch) s = .next t
          ∧ OnlyChannel ch { s with engine := { s.engine with unit := t.engine.unit } } t
          ∧ UnitIs j s.engine.staging t.engine.unit
          ∧ (t.chan ch).arb = ⟨.engine, .engine, c.arb.relayWaits, false⟩ ∧ (t.chan ch).dOp = .unit
          ∧ (t.chan ch).latched = some c.plan ∧ (t.chan ch).dFree = false ∧ (t.chan ch).phase = c.phase)
      ∧ (c.grantable = true → c.arb.relayWaits = false → c.arb.engineWaits = false →
        ∃ t : State, exec (.dSideGrant ch) s = .next t ∧ Measured s t)
      ∧ (c.grantable = false → exec (.dSideGrant ch) s = .next s)
      ∧ (∀ x bit, c.exch = some x → relays .address → ∃ t : State, exec (.dAddressAck ch bit) s = .next t ∧ OnlyChannel ch s t
          ∧ (t.chan ch).phase = (if bit = .nack then .refused
              else if x.direction = .write then .relayWrite else .relayRead)
          ∧ (t.chan ch).pull = ⟨⟨false, decide (bit = .ack)⟩, ⟨true, false⟩⟩ ∧ (t.chan ch).dOp = .idle
          ∧ (t.chan ch).exch = some { x with addressAck := some bit } ∧ (t.chan ch).arb = c.arb)
      ∧ (relays .writeByte →
        (∃ t : State, exec (.dWriteByteDone ch .ack) s = .next t ∧ OnlyChannel ch s t ∧ (t.chan ch).phase = c.phase
          ∧ (t.chan ch).pull = ⟨⟨false, true⟩, ⟨true, false⟩⟩ ∧ (t.chan ch).dOp = .idle ∧ (t.chan ch).exch = c.exch)
        ∧ (∃ t : State, exec (.dWriteByteDone ch .nack) s = .next t ∧ OnlyChannel ch s t ∧ (t.chan ch).phase = .refused
          ∧ (t.chan ch).pull = ⟨⟨false, false⟩, ⟨true, false⟩⟩ ∧ (t.chan ch).dOp = .idle
          ∧ (∀ x, c.exch = some x → (t.chan ch).health.running.dataNacks = nacksAfter c c.noted x
              ∧ (t.chan ch).exch = some (if c.noted then x else { x with
                firstNack := some (x.firstNack.getD (x.count - 1)) }))))
      ∧ (∀ byte, relays .readByte → ∃ t : State, exec (.dReadByteDone ch byte) s = .next t ∧ OnlyChannel ch s t
          ∧ (t.chan ch).giving = some byte ∧ (t.chan ch).bitsOut = 1
          ∧ (t.chan ch).pull = ⟨⟨false, !byte.getLsbD 7⟩, ⟨true, false⟩⟩
          ∧ (t.chan ch).dOp = .idle ∧ (t.chan ch).exch = c.exch ∧ (t.chan ch).phase = c.phase)
      ∧ (relays .readAck → c.deferred = [] → ∃ t : State, exec (.dReadAckDone ch) s = .next t ∧ OnlyChannel ch s t
          ∧ (t.chan ch).exch = c.exch ∧ (t.chan ch).phase = c.phase ∧ (t.chan ch).arb = c.arb
          ∧ (c.phase = .relayRead → (t.chan ch).dOp = .readByte ∧ (t.chan ch).pull.c = ⟨true, false⟩)
          ∧ (c.phase ≠ .relayRead → (t.chan ch).dOp = .idle ∧ (t.chan ch).pull.d = ⟨true, false⟩))
      ∧ (∀ k brk time, relays .readAck → c.deferred = [.cond k brk time] →
        let e := s.endExchange ch (if brk then .aborted else if k = .start then .restart else .stop)
        let d := e.chan ch
        ∃ t : State, exec (.dReadAckDone ch) s = .next t ∧ EndsAs ch e t
          ∧ SameChannel (s.chan (other ch)) (t.chan (other ch))
          ∧ t = { s with ch0 := t.ch0, ch1 := t.ch1, rules := t.rules, images := t.images, log := t.log, link := t.link }
          ∧ (k = .start → t.chan ch = { d with
              deferred := [], highData := false, pull := ⟨⟨false, false⟩, ⟨!brk, false⟩⟩, byteOpen := false
              phase := if c.mode = .monitor then .observing else .address, startTick := time, noted := false
              cFree := false, freePoint := false, dOp := if brk then .closing true else .idle
              dSpan := if brk then (t.chan ch).dSpan else 0, meters := (t.chan ch).meters })
          ∧ (k = .stop → t.chan ch = { d with
              deferred := [], highData := false, pull := ⟨⟨false, false⟩, ⟨false, false⟩⟩, byteOpen := false
              phase := .free, noted := false, dOp := if brk then .closing false else .stop false
              dSpan := (t.chan ch).dSpan, cFree := true, freePoint := if c.cFree then c.freePoint else true
              sync := if c.cFree = true ∨ c.mode = .isolated then c.sync else .synced, meters := (t.chan ch).meters }))
      ∧ (relays .readAck → c.deferred ≠ [] → ∃ t : State, exec (.dReadAckDone ch) s = .next t
          ∧ (t.chan ch).deferred = [] ∧ (t.chan ch).arb.holder = .relay ∧ t.engine = s.engine ∧ t.tick = s.tick
          ∧ (t.chan (other ch)).exch = (s.chan (other ch)).exch)
      ∧ (∀ time byte, relays .readAck → c.deferred = [.cond .start false time, .address byte] →
        let e := s.endExchange ch .restart
        let r := scanFrom (addressCandidate ch (BitVec.ofNat 7 (byte.toNat / 2))
          (if byte.toNat % 2 = 1 then .read else .write)) 0 e.rules
        ∃ t : State, exec (.dReadAckDone ch) s = .next t ∧ (t.chan ch).deferred = [] ∧ (t.chan ch).byteOpen = true
          ∧ t.rules = (if c.mode ≠ .monitor ∧ s.supply.state = .stopping then e.rules else r.rules)
          ∧ t.images = e.images ∧ t.engine = s.engine ∧ t.tick = s.tick ∧ (t.chan ch).console = (e.chan ch).console
          ∧ (t.chan (other ch)).exch = (s.chan (other ch)).exch ∧ (t.chan (other ch)).pull = (s.chan (other ch)).pull
          ∧ ∃ x, (t.chan ch).exch = some x ∧ x.startTime = time ∧ x.address = BitVec.ofNat 7 (byte.toNat / 2)
            ∧ x.direction = (if byte.toNat % 2 = 1 then .read else .write) ∧ x.count = 0)

/-- A data byte is counted and, among the first 16, shown; a bit the part pulls low reads low (log entry 33). In
RELAY_WRITE the clock is stretched and the byte sent on the D-side; a byte written to an image or to the console
is ACKed. The first byte of a relayed or locally answered WRITE is scanned at the index stage first: PASS or no
winner uses it, DENY refuses it with NACK as the first NACKed byte, counted in DATA_NACKS at that moment (log
entry 20), HOLD holds the exchange. The first byte of an observed WRITE whose action reaches the index stage is
scanned and nothing more; any other byte of a read, of a refused and of an observed exchange is counted only.
The outcome of a winner with TRIGGER goes with its occurrence. With no exchange a byte changes nothing but the
channel's lines and the byte it stands in: no counter rises. The lines between events are log entries 7 and 8:
in the clock-high of the eighth bit CnDA stands as it was for that bit, and for the ninth the part releases the
data line of a byte it gave. In that clock-high no measurement of a stuck CnCK runs, and that of a CnDA told low
goes on over a byte that leaves it low: one of zeros, or one with a last bit of 0 inside which it was told low
(R149). (R20, R21, R25, R27, R42, R43, R56, R57, R72, R82, R149, R154) -/
def Obligations.DataBytes : Prop :=
  ∀ (s : State) (ch : Chan) (byte : Byte),
    let c := s.chan ch
    s.inReset = false → c.sync = .synced → c.health.stuckC = false → c.mode ≠ .isolated → c.byteOpen = false →
    c.pull.c.clock = false → c.deferred = [] →
    let i := Instr.dataByteComplete ch byte
    let b := byte &&& c.giving.getD 0xFF
    let low := !b.getLsbD 0 && (c.dataTold || decide (b = 0))
    let opened : Channel := { c with
      ext :=
        { c := ⟨true, c.ext.c.data && low⟩, d := if c.mode = .monitor then ⟨false, c.ext.d.data && low⟩ else c.ext.d }
      dataTold := false
      pull := { c.pull with c := ⟨false, false⟩ }, highPhase := true
      highData := (match c.giving with
        | none => c.pull.c.data
        | some g => !g.getLsbD 0)
      byteOpen := true, noted := false, curByte := b }
    let measured (t : State) : Prop := (t.chan ch).meters.stuckClock = none
      ∧ (low = true → opened.highData = false → c.ext.c.data = true → c.hold = none →
        (t.chan ch).meters.stuckData = some (c.meters.stuckData.getD ⟨0, c.settings.stuckLimit * 1000⟩))
    (c.phase = .refused → c.exch = none → ∃ t : State, exec i s = .next t ∧ OnlyChannel ch s t
        ∧ t.chan ch = { opened with meters := (t.chan ch).meters } ∧ measured t)
      ∧ ∀ x, c.exch = some x →
      let y : Exchange := { x with
        count := x.count + 1, shown := if x.shown.length < 16 then x.shown ++ [b] else x.shown }
      let plain (t : State) (f : Channel) : Prop := OnlyChannel ch s t ∧ measured t
        ∧ t.chan ch = { f with exch := some y, meters := (t.chan ch).meters }
      let r := scanFrom (indexCandidate ch x.address b) 0 s.rules
      let z : Exchange := { y with
        indexEntry := r.winner.map Prod.fst
        recordIt := x.recordIt || (match r.winner with
          | none => false
          | some (_, w) => (w.head.map fun h => h.record).getD false) }
      let quiet : Prop := ∀ k w h, r.winner = some (k, w) → w.head = some h → h.trigger = false
      let reaches : Prop := x.count = 0 ∧ x.direction = .write
        ∧ (x.action = some .forward ∨ (∃ k, x.action = some (.emulate k)) ∨ x.action = some .console)
      ((c.phase = .relayRead ∨ c.phase = .refused ∨ (c.phase = .localAnswer ∧ x.direction = .read)
          ∨ (c.phase = .observing ∧ ¬ reaches)) →
        ∃ t : State, exec i s = .next t ∧ plain t opened)
      ∧ (c.phase = .observing → reaches → ∃ t : State, exec i s = .next t ∧ t.rules = r.rules
          ∧ (t.chan ch).exch = some z ∧ (t.chan ch).phase = .observing ∧ (t.chan ch).byteOpen = true
          ∧ (t.chan ch).curByte = b ∧ (t.chan ch).pull = { c.pull with c := ⟨false, false⟩ }
          ∧ (quiet → OnlyChannel ch { s with rules := r.rules } t
              ∧ t.chan ch = { opened with exch := some z, meters := (t.chan ch).meters }))
      ∧ (c.phase = .relayWrite → x.count ≠ 0 → ∃ t : State, exec i s = .next t ∧ plain t { opened with
          dOp := .writeByte, dSpan := (t.chan ch).dSpan, pull := ⟨⟨true, false⟩, ⟨false, false⟩⟩ })
      ∧ (c.phase = .localAnswer → x.direction = .write → x.count ≠ 0 → ∃ t : State, exec i s = .next t
          ∧ plain t { opened with pull := { c.pull with c := ⟨false, true⟩ } })
      ∧ ((c.phase = .relayWrite ∨ (c.phase = .localAnswer ∧ x.direction = .write)) → x.count = 0 →
        ∃ t : State, exec i s = .next t ∧ t.rules = r.rules ∧ (t.chan ch).byteOpen = true ∧ (t.chan ch).curByte = b
          ∧ (quiet →
            ((r.winner = none ∨ ∃ k h v m, r.winner = some (k, .index h v m .pass)) →
              Carried ch true false .resume z s t ∧ t.log = s.log)
            ∧ (∀ k h v m, r.winner = some (k, .index h v m .deny) → Carried ch true false .deny z s t ∧ t.log = s.log)
            ∧ (∀ k h v m tm, r.winner = some (k, .index h v m (.hold tm)) →
              Held ch (.entryIndex k) b .resume (match tm with
                | .forward => .forward
                | .deny => .deny) z s t)))

/-- The acknowledge bit is low where the part pulls the data line (log entry 33). After the address of an observed
exchange it is kept; a relayed read then asks the device for its first byte with the clock stretched; an
emulated read gives the byte at the pointer, which advances. A byte written to an image sets the pointer when it
is the first, and otherwise is stored at the pointer unless protected, with the target write count, and the
pointer advances. A byte of console text joins the buffer, which is handed to the log at a line end or at 64
bytes. The controller's acknowledge of a relayed byte is driven on the D-side, DnDA pulled low for an ACK and
released for a NACK; after an emulated byte an ACK gives the next and a NACK is REFUSED. A NACK is noted once,
when it is decided, as the first NACKed position (log entry 20). A byte of a WRITE observed under CONSOLE joins
the console buffer as one taken locally does; otherwise an observed byte and a relayed written byte leave all
but a NACK as it was. The first bit of a byte given is put on CnDA (log entry 7). Whatever the phase, the byte
is over, and till the falling edge CnDA stands as the part pulled it for that bit (R21, log entry 8). In that
clock-high no measurement of a stuck CnCK runs, and that of a CnDA told low goes on over an ACK (R149). With no
exchange in flight a bit changes the channel's lines alone. The lines another party pulls after the bit are log
entry 7. (R4, R21, R28, R29, R43, R44, R72, R73, R82, R83, R149, R154) -/
def Obligations.AcknowledgeBits : Prop :=
  ∀ (s : State) (ch : Chan) (bit : AckBit) (x : Exchange),
    let c := s.chan ch
    let low := decide (bit = .ack) || c.pull.c.data
    let lines : Lines :=
      { c := ⟨true, c.ext.c.data && low⟩, d := if c.mode = .monitor then ⟨false, c.ext.d.data && low⟩ else c.ext.d }
    let measured (t : State) : Prop := (t.chan ch).meters.stuckClock = none
      ∧ (bit = .ack → c.pull.c.data = false → c.ext.c.data = true → c.hold = none →
        (t.chan ch).meters.stuckData = some (c.meters.stuckData.getD ⟨0, c.settings.stuckLimit * 1000⟩))
    s.inReset = false → c.sync = .synced → c.mode ≠ .isolated → c.byteOpen = true →
    c.pull.c.clock = false →
    (c.exch = none → ∃ t : State, exec (.cAckComplete ch bit) s = .next t ∧ OnlyChannel ch s t ∧ t.chan ch = { c with
        ext := lines, dataTold := false, pull := { c.pull with c := ⟨false, false⟩ }, highPhase := true
        highData := c.pull.c.data, byteOpen := false, meters := (t.chan ch).meters } ∧ measured t)
    ∧ (c.health.stuckC = false → c.exch = some x →
    let b : AckBit := if c.pull.c.data then .ack else bit
    let noted : Exchange := { x with firstNack := some (x.firstNack.getD (x.count - 1)) }
    let nacked (t : State) : Prop := c.noted = false → (t.chan ch).exch = some noted
      ∧ (t.chan ch).health.running = { c.health.running with
          dataNacks := if c.settings.nackCounting = .byte ∨ x.firstNack = none
            then min 4294967295 (c.health.running.dataNacks + 1) else c.health.running.dataNacks }
    let text (t : State) : Prop := if c.curByte = 0x0A ∨ 64 ≤ c.console.length + 1 then
        (t.chan ch).console = [] ∧ t.log = (s.hand (some ch) (.console (c.console ++ [c.curByte]))).log
      else (t.chan ch).console = c.console ++ [c.curByte] ∧ t.log = s.log
    ∃ t : State, exec (.cAckComplete ch bit) s = .next t ∧ (t.chan ch).byteOpen = false ∧ (t.chan ch).mode = c.mode
      ∧ t.rules = s.rules ∧ t.engine = s.engine ∧ t.supply = s.supply
      ∧ (t.chan ch).highPhase = true ∧ (t.chan ch).highData = c.pull.c.data
      ∧ (t.chan ch).ext = lines ∧ (t.chan ch).dataTold = false ∧ measured t
      ∧ SameChannel (s.chan (other ch)) (t.chan (other ch))
      ∧ (x.count = 0 →
        (c.phase = .observing → OnlyChannel ch s t ∧ (t.chan ch).exch = some { x with addressAck := some b })
        ∧ (c.phase = .relayRead → OnlyChannel ch s t ∧ (t.chan ch).exch = some x ∧ (t.chan ch).dOp = .readByte
            ∧ (t.chan ch).pull.c = ⟨true, false⟩)
        ∧ ((c.phase = .relayWrite ∨ c.phase = .refused ∨ (c.phase = .localAnswer ∧ x.direction = .write)) →
            OnlyChannel ch s t ∧ (t.chan ch).exch = some x ∧ (t.chan ch).phase = c.phase
              ∧ (t.chan ch).pull = { c.pull with c := ⟨false, false⟩ }))
      ∧ (∀ k im, x.onImage = some k → s.images[k.val]? = some im → c.phase = .localAnswer → x.direction = .read →
        (x.count = 0 ∨ b = .ack) →
          (t.chan ch).giving = some (memRead im.contents im.pointer) ∧ (t.chan ch).bitsOut = 1 ∧ (t.chan ch).phase = .localAnswer
            ∧ (t.chan ch).pull.c = ⟨false, !(memRead im.contents im.pointer).getLsbD 7⟩
            ∧ (t.chan ch).exch = some x
            ∧ t.images = s.images.set k.val { im with pointer := (im.pointer + 1) % im.size } ∧ t.log = s.log)
      ∧ (∀ k im, x.onImage = some k → s.images[k.val]? = some im → c.phase = .localAnswer → x.direction = .write →
        t.log = s.log
          ∧ (x.count = 1 → t.images = s.images.set k.val { im with pointer := c.curByte.toNat % im.size }
              ∧ (t.chan ch).exch = some x)
          ∧ (2 ≤ x.count → im.protect.getLsbD im.pointer = true →
              t.images = s.images.set k.val { im with pointer := (im.pointer + 1) % im.size }
                ∧ (t.chan ch).exch = some x)
          ∧ (2 ≤ x.count → im.protect.getLsbD im.pointer = false →
              t.images = s.images.set k.val { im with
                  contents := memWrite im.contents im.pointer c.curByte
                  writeCount := min 65535 (im.writeCount + 1), pointer := (im.pointer + 1) % im.size }
                ∧ (t.chan ch).exch = some { x with stored := true }))
      ∧ (x.count ≠ 0 → x.onImage = none → c.phase = .localAnswer → x.direction = .write → t.images = s.images
        ∧ (t.chan ch).exch = some x ∧ text t)
      ∧ (x.count ≠ 0 → c.phase = .relayWrite → OnlyChannel ch s t ∧ (t.chan ch).exch = some x
          ∧ (t.chan ch).phase = .relayWrite ∧ (t.chan ch).pull = { c.pull with c := ⟨false, false⟩ }
          ∧ (t.chan ch).dOp = c.dOp ∧ (t.chan ch).health = c.health)
      ∧ (x.count ≠ 0 → (c.phase = .relayRead ∨ (c.phase = .localAnswer ∧ x.direction = .read)) → b = .nack →
          OnlyChannel ch s t ∧ (t.chan ch).phase = .refused ∧ (t.chan ch).giving = none ∧ nacked t)
      ∧ (x.count ≠ 0 → c.phase = .relayRead → (t.chan ch).dOp = .readAck ∧ (t.chan ch).pull.d = ⟨false, decide (b = .ack)⟩
          ∧ (b = .ack → OnlyChannel ch s t ∧ (t.chan ch).exch = some x ∧ (t.chan ch).pull.c = ⟨true, false⟩
            ∧ (t.chan ch).phase = .relayRead))
      ∧ (x.count ≠ 0 → c.phase = .refused → OnlyChannel ch s t ∧ (b = .nack → nacked t)
          ∧ (b = .ack → (t.chan ch).exch = some x))
      ∧ (x.count ≠ 0 → c.phase = .observing → (t.chan ch).phase = .observing ∧ t.images = s.images
          ∧ (t.chan ch).pull = { c.pull with c := ⟨false, false⟩ } ∧ (b = .nack → nacked t)
          ∧ (b = .ack → (t.chan ch).exch = some x)
          ∧ (if x.action = some .console ∧ x.direction = .write then text t
            else OnlyChannel ch s t ∧ (t.chan ch).console = c.console)))

/-- A closing STOP that is made leaves the D-side free and the grant given up, and what the address stage kept for
after it is begun (log entry 10). A STOP that fails is followed by the closing pulses. When the closing pulses
fail, or arbitration is lost, the grant is dropped with the lines released and the seen-free flag cleared: for
the relay ARB_LOSSES rises, where sync is SYNCED a misframe is taken as R144 to R148 give (log entry 46), and
then the exchange an operation belongs to ends ABORTED, handed on as R34 gives, and shows its controller
REFUSED, while a closing whose transaction has ended belongs to none (log entry 25), and a misframe of failed
closing pulses to no exchange; for the engine the unit is tried again or the job ends ARB_LOST, a probe is
repeated or the job ends as its limit and its acknowledge bit have it, and in ENDING the job ends. A D-stretch
timeout raises DSTRETCH_TIMEOUTS, drops the grant or fails the bus clear, declares STUCK_D and with a new
declaration fails a job on the channel, fails the job of the engine's own unit also while STUCK_D stands (log
entry 23), and then, for the relay, takes a misframe and ends the exchange as an arbitration loss does: the
EVENT record of STUCK_D, the JOB record, what the misframe hands and the exchange's records stand in the log in
that order. That STUCK_D makes the D-side busy is log entry 49. Its measurement is log entry 32 and its order
log entry 34. A probe in its STOP is log entry 24. (R13, R14, R33, R34, R39, R40, R41, R42, R150, R26,
08_bus_health_and_statistics.md, 09_the_programming_engine.md) -/
def Obligations.DSideFails : Prop :=
  ∀ (s : State) (ch : Chan), s.inReset = false →
    let c := s.chan ch
    let up (n : Nat) : Nat := min 4294967295 (n + 1)
    let closes : Prop := c.arb.holder = .relay ∧ ∃ same, c.dOp = .stop same ∨ c.dOp = .closing same
    let owned : Bool := match c.dOp with
      | .address => true
      | .writeByte => true
      | .readByte => true
      | .readAck => true
      | .stop same => same
      | .closing same => same
      | _ => false
    let dropped (t : State) : Prop := (t.chan ch).arb.holder = .none ∧ (t.chan ch).seenFree = false
      ∧ (t.chan ch).dFree = false ∧ (t.chan ch).pull.d = ⟨false, false⟩
    let gone (t : State) : Prop := (t.chan ch).exch = none ∧ (t.chan ch).phase = .refused
      ∧ (t.chan ch).pull.c = ⟨false, false⟩
    let fallen (h : Health) : Channel := { c with
      pull := { c.pull with d := ⟨false, false⟩ }, dOp := .idle, dSpan := 0, arb := { c.arb with holder := .none }
      seenFree := false, dFree := false, health := h }
    let lossy : State := s.setChan ch (fallen { c.health with
      running := { c.health.running with arbLosses := up c.health.running.arbLosses } })
    let kept (t : State) : Prop := (t.chan ch).exch = c.exch ∧ (t.chan ch).phase = c.phase
      ∧ (t.chan ch).pull.c = c.pull.c
    let elsewhere (t : State) : Prop := t.engine = s.engine ∧ t.supply = s.supply ∧ t.tick = s.tick
      ∧ SameChannel (s.chan (other ch)) (t.chan (other ch))
    let lost (j : Job) (t : State) : Prop :=
      if j.phase = .ending then JobEnded j (j.result (j.endingCause.getD .none) j.unitAddress) s t
      else if j.unit = .probe ∨ j.probeAck.isSome = true then
        if j.pollExpired = true then JobEnded j (j.result .pollTimeout j.unitAddress) s t
        else if j.phase = .poll ∧ j.probeAck = some .ack then JobEnded j (j.result .none j.unitAddress) s t
        else JobGoesOn { j with probeAck := none } false s t
      else if j.attempt < 3 then JobGoesOn { j with attempt := j.attempt + 1 } false s t
      else JobEnded j (j.result .arbLost j.unitAddress) s t
    (closes → c.nextAct = none → ∃ t : State, exec (.dStopComplete ch) s = .next t ∧ OnlyChannel ch s t
        ∧ (t.chan ch).arb = { c.arb with holder := .none } ∧ (t.chan ch).dOp = .idle
        ∧ (t.chan ch).pull = { c.pull with d := ⟨false, false⟩ } ∧ (t.chan ch).dFree = true
        ∧ (t.chan ch).seenFree = (if c.mode = .active then true else c.seenFree) ∧ (t.chan ch).exch = c.exch
        ∧ (t.chan ch).phase = c.phase)
      ∧ (∀ x, closes → c.exch = some x →
        (∀ p, c.nextAct = some (.apply p) → p ≠ .forward → ∃ t : State, exec (.dStopComplete ch) s = .next t
          ∧ Carried ch false false p x s t ∧ (t.chan ch).arb.holder = .none ∧ (t.chan ch).dFree = true
          ∧ (t.chan ch).nextAct = none)
        ∧ (∀ origin planned timeout, c.nextAct = some (.hold origin planned timeout) → origin.atIndex = false →
          c.pull.c = ⟨true, false⟩ → ∃ t : State, exec (.dStopComplete ch) s = .next t
          ∧ Held ch origin 0 planned timeout x s t ∧ (t.chan ch).arb.holder = .none ∧ (t.chan ch).nextAct = none))
      ∧ (c.arb.holder ≠ .none → ∃ t : State, exec (.dStopFailed ch) s = .next t ∧ OnlyChannel ch s t
        ∧ t.chan ch = { c with
            dOp := match c.dOp with
              | .stop same => .closing same
              | .unit => .closing false
              | op => op
            meters := (t.chan ch).meters })
      ∧ (∀ same, c.arb.holder = .relay → c.dOp = .closing same → c.nextAct = none →
        ∃ t u : State, exec (.closePulsesFailed ch) s = .next t ∧ MisframeSeen ch false lossy u ∧ EndsAs ch u t
          ∧ dropped t ∧ elsewhere t ∧ (c.phase ≠ .grantWait → kept t)
          ∧ (∀ x, c.phase = .grantWait → c.grantLimitTaken = true → c.exch = some x → RefusedAs .busy x (t.chan ch)))
      ∧ (∀ same x, c.arb.holder = .relay → c.dOp = .closing same → c.exch = some x →
        (∀ p, c.nextAct = some (.apply p) → p ≠ .forward → ∃ t u : State, exec (.closePulsesFailed ch) s = .next t
          ∧ MisframeSeen ch false lossy u ∧ Carried ch false false p x u t ∧ (t.chan ch).nextAct = none
          ∧ t.log = u.log ∧ elsewhere t)
        ∧ (∀ origin planned timeout, c.nextAct = some (.hold origin planned timeout) → origin.atIndex = false →
          c.pull.c = ⟨true, false⟩ → ∃ t u : State, exec (.closePulsesFailed ch) s = .next t
          ∧ MisframeSeen ch false lossy u ∧ Held ch origin 0 planned timeout x u t ∧ (t.chan ch).arb.holder = .none
          ∧ (t.chan ch).nextAct = none))
      ∧ (c.arb.holder = .relay → c.dOp ≠ .idle → c.deferred = [] →
        ∃ t u : State, exec (.arbitrationLoss ch) s = .next t ∧ MisframeSeen ch owned lossy u
          ∧ EndsAs ch (if owned then u.endExchange ch .aborted else u) t ∧ dropped t ∧ elsewhere t
          ∧ (owned = true → c.exch.isSome = true → gone t)
          ∧ ((owned = false ∨ c.exch = none) → c.phase ≠ .grantWait → kept t))
      ∧ (c.arb.holder = .relay → c.dOp ≠ .idle → ∃ t : State, exec (.arbitrationLoss ch) s = .next t ∧ dropped t
          ∧ (t.chan ch).deferred = [] ∧ t.engine = s.engine ∧ t.tick = s.tick)
      ∧ (∀ j, c.arb.holder = .engine → s.engine.job = some j → j.chan = ch →
          (j.phase ≠ .ending → j.endingCause = none) → c.phase ≠ .grantWait →
        (c.dOp ≠ .idle → ∃ t : State, exec (.arbitrationLoss ch) s = .next t ∧ dropped t ∧ lost j t)
        ∧ (∀ same, c.dOp = .closing same → ∃ t : State, exec (.closePulsesFailed ch) s = .next t ∧ dropped t
          ∧ lost j t))
      ∧ (∀ m, c.meters.dStretch = some m → m.limit ≤ m.elapsed → (c.dOp ≠ .idle ∨ c.health.busClear.isSome = true) →
        let fails : Prop := c.health.stuckD = false ∨ (c.health.busClear = none ∧ c.arb.holder = .engine)
        let declared : State := if c.health.stuckD = true then s else s.hand (some ch) (.event (.stuckD true))
        let told : State := if fails then declared.jobTold ch .stuck else declared
        ∃ t : State, exec (.dStretchTimeout ch) s = .next t ∧ (t.chan ch).health.stuckD = true
          ∧ (t.chan ch).seenFree = false ∧ (t.chan ch).dFree = false
          ∧ (c.health.stuckD = false → s.supply.state ≠ .tripped → t.link.noticed (healthNotice ch) = true)
          ∧ ((c.health.busClear.isSome = true ∨ c.arb.holder ≠ .relay) → t.log = told.log ∧ t.rules = s.rules
              ∧ t.images = s.images)
          ∧ ((s.jobOn ch = false ∨ ¬ fails) → t.engine = s.engine
              ∧ (c.deferred = [] →
                (t.chan ch).health.running.dStretchTimeouts = up c.health.running.dStretchTimeouts))
          ∧ (∀ j, fails → s.engine.job = some j → j.chan = ch → t.engine.job = none
              ∧ t.engine.last = some (j.result (j.endingCause.getD .stuck) j.unitAddress))
          ∧ (c.health.busClear.isSome = true → (t.chan ch).health.lastClear = .failed)
          ∧ (c.health.busClear = none → (t.chan ch).arb.holder = .none)
          ∧ (c.health.busClear = none → c.arb.holder = .relay → c.deferred = [] →
              ¬ (c.phase = .grantWait ∧ c.grantLimitTaken = true) →
              ∃ w u : State, w.log = told.log ∧ w.rules = s.rules ∧ w.images = s.images ∧ w.tick = s.tick
                ∧ (w.chan ch).exch = c.exch ∧ (w.chan ch).console = c.console ∧ (w.chan ch).byteOpen = c.byteOpen
                ∧ (w.chan ch).sync = c.sync ∧ (w.chan ch).settings = c.settings
                ∧ (s.jobOn ch = false → OnlyChannelsAndLog s w ∧ w.chan ch = { fallen { c.health with
                    stuckD := true, busClear := (w.chan ch).health.busClear
                    running := { c.health.running with
                      dStretchTimeouts := up c.health.running.dStretchTimeouts } } with meters := (w.chan ch).meters })
                ∧ MisframeSeen ch owned w u ∧ EndsAs ch (if owned then u.endExchange ch .aborted else u) t
                ∧ (owned = true → c.exch.isSome = true → gone t)))

/-- A side whose lines have been high for the bus-free time becomes free: the C-side point gives sync outside
ISOLATED and, with no exchange, phase FREE; the D-side point sets the seen-free flag in ACTIVE. An exchange in
flight stays so at a C-side point by time, and without one the closing of its transaction belongs to none (log
entries 26 and 25). A waiting change of mode is taken: MONITOR to ACTIVE at a bus-free point with no exchange in
flight, ACTIVE to MONITOR with both sides free, no relay grant, no job, no bus clear and no hold, and from
ISOLATED after the bus-free time, which counts from before the supply's ON too (the model's choice, log entry
51); it releases the lines, drops a byte the part was giving and a wait for the grant, and hands an EVENT
record. On a watched D-side a START makes it busy and a STOP free; elsewhere only the levels move.
BUS_LINE_CHANGE moves one line as another party pulls it; one that pulls CnCK low, which through a closed bypass
switch one of DnCK is too (R2), is the falling edge that ends the clock-high of a sampled bit, and inside a byte
the part gives it puts the next bit on CnDA (R21, R28, log entries 7 and 8). A grant the relay still has open at
a C-side point by time stays open (log entry 48). That MONITOR to ACTIVE needs a point, and a point before a
change serves for none after it, is log entry 12; the D-side levels after a condition are log entry 7. (R5, R6,
R7, R10, R11, R8, R1, R21, R28, R73, R93) -/
def Obligations.BusFreeAndModes : Prop :=
  ∀ (s : State) (ch : Chan),
    let c := s.chan ch
    let due (o : Option Timer) : Prop := ∃ m, o = some m ∧ m.limit ≤ m.elapsed
    let moves (m : Mode) (t : State) : Prop := (t.chan ch).mode = m ∧ (t.chan ch).pull = .released
      ∧ (t.chan ch).phase = .free ∧ (t.chan ch).exch = c.exch ∧ (t.chan ch).settings = c.settings
      ∧ (t.chan ch).freePoint = false ∧ (t.chan ch).byteOpen = false ∧ (t.chan ch).highData = false
      ∧ (t.chan ch).health = c.health ∧ (t.chan ch).hold = c.hold
      ∧ (t.chan ch).arb = { c.arb with relayWaits := false }
      ∧ (t.chan ch).giving = none ∧ (t.chan ch).grantWait = none
      ∧ t.log = (s.hand (some ch) (.event (.mode m))).log ∧ OnlyChannelsAndLog s t
      ∧ SameChannel (s.chan (other ch)) (t.chan (other ch))
    (s.inReset = false → due c.meters.cIdle → c.cFree = false →
        ∃ t : State, exec (.busFreeTimeElapsed ch .cSide) s = .next t ∧ OnlyChannel ch s t
          ∧ t.chan ch = { c with
              cFree := true, freePoint := true, sync := if c.mode = .isolated then c.sync else .synced
              phase := if c.exch.isSome then c.phase else .free, byteOpen := c.byteOpen && c.exch.isSome
              dOp := match c.exch, c.dOp with
                | none, .stop _ => .stop false
                | none, .closing _ => .closing false
                | _, op => op
              meters := (t.chan ch).meters })
      ∧ (s.inReset = false → due c.meters.dIdle → c.dFree = false →
        ∃ t : State, exec (.busFreeTimeElapsed ch .dSide) s = .next t ∧ OnlyChannel ch s t
          ∧ t.chan ch = { c with
              dFree := true, seenFree := if c.mode = .active then true else c.seenFree, meters := (t.chan ch).meters })
      ∧ (s.inReset = false → c.exch = none → c.mode = .monitor → s.target ch = .active → c.freePoint = true →
        ∃ t : State, exec (.modeChange ch) s = .next t ∧ moves .active t ∧ (t.chan ch).seenFree = true
          ∧ (t.chan ch).dFree = true ∧ (t.chan ch).sync = c.sync)
      ∧ (s.inReset = false → c.mode = .active → s.target ch = .monitor → c.cFree = true →
        c.dFree = true → c.arb.holder ≠ .relay → s.jobOn ch = false → c.health.busClear = none →
        c.hold = none → ∃ t : State, exec (.modeChange ch) s = .next t ∧ moves .monitor t ∧ (t.chan ch).sync = c.sync)
      ∧ (s.inReset = false → c.mode = .isolated → s.target ch = .active → due c.meters.cIdle →
        ∃ t : State, exec (.modeChange ch) s = .next t ∧ moves .active t ∧ (t.chan ch).sync = .synced
          ∧ (t.chan ch).cFree = true ∧ (t.chan ch).seenFree = false ∧ (t.chan ch).dFree = false)
      ∧ (s.inReset = false → c.mode = .isolated → s.target ch = .monitor → due c.meters.cIdle →
        due c.meters.dIdle → ∃ t : State, exec (.modeChange ch) s = .next t ∧ moves .monitor t
          ∧ (t.chan ch).sync = .synced ∧ (t.chan ch).cFree = true)
      ∧ (((c.mode = .monitor ∧ (c.exch.isSome = true ∨ c.freePoint = false))
          ∨ (c.mode = .active ∧ (c.cFree = false ∨ c.dFree = false ∨ c.arb.holder = .relay ∨ s.jobOn ch = true
            ∨ c.health.busClear.isSome = true ∨ c.hold.isSome = true)) ∨ s.target ch = c.mode ∨ s.target ch = .isolated) →
        exec (.modeChange ch) s = .next s)
      ∧ (∀ k, ∃ t : State, exec (.dSideCondition ch k) s = .next t ∧ OnlyChannel ch s t
          ∧ (t.chan ch).ext = { c.ext with d := ⟨decide (k = .start), false⟩ } ∧ (t.chan ch).exch = c.exch
          ∧ (t.chan ch).phase = c.phase
          ∧ (s.inReset = false → c.mode = .active → c.arb.holder = .none →
              (k = .start → (t.chan ch).dFree = false ∧ (t.chan ch).seenFree = c.seenFree)
              ∧ (k = .stop → (t.chan ch).dFree = true ∧ (c.dFree = false → (t.chan ch).seenFree = true)))
          ∧ ((c.mode ≠ .active ∨ c.arb.holder ≠ .none) →
              (t.chan ch).dFree = c.dFree ∧ (t.chan ch).seenFree = c.seenFree))
      ∧ (∀ side line low,
        let here : Bool := decide (side = .cSide ∨ c.mode = .monitor ∨ s.inReset = true)
        let falls : Bool := here && decide (line = .clock) && low
        let shifts : Bool := falls && !c.highPhase && !c.ext.c.clock && !c.pull.c.clock && c.giving.isSome
          && !c.byteOpen && decide (c.bitsOut < 8 ∧ c.mode = .active)
        let e : Lines := if falls && c.highPhase then { c.ext with c := { c.ext.c with clock := false } } else c.ext
        ∃ t : State, exec (.busLineChange ch side line low) s = .next t ∧ OnlyChannel ch s t
          ∧ t.chan ch = { c with
              ext := (t.chan ch).ext, highPhase := c.highPhase && !falls
              dataTold := c.dataTold || (here && decide (line = .data) && low)
              bitsOut := if shifts then c.bitsOut + 1 else c.bitsOut
              pull := if shifts then { c.pull with c := ⟨false, !(c.giving.getD 0).getLsbD (7 - c.bitsOut)⟩ } else c.pull
              meters := (t.chan ch).meters }
          ∧ (t.chan ch).ext = (match side, line with
              | .cSide, .clock => { e with c := { e.c with clock := low } }
              | .cSide, .data => { e with c := { e.c with data := low } }
              | .dSide, .clock => { e with d := { e.d with clock := low } }
              | .dSide, .data => { e with d := { e.d with data := low } }))

/-- State.reset has the rule table, the images, the log, the link, the modes, the settings, the health monitor, the
supply controller, the engine and the trigger router in order. (R19, R46, R69, R105, R176, R190) -/
def Obligations.ResetInOrder : Prop :=
  State.reset.TableOk ∧ State.reset.ImagesOk ∧ State.reset.LogOk ∧ State.reset.LinkOk ∧ State.reset.IsolationOk
      ∧ State.reset.SettingsOk ∧ State.reset.HealthOk ∧ State.reset.SupplyOk ∧ State.reset.EngineOk
      ∧ State.reset.TriggersOk

/-- From every state with a table of 32 entries whose remaining passes never exceed the live copy's pass count,
every step leaves such a table; and from every state with four images in their ranges, each pointer below its
size and each contents in canonical form inside positions 0..255, every step leaves such images. (R46, R49, R61,
R69, R72, R76) -/
def Obligations.StepKeepsTableAndImages : Prop :=
  ∀ s t : State, step s = .next t → (s.TableOk → t.TableOk) ∧ (s.ImagesOk → t.ImagesOk)

/-- From every state whose log holds at most 8192 bytes with no record longer than 86, whose console buffers hold
less than 64 bytes and whose exchanges show at most 16, every step leaves such a state; and so for at most four
replies and two request frames. (R105, R106, R80, R83, R20, R191, R192) -/
def Obligations.StepKeepsLogAndLink : Prop :=
  ∀ s t : State, step s = .next t → (s.LogOk → t.LogOk) ∧ (s.LinkOk → t.LinkOk)

/-- From every state in which each channel whose target mode is ISOLATED is ISOLATED, every step leaves such a
state: no command, be it a trip, a supply request or a setting, leaves a channel on a bus it must be out of.
From every state whose channel settings are in range and whose clock plans are those of their settings, every
step leaves such a state. (R8, R9, R15, R35) -/
def Obligations.StepKeepsIsolationAndSettings : Prop :=
  ∀ s t : State, step s = .next t → (s.IsolationOk → t.IsolationOk) ∧ (s.SettingsOk → t.SettingsOk)

/-- From every state in which the settle time is counted exactly in RAMPING, the quiesce limit exactly in STOPPING,
the filter only in a watched state with the input active, the RAMP claim only in RAMPING and the PULSE claim
exactly with the pulse timer, every step leaves such a state; and from every state whose staging buffer is in
canonical form inside 4096 bytes, with a job's unit inside its range, its region inside the buffer and no
burst's bytes kept, every step leaves such a state. (R176, R179, R180, R182, R185, R158, R161, R167) -/
def Obligations.StepKeepsSupplyAndEngine : Prop :=
  ∀ s t : State, step s = .next t → (s.SupplyOk → t.SupplyOk) ∧ (s.EngineOk → t.EngineOk)

/-- From every state whose thresholds are in 1..63, whose integration counts are at most 63 and whose misframe count
is 0 while DEGRADED, every step leaves such a state; and so for the ranges of the compare slots, the TRIG-OUT
width, the edge and fire counts, and the eight routes. (R143, R144, R145, R146, R130, R134, R135, R137) -/
def Obligations.StepKeepsHealthAndTriggers : Prop :=
  ∀ s t : State, step s = .next t → (s.HealthOk → t.HealthOk) ∧ (s.TriggersOk → t.TriggersOk)
end

