-- ==== Sys2Proof/Laws/State.lean ====
section
/-! SUPPORT. One lemma per field per update of the state, so that no later proof unfolds a record update. -/

namespace Sys2Proof.Machine

variable (s : State) (ch : Chan)

/-! ### State.setChan -/

@[simp] theorem State.setChan_rules (c : Channel) : (s.setChan ch c).rules = s.rules := by cases ch <;> rfl
@[simp] theorem State.setChan_images (c : Channel) : (s.setChan ch c).images = s.images := by cases ch <;> rfl
@[simp] theorem State.setChan_log (c : Channel) : (s.setChan ch c).log = s.log := by cases ch <;> rfl
@[simp] theorem State.setChan_tick (c : Channel) : (s.setChan ch c).tick = s.tick := by cases ch <;> rfl
@[simp] theorem State.setChan_cmpA (c : Channel) : (s.setChan ch c).cmpA = s.cmpA := by cases ch <;> rfl
@[simp] theorem State.setChan_cmpB (c : Channel) : (s.setChan ch c).cmpB = s.cmpB := by cases ch <;> rfl
@[simp] theorem State.setChan_trigIn (c : Channel) : (s.setChan ch c).trigIn = s.trigIn := by cases ch <;> rfl
@[simp] theorem State.setChan_trigOut (c : Channel) : (s.setChan ch c).trigOut = s.trigOut := by cases ch <;> rfl
@[simp] theorem State.setChan_routes (c : Channel) : (s.setChan ch c).routes = s.routes := by cases ch <;> rfl
@[simp] theorem State.setChan_monitor (c : Channel) : (s.setChan ch c).monitor = s.monitor := by cases ch <;> rfl
@[simp] theorem State.setChan_engine (c : Channel) : (s.setChan ch c).engine = s.engine := by cases ch <;> rfl
@[simp] theorem State.setChan_supply (c : Channel) : (s.setChan ch c).supply = s.supply := by cases ch <;> rfl
@[simp] theorem State.setChan_link (c : Channel) : (s.setChan ch c).link = s.link := by cases ch <;> rfl
@[simp] theorem State.setChan_inReset (c : Channel) : (s.setChan ch c).inReset = s.inReset := by cases ch <;> rfl
@[simp] theorem State.setChan_freeIx (c : Channel) : (s.setChan ch c).freeIx = s.freeIx := by cases ch <;> rfl
@[simp] theorem State.setChan_pending (c : Channel) : (s.setChan ch c).pending = s.pending := by cases ch <;> rfl

/-! ### State.onChan -/

@[simp] theorem State.onChan_rules (f : Channel → Channel) : (s.onChan ch f).rules = s.rules := by cases ch <;> rfl
@[simp] theorem State.onChan_images (f : Channel → Channel) : (s.onChan ch f).images = s.images := by cases ch <;> rfl
@[simp] theorem State.onChan_log (f : Channel → Channel) : (s.onChan ch f).log = s.log := by cases ch <;> rfl
@[simp] theorem State.onChan_tick (f : Channel → Channel) : (s.onChan ch f).tick = s.tick := by cases ch <;> rfl
@[simp] theorem State.onChan_cmpA (f : Channel → Channel) : (s.onChan ch f).cmpA = s.cmpA := by cases ch <;> rfl
@[simp] theorem State.onChan_cmpB (f : Channel → Channel) : (s.onChan ch f).cmpB = s.cmpB := by cases ch <;> rfl
@[simp] theorem State.onChan_trigIn (f : Channel → Channel) : (s.onChan ch f).trigIn = s.trigIn := by cases ch <;> rfl
@[simp] theorem State.onChan_trigOut (f : Channel → Channel) : (s.onChan ch f).trigOut = s.trigOut := by cases ch <;> rfl
@[simp] theorem State.onChan_routes (f : Channel → Channel) : (s.onChan ch f).routes = s.routes := by cases ch <;> rfl
@[simp] theorem State.onChan_monitor (f : Channel → Channel) : (s.onChan ch f).monitor = s.monitor := by cases ch <;> rfl
@[simp] theorem State.onChan_engine (f : Channel → Channel) : (s.onChan ch f).engine = s.engine := by cases ch <;> rfl
@[simp] theorem State.onChan_supply (f : Channel → Channel) : (s.onChan ch f).supply = s.supply := by cases ch <;> rfl
@[simp] theorem State.onChan_link (f : Channel → Channel) : (s.onChan ch f).link = s.link := by cases ch <;> rfl
@[simp] theorem State.onChan_inReset (f : Channel → Channel) : (s.onChan ch f).inReset = s.inReset := by cases ch <;> rfl
@[simp] theorem State.onChan_freeIx (f : Channel → Channel) : (s.onChan ch f).freeIx = s.freeIx := by cases ch <;> rfl
@[simp] theorem State.onChan_pending (f : Channel → Channel) : (s.onChan ch f).pending = s.pending := by cases ch <;> rfl

/-! ### State.onHealth -/

@[simp] theorem State.onHealth_rules (f : Health → Health) : (s.onHealth ch f).rules = s.rules := by cases ch <;> rfl
@[simp] theorem State.onHealth_images (f : Health → Health) : (s.onHealth ch f).images = s.images := by cases ch <;> rfl
@[simp] theorem State.onHealth_log (f : Health → Health) : (s.onHealth ch f).log = s.log := by cases ch <;> rfl
@[simp] theorem State.onHealth_tick (f : Health → Health) : (s.onHealth ch f).tick = s.tick := by cases ch <;> rfl
@[simp] theorem State.onHealth_cmpA (f : Health → Health) : (s.onHealth ch f).cmpA = s.cmpA := by cases ch <;> rfl
@[simp] theorem State.onHealth_cmpB (f : Health → Health) : (s.onHealth ch f).cmpB = s.cmpB := by cases ch <;> rfl
@[simp] theorem State.onHealth_trigIn (f : Health → Health) : (s.onHealth ch f).trigIn = s.trigIn := by cases ch <;> rfl
@[simp] theorem State.onHealth_trigOut (f : Health → Health) : (s.onHealth ch f).trigOut = s.trigOut := by cases ch <;> rfl
@[simp] theorem State.onHealth_routes (f : Health → Health) : (s.onHealth ch f).routes = s.routes := by cases ch <;> rfl
@[simp] theorem State.onHealth_monitor (f : Health → Health) : (s.onHealth ch f).monitor = s.monitor := by cases ch <;> rfl
@[simp] theorem State.onHealth_engine (f : Health → Health) : (s.onHealth ch f).engine = s.engine := by cases ch <;> rfl
@[simp] theorem State.onHealth_supply (f : Health → Health) : (s.onHealth ch f).supply = s.supply := by cases ch <;> rfl
@[simp] theorem State.onHealth_link (f : Health → Health) : (s.onHealth ch f).link = s.link := by cases ch <;> rfl
@[simp] theorem State.onHealth_inReset (f : Health → Health) : (s.onHealth ch f).inReset = s.inReset := by cases ch <;> rfl
@[simp] theorem State.onHealth_freeIx (f : Health → Health) : (s.onHealth ch f).freeIx = s.freeIx := by cases ch <;> rfl
@[simp] theorem State.onHealth_pending (f : Health → Health) : (s.onHealth ch f).pending = s.pending := by cases ch <;> rfl

/-! ### State.tally -/

@[simp] theorem State.tally_rules (f : Stats → Stats) : (s.tally ch f).rules = s.rules := by cases ch <;> rfl
@[simp] theorem State.tally_images (f : Stats → Stats) : (s.tally ch f).images = s.images := by cases ch <;> rfl
@[simp] theorem State.tally_log (f : Stats → Stats) : (s.tally ch f).log = s.log := by cases ch <;> rfl
@[simp] theorem State.tally_tick (f : Stats → Stats) : (s.tally ch f).tick = s.tick := by cases ch <;> rfl
@[simp] theorem State.tally_cmpA (f : Stats → Stats) : (s.tally ch f).cmpA = s.cmpA := by cases ch <;> rfl
@[simp] theorem State.tally_cmpB (f : Stats → Stats) : (s.tally ch f).cmpB = s.cmpB := by cases ch <;> rfl
@[simp] theorem State.tally_trigIn (f : Stats → Stats) : (s.tally ch f).trigIn = s.trigIn := by cases ch <;> rfl
@[simp] theorem State.tally_trigOut (f : Stats → Stats) : (s.tally ch f).trigOut = s.trigOut := by cases ch <;> rfl
@[simp] theorem State.tally_routes (f : Stats → Stats) : (s.tally ch f).routes = s.routes := by cases ch <;> rfl
@[simp] theorem State.tally_monitor (f : Stats → Stats) : (s.tally ch f).monitor = s.monitor := by cases ch <;> rfl
@[simp] theorem State.tally_engine (f : Stats → Stats) : (s.tally ch f).engine = s.engine := by cases ch <;> rfl
@[simp] theorem State.tally_supply (f : Stats → Stats) : (s.tally ch f).supply = s.supply := by cases ch <;> rfl
@[simp] theorem State.tally_link (f : Stats → Stats) : (s.tally ch f).link = s.link := by cases ch <;> rfl
@[simp] theorem State.tally_inReset (f : Stats → Stats) : (s.tally ch f).inReset = s.inReset := by cases ch <;> rfl
@[simp] theorem State.tally_freeIx (f : Stats → Stats) : (s.tally ch f).freeIx = s.freeIx := by cases ch <;> rfl
@[simp] theorem State.tally_pending (f : Stats → Stats) : (s.tally ch f).pending = s.pending := by cases ch <;> rfl

/-! ### State.onExch -/

@[simp] theorem State.onExch_rules (f : Exchange → Exchange) : (s.onExch ch f).rules = s.rules := by cases ch <;> rfl
@[simp] theorem State.onExch_images (f : Exchange → Exchange) : (s.onExch ch f).images = s.images := by cases ch <;> rfl
@[simp] theorem State.onExch_log (f : Exchange → Exchange) : (s.onExch ch f).log = s.log := by cases ch <;> rfl
@[simp] theorem State.onExch_tick (f : Exchange → Exchange) : (s.onExch ch f).tick = s.tick := by cases ch <;> rfl
@[simp] theorem State.onExch_cmpA (f : Exchange → Exchange) : (s.onExch ch f).cmpA = s.cmpA := by cases ch <;> rfl
@[simp] theorem State.onExch_cmpB (f : Exchange → Exchange) : (s.onExch ch f).cmpB = s.cmpB := by cases ch <;> rfl
@[simp] theorem State.onExch_trigIn (f : Exchange → Exchange) : (s.onExch ch f).trigIn = s.trigIn := by cases ch <;> rfl
@[simp] theorem State.onExch_trigOut (f : Exchange → Exchange) : (s.onExch ch f).trigOut = s.trigOut := by cases ch <;> rfl
@[simp] theorem State.onExch_routes (f : Exchange → Exchange) : (s.onExch ch f).routes = s.routes := by cases ch <;> rfl
@[simp] theorem State.onExch_monitor (f : Exchange → Exchange) : (s.onExch ch f).monitor = s.monitor := by cases ch <;> rfl
@[simp] theorem State.onExch_engine (f : Exchange → Exchange) : (s.onExch ch f).engine = s.engine := by cases ch <;> rfl
@[simp] theorem State.onExch_supply (f : Exchange → Exchange) : (s.onExch ch f).supply = s.supply := by cases ch <;> rfl
@[simp] theorem State.onExch_link (f : Exchange → Exchange) : (s.onExch ch f).link = s.link := by cases ch <;> rfl
@[simp] theorem State.onExch_inReset (f : Exchange → Exchange) : (s.onExch ch f).inReset = s.inReset := by cases ch <;> rfl
@[simp] theorem State.onExch_freeIx (f : Exchange → Exchange) : (s.onExch ch f).freeIx = s.freeIx := by cases ch <;> rfl
@[simp] theorem State.onExch_pending (f : Exchange → Exchange) : (s.onExch ch f).pending = s.pending := by cases ch <;> rfl

/-! ### State.retime -/

@[simp] theorem State.retime_rules : (s.retime ch).rules = s.rules := by cases ch <;> rfl
@[simp] theorem State.retime_images : (s.retime ch).images = s.images := by cases ch <;> rfl
@[simp] theorem State.retime_log : (s.retime ch).log = s.log := by cases ch <;> rfl
@[simp] theorem State.retime_tick : (s.retime ch).tick = s.tick := by cases ch <;> rfl
@[simp] theorem State.retime_cmpA : (s.retime ch).cmpA = s.cmpA := by cases ch <;> rfl
@[simp] theorem State.retime_cmpB : (s.retime ch).cmpB = s.cmpB := by cases ch <;> rfl
@[simp] theorem State.retime_trigIn : (s.retime ch).trigIn = s.trigIn := by cases ch <;> rfl
@[simp] theorem State.retime_trigOut : (s.retime ch).trigOut = s.trigOut := by cases ch <;> rfl
@[simp] theorem State.retime_routes : (s.retime ch).routes = s.routes := by cases ch <;> rfl
@[simp] theorem State.retime_monitor : (s.retime ch).monitor = s.monitor := by cases ch <;> rfl
@[simp] theorem State.retime_engine : (s.retime ch).engine = s.engine := by cases ch <;> rfl
@[simp] theorem State.retime_supply : (s.retime ch).supply = s.supply := by cases ch <;> rfl
@[simp] theorem State.retime_link : (s.retime ch).link = s.link := by cases ch <;> rfl
@[simp] theorem State.retime_inReset : (s.retime ch).inReset = s.inReset := by cases ch <;> rfl
@[simp] theorem State.retime_freeIx : (s.retime ch).freeIx = s.freeIx := by cases ch <;> rfl
@[simp] theorem State.retime_pending : (s.retime ch).pending = s.pending := by cases ch <;> rfl

/-! ### State.retimeAll -/

@[simp] theorem State.retimeAll_rules : (s.retimeAll).rules = s.rules := rfl
@[simp] theorem State.retimeAll_images : (s.retimeAll).images = s.images := rfl
@[simp] theorem State.retimeAll_log : (s.retimeAll).log = s.log := rfl
@[simp] theorem State.retimeAll_tick : (s.retimeAll).tick = s.tick := rfl
@[simp] theorem State.retimeAll_cmpA : (s.retimeAll).cmpA = s.cmpA := rfl
@[simp] theorem State.retimeAll_cmpB : (s.retimeAll).cmpB = s.cmpB := rfl
@[simp] theorem State.retimeAll_trigIn : (s.retimeAll).trigIn = s.trigIn := rfl
@[simp] theorem State.retimeAll_trigOut : (s.retimeAll).trigOut = s.trigOut := rfl
@[simp] theorem State.retimeAll_routes : (s.retimeAll).routes = s.routes := rfl
@[simp] theorem State.retimeAll_monitor : (s.retimeAll).monitor = s.monitor := rfl
@[simp] theorem State.retimeAll_engine : (s.retimeAll).engine = s.engine := rfl
@[simp] theorem State.retimeAll_supply : (s.retimeAll).supply = s.supply := rfl
@[simp] theorem State.retimeAll_link : (s.retimeAll).link = s.link := rfl
@[simp] theorem State.retimeAll_inReset : (s.retimeAll).inReset = s.inReset := rfl
@[simp] theorem State.retimeAll_freeIx : (s.retimeAll).freeIx = s.freeIx := rfl
@[simp] theorem State.retimeAll_pending : (s.retimeAll).pending = s.pending := rfl

/-! ### State.onSupply -/

@[simp] theorem State.onSupply_ch0 (f : Supply → Supply) : (s.onSupply f).ch0 = s.ch0 := rfl
@[simp] theorem State.onSupply_ch1 (f : Supply → Supply) : (s.onSupply f).ch1 = s.ch1 := rfl
@[simp] theorem State.onSupply_rules (f : Supply → Supply) : (s.onSupply f).rules = s.rules := rfl
@[simp] theorem State.onSupply_images (f : Supply → Supply) : (s.onSupply f).images = s.images := rfl
@[simp] theorem State.onSupply_log (f : Supply → Supply) : (s.onSupply f).log = s.log := rfl
@[simp] theorem State.onSupply_tick (f : Supply → Supply) : (s.onSupply f).tick = s.tick := rfl
@[simp] theorem State.onSupply_cmpA (f : Supply → Supply) : (s.onSupply f).cmpA = s.cmpA := rfl
@[simp] theorem State.onSupply_cmpB (f : Supply → Supply) : (s.onSupply f).cmpB = s.cmpB := rfl
@[simp] theorem State.onSupply_trigIn (f : Supply → Supply) : (s.onSupply f).trigIn = s.trigIn := rfl
@[simp] theorem State.onSupply_trigOut (f : Supply → Supply) : (s.onSupply f).trigOut = s.trigOut := rfl
@[simp] theorem State.onSupply_routes (f : Supply → Supply) : (s.onSupply f).routes = s.routes := rfl
@[simp] theorem State.onSupply_monitor (f : Supply → Supply) : (s.onSupply f).monitor = s.monitor := rfl
@[simp] theorem State.onSupply_engine (f : Supply → Supply) : (s.onSupply f).engine = s.engine := rfl
@[simp] theorem State.onSupply_link (f : Supply → Supply) : (s.onSupply f).link = s.link := rfl
@[simp] theorem State.onSupply_inReset (f : Supply → Supply) : (s.onSupply f).inReset = s.inReset := rfl
@[simp] theorem State.onSupply_freeIx (f : Supply → Supply) : (s.onSupply f).freeIx = s.freeIx := rfl
@[simp] theorem State.onSupply_pending (f : Supply → Supply) : (s.onSupply f).pending = s.pending := rfl

/-! ### State.onLink -/

@[simp] theorem State.onLink_ch0 (f : Link → Link) : (s.onLink f).ch0 = s.ch0 := rfl
@[simp] theorem State.onLink_ch1 (f : Link → Link) : (s.onLink f).ch1 = s.ch1 := rfl
@[simp] theorem State.onLink_rules (f : Link → Link) : (s.onLink f).rules = s.rules := rfl
@[simp] theorem State.onLink_images (f : Link → Link) : (s.onLink f).images = s.images := rfl
@[simp] theorem State.onLink_log (f : Link → Link) : (s.onLink f).log = s.log := rfl
@[simp] theorem State.onLink_tick (f : Link → Link) : (s.onLink f).tick = s.tick := rfl
@[simp] theorem State.onLink_cmpA (f : Link → Link) : (s.onLink f).cmpA = s.cmpA := rfl
@[simp] theorem State.onLink_cmpB (f : Link → Link) : (s.onLink f).cmpB = s.cmpB := rfl
@[simp] theorem State.onLink_trigIn (f : Link → Link) : (s.onLink f).trigIn = s.trigIn := rfl
@[simp] theorem State.onLink_trigOut (f : Link → Link) : (s.onLink f).trigOut = s.trigOut := rfl
@[simp] theorem State.onLink_routes (f : Link → Link) : (s.onLink f).routes = s.routes := rfl
@[simp] theorem State.onLink_monitor (f : Link → Link) : (s.onLink f).monitor = s.monitor := rfl
@[simp] theorem State.onLink_engine (f : Link → Link) : (s.onLink f).engine = s.engine := rfl
@[simp] theorem State.onLink_supply (f : Link → Link) : (s.onLink f).supply = s.supply := rfl
@[simp] theorem State.onLink_inReset (f : Link → Link) : (s.onLink f).inReset = s.inReset := rfl
@[simp] theorem State.onLink_freeIx (f : Link → Link) : (s.onLink f).freeIx = s.freeIx := rfl
@[simp] theorem State.onLink_pending (f : Link → Link) : (s.onLink f).pending = s.pending := rfl

/-! ### State.onJob -/

@[simp] theorem State.onJob_ch0 (f : Job → Job) : (s.onJob f).ch0 = s.ch0 := rfl
@[simp] theorem State.onJob_ch1 (f : Job → Job) : (s.onJob f).ch1 = s.ch1 := rfl
@[simp] theorem State.onJob_rules (f : Job → Job) : (s.onJob f).rules = s.rules := rfl
@[simp] theorem State.onJob_images (f : Job → Job) : (s.onJob f).images = s.images := rfl
@[simp] theorem State.onJob_log (f : Job → Job) : (s.onJob f).log = s.log := rfl
@[simp] theorem State.onJob_tick (f : Job → Job) : (s.onJob f).tick = s.tick := rfl
@[simp] theorem State.onJob_cmpA (f : Job → Job) : (s.onJob f).cmpA = s.cmpA := rfl
@[simp] theorem State.onJob_cmpB (f : Job → Job) : (s.onJob f).cmpB = s.cmpB := rfl
@[simp] theorem State.onJob_trigIn (f : Job → Job) : (s.onJob f).trigIn = s.trigIn := rfl
@[simp] theorem State.onJob_trigOut (f : Job → Job) : (s.onJob f).trigOut = s.trigOut := rfl
@[simp] theorem State.onJob_routes (f : Job → Job) : (s.onJob f).routes = s.routes := rfl
@[simp] theorem State.onJob_monitor (f : Job → Job) : (s.onJob f).monitor = s.monitor := rfl
@[simp] theorem State.onJob_supply (f : Job → Job) : (s.onJob f).supply = s.supply := rfl
@[simp] theorem State.onJob_link (f : Job → Job) : (s.onJob f).link = s.link := rfl
@[simp] theorem State.onJob_inReset (f : Job → Job) : (s.onJob f).inReset = s.inReset := rfl
@[simp] theorem State.onJob_freeIx (f : Job → Job) : (s.onJob f).freeIx = s.freeIx := rfl
@[simp] theorem State.onJob_pending (f : Job → Job) : (s.onJob f).pending = s.pending := rfl

/-! ### State.onImage -/

@[simp] theorem State.onImage_ch0 (k : Fin 4) (f : Image → Image) : (s.onImage k f).ch0 = s.ch0 := rfl
@[simp] theorem State.onImage_ch1 (k : Fin 4) (f : Image → Image) : (s.onImage k f).ch1 = s.ch1 := rfl
@[simp] theorem State.onImage_rules (k : Fin 4) (f : Image → Image) : (s.onImage k f).rules = s.rules := rfl
@[simp] theorem State.onImage_log (k : Fin 4) (f : Image → Image) : (s.onImage k f).log = s.log := rfl
@[simp] theorem State.onImage_tick (k : Fin 4) (f : Image → Image) : (s.onImage k f).tick = s.tick := rfl
@[simp] theorem State.onImage_cmpA (k : Fin 4) (f : Image → Image) : (s.onImage k f).cmpA = s.cmpA := rfl
@[simp] theorem State.onImage_cmpB (k : Fin 4) (f : Image → Image) : (s.onImage k f).cmpB = s.cmpB := rfl
@[simp] theorem State.onImage_trigIn (k : Fin 4) (f : Image → Image) : (s.onImage k f).trigIn = s.trigIn := rfl
@[simp] theorem State.onImage_trigOut (k : Fin 4) (f : Image → Image) : (s.onImage k f).trigOut = s.trigOut := rfl
@[simp] theorem State.onImage_routes (k : Fin 4) (f : Image → Image) : (s.onImage k f).routes = s.routes := rfl
@[simp] theorem State.onImage_monitor (k : Fin 4) (f : Image → Image) : (s.onImage k f).monitor = s.monitor := rfl
@[simp] theorem State.onImage_engine (k : Fin 4) (f : Image → Image) : (s.onImage k f).engine = s.engine := rfl
@[simp] theorem State.onImage_supply (k : Fin 4) (f : Image → Image) : (s.onImage k f).supply = s.supply := rfl
@[simp] theorem State.onImage_link (k : Fin 4) (f : Image → Image) : (s.onImage k f).link = s.link := rfl
@[simp] theorem State.onImage_inReset (k : Fin 4) (f : Image → Image) : (s.onImage k f).inReset = s.inReset := rfl
@[simp] theorem State.onImage_freeIx (k : Fin 4) (f : Image → Image) : (s.onImage k f).freeIx = s.freeIx := rfl
@[simp] theorem State.onImage_pending (k : Fin 4) (f : Image → Image) : (s.onImage k f).pending = s.pending := rfl

/-! ### State.raise -/

@[simp] theorem State.raise_ch0 (n : Notice) : (s.raise n).ch0 = s.ch0 := rfl
@[simp] theorem State.raise_ch1 (n : Notice) : (s.raise n).ch1 = s.ch1 := rfl
@[simp] theorem State.raise_rules (n : Notice) : (s.raise n).rules = s.rules := rfl
@[simp] theorem State.raise_images (n : Notice) : (s.raise n).images = s.images := rfl
@[simp] theorem State.raise_log (n : Notice) : (s.raise n).log = s.log := rfl
@[simp] theorem State.raise_tick (n : Notice) : (s.raise n).tick = s.tick := rfl
@[simp] theorem State.raise_cmpA (n : Notice) : (s.raise n).cmpA = s.cmpA := rfl
@[simp] theorem State.raise_cmpB (n : Notice) : (s.raise n).cmpB = s.cmpB := rfl
@[simp] theorem State.raise_trigIn (n : Notice) : (s.raise n).trigIn = s.trigIn := rfl
@[simp] theorem State.raise_trigOut (n : Notice) : (s.raise n).trigOut = s.trigOut := rfl
@[simp] theorem State.raise_routes (n : Notice) : (s.raise n).routes = s.routes := rfl
@[simp] theorem State.raise_monitor (n : Notice) : (s.raise n).monitor = s.monitor := rfl
@[simp] theorem State.raise_engine (n : Notice) : (s.raise n).engine = s.engine := rfl
@[simp] theorem State.raise_supply (n : Notice) : (s.raise n).supply = s.supply := rfl
@[simp] theorem State.raise_inReset (n : Notice) : (s.raise n).inReset = s.inReset := rfl
@[simp] theorem State.raise_freeIx (n : Notice) : (s.raise n).freeIx = s.freeIx := rfl
@[simp] theorem State.raise_pending (n : Notice) : (s.raise n).pending = s.pending := rfl

/-! ### State.reply -/

@[simp] theorem State.reply_ch0 (tag code : Byte) (a : Answer) : (s.reply tag code a).ch0 = s.ch0 := rfl
@[simp] theorem State.reply_ch1 (tag code : Byte) (a : Answer) : (s.reply tag code a).ch1 = s.ch1 := rfl
@[simp] theorem State.reply_rules (tag code : Byte) (a : Answer) : (s.reply tag code a).rules = s.rules := rfl
@[simp] theorem State.reply_images (tag code : Byte) (a : Answer) : (s.reply tag code a).images = s.images := rfl
@[simp] theorem State.reply_log (tag code : Byte) (a : Answer) : (s.reply tag code a).log = s.log := rfl
@[simp] theorem State.reply_tick (tag code : Byte) (a : Answer) : (s.reply tag code a).tick = s.tick := rfl
@[simp] theorem State.reply_cmpA (tag code : Byte) (a : Answer) : (s.reply tag code a).cmpA = s.cmpA := rfl
@[simp] theorem State.reply_cmpB (tag code : Byte) (a : Answer) : (s.reply tag code a).cmpB = s.cmpB := rfl
@[simp] theorem State.reply_trigIn (tag code : Byte) (a : Answer) : (s.reply tag code a).trigIn = s.trigIn := rfl
@[simp] theorem State.reply_trigOut (tag code : Byte) (a : Answer) : (s.reply tag code a).trigOut = s.trigOut := rfl
@[simp] theorem State.reply_routes (tag code : Byte) (a : Answer) : (s.reply tag code a).routes = s.routes := rfl
@[simp] theorem State.reply_monitor (tag code : Byte) (a : Answer) : (s.reply tag code a).monitor = s.monitor := rfl
@[simp] theorem State.reply_engine (tag code : Byte) (a : Answer) : (s.reply tag code a).engine = s.engine := rfl
@[simp] theorem State.reply_supply (tag code : Byte) (a : Answer) : (s.reply tag code a).supply = s.supply := rfl
@[simp] theorem State.reply_inReset (tag code : Byte) (a : Answer) : (s.reply tag code a).inReset = s.inReset := rfl
@[simp] theorem State.reply_freeIx (tag code : Byte) (a : Answer) : (s.reply tag code a).freeIx = s.freeIx := rfl
@[simp] theorem State.reply_pending (tag code : Byte) (a : Answer) : (s.reply tag code a).pending = s.pending := rfl

/-! ### Channels through updates -/

@[simp] theorem State.chan_c0 : s.chan .c0 = s.ch0 := rfl
@[simp] theorem State.chan_c1 : s.chan .c1 = s.ch1 := rfl
@[simp] theorem other_c0 : other .c0 = .c1 := rfl
@[simp] theorem other_c1 : other .c1 = .c0 := rfl

@[simp] theorem State.chan_setChan_same (c : Channel) : (s.setChan ch c).chan ch = c := by cases ch <;> rfl

@[simp] theorem State.chan_setChan_other (c : Channel) : (s.setChan ch c).chan (other ch) = s.chan (other ch) := by
  cases ch <;> rfl

@[simp] theorem State.chan_onChan_same (f : Channel → Channel) : (s.onChan ch f).chan ch = f (s.chan ch) := by
  cases ch <;> rfl

@[simp] theorem State.chan_onChan_other (f : Channel → Channel) :
    (s.onChan ch f).chan (other ch) = s.chan (other ch) := by
  cases ch <;> rfl

/-- The channels of a state with another block changed. -/
theorem State.chan_congr {s t : State} (h0 : t.ch0 = s.ch0) (h1 : t.ch1 = s.ch1) (ch : Chan) : t.chan ch = s.chan ch := by
  cases ch <;> assumption

/-- Bringing the measurements up to date changes nothing else of a channel. -/
theorem State.sameChannel_retimeAll : SameChannel (s.chan ch) (s.retimeAll.chan ch) := by cases ch <;> rfl

/-- Bringing the measurements up to date changes no block but the channels. -/
theorem State.sameBlocks_retimeAll : SameBlocks s s.retimeAll := rfl

@[simp] theorem State.retimeAll_chan_settings : (s.retimeAll.chan ch).settings = (s.chan ch).settings := by cases ch <;> rfl
@[simp] theorem State.retimeAll_chan_mode : (s.retimeAll.chan ch).mode = (s.chan ch).mode := by cases ch <;> rfl
@[simp] theorem State.retimeAll_chan_fallback : (s.retimeAll.chan ch).fallback = (s.chan ch).fallback := by cases ch <;> rfl
@[simp] theorem State.retimeAll_chan_sync : (s.retimeAll.chan ch).sync = (s.chan ch).sync := by cases ch <;> rfl
@[simp] theorem State.retimeAll_chan_phase : (s.retimeAll.chan ch).phase = (s.chan ch).phase := by cases ch <;> rfl
@[simp] theorem State.retimeAll_chan_seenFree : (s.retimeAll.chan ch).seenFree = (s.chan ch).seenFree := by cases ch <;> rfl
@[simp] theorem State.retimeAll_chan_cFree : (s.retimeAll.chan ch).cFree = (s.chan ch).cFree := by cases ch <;> rfl
@[simp] theorem State.retimeAll_chan_dFree : (s.retimeAll.chan ch).dFree = (s.chan ch).dFree := by cases ch <;> rfl
@[simp] theorem State.retimeAll_chan_freePoint : (s.retimeAll.chan ch).freePoint = (s.chan ch).freePoint := by cases ch <;> rfl
@[simp] theorem State.retimeAll_chan_byteOpen : (s.retimeAll.chan ch).byteOpen = (s.chan ch).byteOpen := by cases ch <;> rfl
@[simp] theorem State.retimeAll_chan_curByte : (s.retimeAll.chan ch).curByte = (s.chan ch).curByte := by cases ch <;> rfl
@[simp] theorem State.retimeAll_chan_noted : (s.retimeAll.chan ch).noted = (s.chan ch).noted := by cases ch <;> rfl
@[simp] theorem State.retimeAll_chan_highPhase : (s.retimeAll.chan ch).highPhase = (s.chan ch).highPhase := by cases ch <;> rfl
@[simp] theorem State.retimeAll_chan_highData : (s.retimeAll.chan ch).highData = (s.chan ch).highData := by cases ch <;> rfl
@[simp] theorem State.retimeAll_chan_dataTold : (s.retimeAll.chan ch).dataTold = (s.chan ch).dataTold := by cases ch <;> rfl
@[simp] theorem State.retimeAll_chan_ext : (s.retimeAll.chan ch).ext = (s.chan ch).ext := by cases ch <;> rfl
@[simp] theorem State.retimeAll_chan_pull : (s.retimeAll.chan ch).pull = (s.chan ch).pull := by cases ch <;> rfl
@[simp] theorem State.retimeAll_chan_grantWait : (s.retimeAll.chan ch).grantWait = (s.chan ch).grantWait := by cases ch <;> rfl
@[simp] theorem State.retimeAll_chan_grantLimitTaken : (s.retimeAll.chan ch).grantLimitTaken = (s.chan ch).grantLimitTaken := by cases ch <;> rfl
@[simp] theorem State.retimeAll_chan_plan : (s.retimeAll.chan ch).plan = (s.chan ch).plan := by cases ch <;> rfl
@[simp] theorem State.retimeAll_chan_latched : (s.retimeAll.chan ch).latched = (s.chan ch).latched := by cases ch <;> rfl
@[simp] theorem State.retimeAll_chan_dOp : (s.retimeAll.chan ch).dOp = (s.chan ch).dOp := by cases ch <;> rfl
@[simp] theorem State.retimeAll_chan_dSpan : (s.retimeAll.chan ch).dSpan = (s.chan ch).dSpan := by cases ch <;> rfl
@[simp] theorem State.retimeAll_chan_arb : (s.retimeAll.chan ch).arb = (s.chan ch).arb := by cases ch <;> rfl
@[simp] theorem State.retimeAll_chan_deferred : (s.retimeAll.chan ch).deferred = (s.chan ch).deferred := by cases ch <;> rfl
@[simp] theorem State.retimeAll_chan_nextAct : (s.retimeAll.chan ch).nextAct = (s.chan ch).nextAct := by cases ch <;> rfl
@[simp] theorem State.retimeAll_chan_startTick : (s.retimeAll.chan ch).startTick = (s.chan ch).startTick := by cases ch <;> rfl
@[simp] theorem State.retimeAll_chan_exch : (s.retimeAll.chan ch).exch = (s.chan ch).exch := by cases ch <;> rfl
@[simp] theorem State.retimeAll_chan_giving : (s.retimeAll.chan ch).giving = (s.chan ch).giving := by cases ch <;> rfl
@[simp] theorem State.retimeAll_chan_bitsOut : (s.retimeAll.chan ch).bitsOut = (s.chan ch).bitsOut := by cases ch <;> rfl
@[simp] theorem State.retimeAll_chan_console : (s.retimeAll.chan ch).console = (s.chan ch).console := by cases ch <;> rfl
@[simp] theorem State.retimeAll_chan_hold : (s.retimeAll.chan ch).hold = (s.chan ch).hold := by cases ch <;> rfl
@[simp] theorem State.retimeAll_chan_park : (s.retimeAll.chan ch).park = (s.chan ch).park := by cases ch <;> rfl
@[simp] theorem State.retimeAll_chan_health : (s.retimeAll.chan ch).health = (s.chan ch).health := by cases ch <;> rfl

/-! ### Lines and the bypass switch -/

@[simp] theorem State.retimeAll_cClockLow : s.retimeAll.cClockLow ch = s.cClockLow ch := by cases ch <;> rfl
@[simp] theorem State.retimeAll_cDataLow : s.retimeAll.cDataLow ch = s.cDataLow ch := by cases ch <;> rfl
@[simp] theorem State.retimeAll_dClockLow : s.retimeAll.dClockLow ch = s.dClockLow ch := by cases ch <;> rfl
@[simp] theorem State.retimeAll_dDataLow : s.retimeAll.dDataLow ch = s.dDataLow ch := by cases ch <;> rfl

/-- A closed bypass switch makes CnCK and DnCK one line, and CnDA and DnDA (R2). -/
theorem State.lines_joined (h : s.bypassClosed ch = true) :
    s.cClockLow ch = s.dClockLow ch ∧ s.cDataLow ch = s.dDataLow ch := by
  simp [State.cClockLow, State.cDataLow, State.dClockLow, State.dDataLow, h, Bool.or_comm]

/-- With the switch open each side is what its own parties pull. -/
theorem State.lines_apart (h : s.bypassClosed ch = false) :
    s.cClockLow ch = (s.chan ch).cSide.clock ∧ s.cDataLow ch = (s.chan ch).cSide.data
      ∧ s.dClockLow ch = (s.chan ch).dSide.clock ∧ s.dDataLow ch = (s.chan ch).dSide.data := by
  simp [State.cClockLow, State.cDataLow, State.dClockLow, State.dDataLow, h]

/-- A line told high changes that level alone. -/
@[simp] theorem Channel.lineTold_high (c : Channel) (joined : Bool) (side : Side) (line : Line) :
    c.lineTold joined side line false = { c with ext := c.ext.set side line false } := by
  simp [Channel.lineTold]

@[simp] theorem Channel.clockFall_highPhase (c : Channel) : c.clockFall.highPhase = false := by
  unfold Channel.clockFall
  split
  · rfl
  · rename_i h
    have h := eq_false_of_ne_true h
    (repeat' split) <;> simp [Channel.shiftOut, *] <;> (repeat' split) <;> simp [*]

/-- CnCK told low ends the clock-high of a sampled bit; so does DnCK through a closed switch (R2, R149). -/
theorem Channel.lineTold_clock (c : Channel) (joined : Bool) (side : Side) (h : joined = true ∨ side = .cSide) :
    (c.lineTold joined side .clock true).highPhase = false := by
  rcases h with rfl | rfl <;> simp [Channel.lineTold]

/-- A byte whose last bit is sampled high leaves CnDA high, and one of zeros leaves it low. -/
theorem Channel.staysLow_cases (c : Channel) (b : Byte) :
    ((c.lineByte b).getLsbD 0 = true → c.staysLow b = false) ∧ (c.lineByte b = 0 → c.staysLow b = true) := by
  constructor <;> intro h <;> simp [Channel.staysLow, h]

/-- Past a change of effective mode the part pulls no line and has none to pull at a falling edge (R1). -/
theorem Channel.changeTo_drives_nothing (c : Channel) (m : Mode) :
    (c.changeTo m).pull = .released ∧ (c.changeTo m).cPull = ⟨false, false⟩ ∧ (c.changeTo m).giving = none
      ∧ (c.changeTo m).clockFall.pull = .released := by
  unfold Channel.changeTo
  split <;> simp [Channel.cPull, Channel.clockFall, Channel.shiftOut, Lines.released, Lines.set] <;> split <;> rfl

end Sys2Proof.Machine
end

