-- ==== Sys2Proof/Laws/Ops.lean ====
section
/-! SUPPORT. What each shared operation of the blocks leaves alone, field by field, and the shape of what it changes. -/

namespace Sys2Proof.Machine

variable (s : State) (ch : Chan)

/-- A conditional keeps what both of its branches keep. -/
theorem apply_ite_same {α β : Type} (g : α → β) (c : Prop) [Decidable c] (a b : α) (x : β) (ha : g a = x)
    (hb : g b = x) : g (if c then a else b) = x := by
  split <;> assumption

/-- A fold keeps what each of its steps keeps. -/
theorem foldl_keeps {α β γ : Type} (g : α → γ) (f : α → β → α) (h : ∀ a b, g (f a b) = g a) (l : List β) (a : α) :
    g (l.foldl f a) = g a := by
  induction l generalizing a with
  | nil => rfl
  | cons b rest ih => exact (ih _).trans (h a b)

/-! ### State.raiseIf -/

@[simp] theorem State.raiseIf_ch0 (b : Bool) (n : Notice) : (s.raiseIf b n).ch0 = s.ch0 := by
  unfold State.raiseIf; (repeat' split) <;> simp
@[simp] theorem State.raiseIf_ch1 (b : Bool) (n : Notice) : (s.raiseIf b n).ch1 = s.ch1 := by
  unfold State.raiseIf; (repeat' split) <;> simp
@[simp] theorem State.raiseIf_rules (b : Bool) (n : Notice) : (s.raiseIf b n).rules = s.rules := by
  unfold State.raiseIf; (repeat' split) <;> simp
@[simp] theorem State.raiseIf_images (b : Bool) (n : Notice) : (s.raiseIf b n).images = s.images := by
  unfold State.raiseIf; (repeat' split) <;> simp
@[simp] theorem State.raiseIf_log (b : Bool) (n : Notice) : (s.raiseIf b n).log = s.log := by
  unfold State.raiseIf; (repeat' split) <;> simp
@[simp] theorem State.raiseIf_tick (b : Bool) (n : Notice) : (s.raiseIf b n).tick = s.tick := by
  unfold State.raiseIf; (repeat' split) <;> simp
@[simp] theorem State.raiseIf_cmpA (b : Bool) (n : Notice) : (s.raiseIf b n).cmpA = s.cmpA := by
  unfold State.raiseIf; (repeat' split) <;> simp
@[simp] theorem State.raiseIf_cmpB (b : Bool) (n : Notice) : (s.raiseIf b n).cmpB = s.cmpB := by
  unfold State.raiseIf; (repeat' split) <;> simp
@[simp] theorem State.raiseIf_trigIn (b : Bool) (n : Notice) : (s.raiseIf b n).trigIn = s.trigIn := by
  unfold State.raiseIf; (repeat' split) <;> simp
@[simp] theorem State.raiseIf_trigOut (b : Bool) (n : Notice) : (s.raiseIf b n).trigOut = s.trigOut := by
  unfold State.raiseIf; (repeat' split) <;> simp
@[simp] theorem State.raiseIf_routes (b : Bool) (n : Notice) : (s.raiseIf b n).routes = s.routes := by
  unfold State.raiseIf; (repeat' split) <;> simp
@[simp] theorem State.raiseIf_monitor (b : Bool) (n : Notice) : (s.raiseIf b n).monitor = s.monitor := by
  unfold State.raiseIf; (repeat' split) <;> simp
@[simp] theorem State.raiseIf_engine (b : Bool) (n : Notice) : (s.raiseIf b n).engine = s.engine := by
  unfold State.raiseIf; (repeat' split) <;> simp
@[simp] theorem State.raiseIf_supply (b : Bool) (n : Notice) : (s.raiseIf b n).supply = s.supply := by
  unfold State.raiseIf; (repeat' split) <;> simp
@[simp] theorem State.raiseIf_inReset (b : Bool) (n : Notice) : (s.raiseIf b n).inReset = s.inReset := by
  unfold State.raiseIf; (repeat' split) <;> simp
@[simp] theorem State.raiseIf_freeIx (b : Bool) (n : Notice) : (s.raiseIf b n).freeIx = s.freeIx := by
  unfold State.raiseIf; (repeat' split) <;> simp
@[simp] theorem State.raiseIf_pending (b : Bool) (n : Notice) : (s.raiseIf b n).pending = s.pending := by
  unfold State.raiseIf; (repeat' split) <;> simp

/-! ### State.hand -/

@[simp] theorem State.hand_ch0 (c : Option Chan) (b : Body) : (s.hand c b).ch0 = s.ch0 := by simp [State.hand]
@[simp] theorem State.hand_ch1 (c : Option Chan) (b : Body) : (s.hand c b).ch1 = s.ch1 := by simp [State.hand]
@[simp] theorem State.hand_rules (c : Option Chan) (b : Body) : (s.hand c b).rules = s.rules := by simp [State.hand]
@[simp] theorem State.hand_images (c : Option Chan) (b : Body) : (s.hand c b).images = s.images := by simp [State.hand]
@[simp] theorem State.hand_tick (c : Option Chan) (b : Body) : (s.hand c b).tick = s.tick := by simp [State.hand]
@[simp] theorem State.hand_cmpA (c : Option Chan) (b : Body) : (s.hand c b).cmpA = s.cmpA := by simp [State.hand]
@[simp] theorem State.hand_cmpB (c : Option Chan) (b : Body) : (s.hand c b).cmpB = s.cmpB := by simp [State.hand]
@[simp] theorem State.hand_trigIn (c : Option Chan) (b : Body) : (s.hand c b).trigIn = s.trigIn := by simp [State.hand]
@[simp] theorem State.hand_trigOut (c : Option Chan) (b : Body) : (s.hand c b).trigOut = s.trigOut := by simp [State.hand]
@[simp] theorem State.hand_routes (c : Option Chan) (b : Body) : (s.hand c b).routes = s.routes := by simp [State.hand]
@[simp] theorem State.hand_monitor (c : Option Chan) (b : Body) : (s.hand c b).monitor = s.monitor := by simp [State.hand]
@[simp] theorem State.hand_engine (c : Option Chan) (b : Body) : (s.hand c b).engine = s.engine := by simp [State.hand]
@[simp] theorem State.hand_supply (c : Option Chan) (b : Body) : (s.hand c b).supply = s.supply := by simp [State.hand]
@[simp] theorem State.hand_inReset (c : Option Chan) (b : Body) : (s.hand c b).inReset = s.inReset := by simp [State.hand]
@[simp] theorem State.hand_freeIx (c : Option Chan) (b : Body) : (s.hand c b).freeIx = s.freeIx := by simp [State.hand]
@[simp] theorem State.hand_pending (c : Option Chan) (b : Body) : (s.hand c b).pending = s.pending := by simp [State.hand]

/-- A record handed to the log changes the log and the notice word, and nothing else. -/
theorem State.hand_frame (c : Option Chan) (b : Body) :
    s.hand c b = { s with log := (s.log.take s.tick c b).log
                          link := { s.link with notices := (s.hand c b).link.notices } } := by
  unfold State.hand State.raiseIf; dsimp only; (repeat' split) <;> rfl

/-- The log after a record is handed to it. -/
theorem State.hand_log (c : Option Chan) (b : Body) : (s.hand c b).log = (s.log.take s.tick c b).log := by
  rw [State.hand_frame]

/-- Taking a record leaves the gate, the policy, the window and STREAM. -/
theorem Log.take_settings (l : Log) (now : Tick) (c : Option Chan) (b : Body) :
    (l.take now c b).log.gateOpen = l.gateOpen ∧ (l.take now c b).log.wrap = l.wrap
      ∧ (l.take now c b).log.window = l.window ∧ (l.take now c b).log.stream = l.stream := by
  unfold Log.take; dsimp only; (repeat' split) <;> simp_all [Log.write, Log.stamped, Log.dropOne]

/-! ### State.event -/

@[simp] theorem State.event_ch0 (c : Option Chan) (e : Event) : (s.event c e).ch0 = s.ch0 := by simp [State.event]
@[simp] theorem State.event_ch1 (c : Option Chan) (e : Event) : (s.event c e).ch1 = s.ch1 := by simp [State.event]
@[simp] theorem State.event_rules (c : Option Chan) (e : Event) : (s.event c e).rules = s.rules := by simp [State.event]
@[simp] theorem State.event_images (c : Option Chan) (e : Event) : (s.event c e).images = s.images := by simp [State.event]
@[simp] theorem State.event_tick (c : Option Chan) (e : Event) : (s.event c e).tick = s.tick := by simp [State.event]
@[simp] theorem State.event_cmpA (c : Option Chan) (e : Event) : (s.event c e).cmpA = s.cmpA := by simp [State.event]
@[simp] theorem State.event_cmpB (c : Option Chan) (e : Event) : (s.event c e).cmpB = s.cmpB := by simp [State.event]
@[simp] theorem State.event_trigIn (c : Option Chan) (e : Event) : (s.event c e).trigIn = s.trigIn := by simp [State.event]
@[simp] theorem State.event_trigOut (c : Option Chan) (e : Event) : (s.event c e).trigOut = s.trigOut := by simp [State.event]
@[simp] theorem State.event_routes (c : Option Chan) (e : Event) : (s.event c e).routes = s.routes := by simp [State.event]
@[simp] theorem State.event_monitor (c : Option Chan) (e : Event) : (s.event c e).monitor = s.monitor := by simp [State.event]
@[simp] theorem State.event_engine (c : Option Chan) (e : Event) : (s.event c e).engine = s.engine := by simp [State.event]
@[simp] theorem State.event_supply (c : Option Chan) (e : Event) : (s.event c e).supply = s.supply := by simp [State.event]
@[simp] theorem State.event_inReset (c : Option Chan) (e : Event) : (s.event c e).inReset = s.inReset := by simp [State.event]
@[simp] theorem State.event_freeIx (c : Option Chan) (e : Event) : (s.event c e).freeIx = s.freeIx := by simp [State.event]
@[simp] theorem State.event_pending (c : Option Chan) (e : Event) : (s.event c e).pending = s.pending := by simp [State.event]

/-! ### State.snapshotNow -/

@[simp] theorem State.snapshotNow_rules : (s.snapshotNow).rules = s.rules := by simp [State.snapshotNow]
@[simp] theorem State.snapshotNow_images : (s.snapshotNow).images = s.images := by simp [State.snapshotNow]
@[simp] theorem State.snapshotNow_log : (s.snapshotNow).log = s.log := by simp [State.snapshotNow]
@[simp] theorem State.snapshotNow_tick : (s.snapshotNow).tick = s.tick := by simp [State.snapshotNow]
@[simp] theorem State.snapshotNow_cmpA : (s.snapshotNow).cmpA = s.cmpA := by simp [State.snapshotNow]
@[simp] theorem State.snapshotNow_cmpB : (s.snapshotNow).cmpB = s.cmpB := by simp [State.snapshotNow]
@[simp] theorem State.snapshotNow_trigIn : (s.snapshotNow).trigIn = s.trigIn := by simp [State.snapshotNow]
@[simp] theorem State.snapshotNow_trigOut : (s.snapshotNow).trigOut = s.trigOut := by simp [State.snapshotNow]
@[simp] theorem State.snapshotNow_routes : (s.snapshotNow).routes = s.routes := by simp [State.snapshotNow]
@[simp] theorem State.snapshotNow_engine : (s.snapshotNow).engine = s.engine := by simp [State.snapshotNow]
@[simp] theorem State.snapshotNow_supply : (s.snapshotNow).supply = s.supply := by simp [State.snapshotNow]
@[simp] theorem State.snapshotNow_inReset : (s.snapshotNow).inReset = s.inReset := by simp [State.snapshotNow]
@[simp] theorem State.snapshotNow_freeIx : (s.snapshotNow).freeIx = s.freeIx := by simp [State.snapshotNow]
@[simp] theorem State.snapshotNow_pending : (s.snapshotNow).pending = s.pending := by simp [State.snapshotNow]

/-! ### State.setPark -/

@[simp] theorem State.setPark_rules : (s.setPark ch).rules = s.rules := by
  unfold State.setPark; (repeat' split) <;> simp
@[simp] theorem State.setPark_images : (s.setPark ch).images = s.images := by
  unfold State.setPark; (repeat' split) <;> simp
@[simp] theorem State.setPark_log : (s.setPark ch).log = s.log := by
  unfold State.setPark; (repeat' split) <;> simp
@[simp] theorem State.setPark_tick : (s.setPark ch).tick = s.tick := by
  unfold State.setPark; (repeat' split) <;> simp
@[simp] theorem State.setPark_cmpA : (s.setPark ch).cmpA = s.cmpA := by
  unfold State.setPark; (repeat' split) <;> simp
@[simp] theorem State.setPark_cmpB : (s.setPark ch).cmpB = s.cmpB := by
  unfold State.setPark; (repeat' split) <;> simp
@[simp] theorem State.setPark_trigIn : (s.setPark ch).trigIn = s.trigIn := by
  unfold State.setPark; (repeat' split) <;> simp
@[simp] theorem State.setPark_trigOut : (s.setPark ch).trigOut = s.trigOut := by
  unfold State.setPark; (repeat' split) <;> simp
@[simp] theorem State.setPark_routes : (s.setPark ch).routes = s.routes := by
  unfold State.setPark; (repeat' split) <;> simp
@[simp] theorem State.setPark_monitor : (s.setPark ch).monitor = s.monitor := by
  unfold State.setPark; (repeat' split) <;> simp
@[simp] theorem State.setPark_engine : (s.setPark ch).engine = s.engine := by
  unfold State.setPark; (repeat' split) <;> simp
@[simp] theorem State.setPark_supply : (s.setPark ch).supply = s.supply := by
  unfold State.setPark; (repeat' split) <;> simp
@[simp] theorem State.setPark_link : (s.setPark ch).link = s.link := by
  unfold State.setPark; (repeat' split) <;> simp
@[simp] theorem State.setPark_inReset : (s.setPark ch).inReset = s.inReset := by
  unfold State.setPark; (repeat' split) <;> simp
@[simp] theorem State.setPark_freeIx : (s.setPark ch).freeIx = s.freeIx := by
  unfold State.setPark; (repeat' split) <;> simp
@[simp] theorem State.setPark_pending : (s.setPark ch).pending = s.pending := by
  unfold State.setPark; (repeat' split) <;> simp

/-! ### State.setCompare -/

@[simp] theorem State.setCompare_ch0 (sl : CompareSlot) (c : Compare) : (s.setCompare sl c).ch0 = s.ch0 := by cases sl <;> rfl
@[simp] theorem State.setCompare_ch1 (sl : CompareSlot) (c : Compare) : (s.setCompare sl c).ch1 = s.ch1 := by cases sl <;> rfl
@[simp] theorem State.setCompare_rules (sl : CompareSlot) (c : Compare) : (s.setCompare sl c).rules = s.rules := by cases sl <;> rfl
@[simp] theorem State.setCompare_images (sl : CompareSlot) (c : Compare) : (s.setCompare sl c).images = s.images := by cases sl <;> rfl
@[simp] theorem State.setCompare_log (sl : CompareSlot) (c : Compare) : (s.setCompare sl c).log = s.log := by cases sl <;> rfl
@[simp] theorem State.setCompare_tick (sl : CompareSlot) (c : Compare) : (s.setCompare sl c).tick = s.tick := by cases sl <;> rfl
@[simp] theorem State.setCompare_trigIn (sl : CompareSlot) (c : Compare) : (s.setCompare sl c).trigIn = s.trigIn := by cases sl <;> rfl
@[simp] theorem State.setCompare_trigOut (sl : CompareSlot) (c : Compare) : (s.setCompare sl c).trigOut = s.trigOut := by cases sl <;> rfl
@[simp] theorem State.setCompare_routes (sl : CompareSlot) (c : Compare) : (s.setCompare sl c).routes = s.routes := by cases sl <;> rfl
@[simp] theorem State.setCompare_monitor (sl : CompareSlot) (c : Compare) : (s.setCompare sl c).monitor = s.monitor := by cases sl <;> rfl
@[simp] theorem State.setCompare_engine (sl : CompareSlot) (c : Compare) : (s.setCompare sl c).engine = s.engine := by cases sl <;> rfl
@[simp] theorem State.setCompare_supply (sl : CompareSlot) (c : Compare) : (s.setCompare sl c).supply = s.supply := by cases sl <;> rfl
@[simp] theorem State.setCompare_link (sl : CompareSlot) (c : Compare) : (s.setCompare sl c).link = s.link := by cases sl <;> rfl
@[simp] theorem State.setCompare_inReset (sl : CompareSlot) (c : Compare) : (s.setCompare sl c).inReset = s.inReset := by cases sl <;> rfl
@[simp] theorem State.setCompare_freeIx (sl : CompareSlot) (c : Compare) : (s.setCompare sl c).freeIx = s.freeIx := by cases sl <;> rfl
@[simp] theorem State.setCompare_pending (sl : CompareSlot) (c : Compare) : (s.setCompare sl c).pending = s.pending := by cases sl <;> rfl

/-! ### State.act -/

@[simp] theorem State.act_rules (a : Option RouteAction) : (s.act a).rules = s.rules := by
  unfold State.act; (repeat' split) <;> simp
@[simp] theorem State.act_images (a : Option RouteAction) : (s.act a).images = s.images := by
  unfold State.act; (repeat' split) <;> simp
@[simp] theorem State.act_tick (a : Option RouteAction) : (s.act a).tick = s.tick := by
  unfold State.act; (repeat' split) <;> simp
@[simp] theorem State.act_trigIn (a : Option RouteAction) : (s.act a).trigIn = s.trigIn := by
  unfold State.act; (repeat' split) <;> simp
@[simp] theorem State.act_routes (a : Option RouteAction) : (s.act a).routes = s.routes := by
  unfold State.act; (repeat' split) <;> simp
@[simp] theorem State.act_engine (a : Option RouteAction) : (s.act a).engine = s.engine := by
  unfold State.act; (repeat' split) <;> simp
@[simp] theorem State.act_inReset (a : Option RouteAction) : (s.act a).inReset = s.inReset := by
  unfold State.act; (repeat' split) <;> simp
@[simp] theorem State.act_freeIx (a : Option RouteAction) : (s.act a).freeIx = s.freeIx := by
  unfold State.act; (repeat' split) <;> simp
@[simp] theorem State.act_pending (a : Option RouteAction) : (s.act a).pending = s.pending := by
  unfold State.act; (repeat' split) <;> simp

/-! ### State.occur -/

@[simp] theorem State.occur_rules (x : Source) (e : Option Nat) : (s.occur x e).rules = s.rules := by
  unfold State.occur
  exact apply_ite_same State.rules _ _ _ _ rfl
    ((foldl_keeps State.rules _ (fun t (r : Route) => State.act_rules t r.action) _ _).trans (State.hand_rules s _ _))
@[simp] theorem State.occur_images (x : Source) (e : Option Nat) : (s.occur x e).images = s.images := by
  unfold State.occur
  exact apply_ite_same State.images _ _ _ _ rfl
    ((foldl_keeps State.images _ (fun t (r : Route) => State.act_images t r.action) _ _).trans (State.hand_images s _ _))
@[simp] theorem State.occur_tick (x : Source) (e : Option Nat) : (s.occur x e).tick = s.tick := by
  unfold State.occur
  exact apply_ite_same State.tick _ _ _ _ rfl
    ((foldl_keeps State.tick _ (fun t (r : Route) => State.act_tick t r.action) _ _).trans (State.hand_tick s _ _))
@[simp] theorem State.occur_trigIn (x : Source) (e : Option Nat) : (s.occur x e).trigIn = s.trigIn := by
  unfold State.occur
  exact apply_ite_same State.trigIn _ _ _ _ rfl
    ((foldl_keeps State.trigIn _ (fun t (r : Route) => State.act_trigIn t r.action) _ _).trans (State.hand_trigIn s _ _))
@[simp] theorem State.occur_engine (x : Source) (e : Option Nat) : (s.occur x e).engine = s.engine := by
  unfold State.occur
  exact apply_ite_same State.engine _ _ _ _ rfl
    ((foldl_keeps State.engine _ (fun t (r : Route) => State.act_engine t r.action) _ _).trans (State.hand_engine s _ _))
@[simp] theorem State.occur_inReset (x : Source) (e : Option Nat) : (s.occur x e).inReset = s.inReset := by
  unfold State.occur
  exact apply_ite_same State.inReset _ _ _ _ rfl
    ((foldl_keeps State.inReset _ (fun t (r : Route) => State.act_inReset t r.action) _ _).trans (State.hand_inReset s _ _))
@[simp] theorem State.occur_freeIx (x : Source) (e : Option Nat) : (s.occur x e).freeIx = s.freeIx := by
  unfold State.occur
  exact apply_ite_same State.freeIx _ _ _ _ rfl
    ((foldl_keeps State.freeIx _ (fun t (r : Route) => State.act_freeIx t r.action) _ _).trans (State.hand_freeIx s _ _))
@[simp] theorem State.occur_pending (x : Source) (e : Option Nat) : (s.occur x e).pending = s.pending := by
  unfold State.occur
  exact apply_ite_same State.pending _ _ _ _ rfl
    ((foldl_keeps State.pending _ (fun t (r : Route) => State.act_pending t r.action) _ _).trans (State.hand_pending s _ _))

/-- No action of a route changes of a channel more than its park flag and its counters (R140). -/
theorem State.act_chan (a : Option RouteAction) :
    (s.act a).chan ch = { s.chan ch with park := ((s.act a).chan ch).park, health := ((s.act a).chan ch).health } := by
  unfold State.act State.setPark
  (repeat' split) <;> cases ch <;> rfl

/-- An occurrence changes of a channel no more than its park flag and its counters (R139, R140). -/
theorem State.occur_chan (x : Source) (e : Option Nat) :
    (s.occur x e).chan ch = { s.chan ch with
      park := ((s.occur x e).chan ch).park, health := ((s.occur x e).chan ch).health } := by
  unfold State.occur
  dsimp only
  split
  · rfl
  · have fold : ∀ (l : List Route) (u : State), (l.foldl (fun s r => s.act r.action) u).chan ch = { u.chan ch with
        park := ((l.foldl (fun s r => s.act r.action) u).chan ch).park
        health := ((l.foldl (fun s r => s.act r.action) u).chan ch).health } := by
      intro l
      induction l with
      | nil => exact fun u => rfl
      | cons r l ih =>
        intro u
        rw [List.foldl_cons]
        rw [ih (u.act r.action)]
        rw [u.act_chan ch r.action]
    refine (fold _ _).trans ?_
    cases ch <;> simp [State.chan]

/-- An occurrence that no route fits changes nothing (R139). -/
theorem State.occur_none (x : Source) (e : Option Nat) (h : ∀ r ∈ s.routes, r.fits x e = false) : s.occur x e = s := by
  have : s.routes.filter (fun r => r.fits x e) = [] := List.filter_eq_nil_iff.2 fun r hr => by simp [h r hr]
  simp [State.occur, this]

/-! ### State.ruleTrigger -/

@[simp] theorem State.ruleTrigger_rules (w : Option (Nat × Copy)) : (s.ruleTrigger w).rules = s.rules := by
  unfold State.ruleTrigger; (repeat' split) <;> simp
@[simp] theorem State.ruleTrigger_images (w : Option (Nat × Copy)) : (s.ruleTrigger w).images = s.images := by
  unfold State.ruleTrigger; (repeat' split) <;> simp
@[simp] theorem State.ruleTrigger_tick (w : Option (Nat × Copy)) : (s.ruleTrigger w).tick = s.tick := by
  unfold State.ruleTrigger; (repeat' split) <;> simp
@[simp] theorem State.ruleTrigger_trigIn (w : Option (Nat × Copy)) : (s.ruleTrigger w).trigIn = s.trigIn := by
  unfold State.ruleTrigger; (repeat' split) <;> simp
@[simp] theorem State.ruleTrigger_engine (w : Option (Nat × Copy)) : (s.ruleTrigger w).engine = s.engine := by
  unfold State.ruleTrigger; (repeat' split) <;> simp
@[simp] theorem State.ruleTrigger_inReset (w : Option (Nat × Copy)) : (s.ruleTrigger w).inReset = s.inReset := by
  unfold State.ruleTrigger; (repeat' split) <;> simp
@[simp] theorem State.ruleTrigger_freeIx (w : Option (Nat × Copy)) : (s.ruleTrigger w).freeIx = s.freeIx := by
  unfold State.ruleTrigger; (repeat' split) <;> simp
@[simp] theorem State.ruleTrigger_pending (w : Option (Nat × Copy)) : (s.ruleTrigger w).pending = s.pending := by
  unfold State.ruleTrigger; (repeat' split) <;> simp

/-! ### State.consoleFlush -/

@[simp] theorem State.consoleFlush_rules : (s.consoleFlush ch).rules = s.rules := by
  unfold State.consoleFlush; (repeat' split) <;> simp
@[simp] theorem State.consoleFlush_images : (s.consoleFlush ch).images = s.images := by
  unfold State.consoleFlush; (repeat' split) <;> simp
@[simp] theorem State.consoleFlush_tick : (s.consoleFlush ch).tick = s.tick := by
  unfold State.consoleFlush; (repeat' split) <;> simp
@[simp] theorem State.consoleFlush_cmpA : (s.consoleFlush ch).cmpA = s.cmpA := by
  unfold State.consoleFlush; (repeat' split) <;> simp
@[simp] theorem State.consoleFlush_cmpB : (s.consoleFlush ch).cmpB = s.cmpB := by
  unfold State.consoleFlush; (repeat' split) <;> simp
@[simp] theorem State.consoleFlush_trigIn : (s.consoleFlush ch).trigIn = s.trigIn := by
  unfold State.consoleFlush; (repeat' split) <;> simp
@[simp] theorem State.consoleFlush_trigOut : (s.consoleFlush ch).trigOut = s.trigOut := by
  unfold State.consoleFlush; (repeat' split) <;> simp
@[simp] theorem State.consoleFlush_routes : (s.consoleFlush ch).routes = s.routes := by
  unfold State.consoleFlush; (repeat' split) <;> simp
@[simp] theorem State.consoleFlush_monitor : (s.consoleFlush ch).monitor = s.monitor := by
  unfold State.consoleFlush; (repeat' split) <;> simp
@[simp] theorem State.consoleFlush_engine : (s.consoleFlush ch).engine = s.engine := by
  unfold State.consoleFlush; (repeat' split) <;> simp
@[simp] theorem State.consoleFlush_supply : (s.consoleFlush ch).supply = s.supply := by
  unfold State.consoleFlush; (repeat' split) <;> simp
@[simp] theorem State.consoleFlush_inReset : (s.consoleFlush ch).inReset = s.inReset := by
  unfold State.consoleFlush; (repeat' split) <;> simp
@[simp] theorem State.consoleFlush_freeIx : (s.consoleFlush ch).freeIx = s.freeIx := by
  unfold State.consoleFlush; (repeat' split) <;> simp
@[simp] theorem State.consoleFlush_pending : (s.consoleFlush ch).pending = s.pending := by
  unfold State.consoleFlush; (repeat' split) <;> simp

/-! ### State.consoleTake -/

@[simp] theorem State.consoleTake_rules (b : Byte) : (s.consoleTake ch b).rules = s.rules := by
  unfold State.consoleTake; dsimp only; (repeat' split) <;> simp
@[simp] theorem State.consoleTake_images (b : Byte) : (s.consoleTake ch b).images = s.images := by
  unfold State.consoleTake; dsimp only; (repeat' split) <;> simp
@[simp] theorem State.consoleTake_tick (b : Byte) : (s.consoleTake ch b).tick = s.tick := by
  unfold State.consoleTake; dsimp only; (repeat' split) <;> simp
@[simp] theorem State.consoleTake_cmpA (b : Byte) : (s.consoleTake ch b).cmpA = s.cmpA := by
  unfold State.consoleTake; dsimp only; (repeat' split) <;> simp
@[simp] theorem State.consoleTake_cmpB (b : Byte) : (s.consoleTake ch b).cmpB = s.cmpB := by
  unfold State.consoleTake; dsimp only; (repeat' split) <;> simp
@[simp] theorem State.consoleTake_trigIn (b : Byte) : (s.consoleTake ch b).trigIn = s.trigIn := by
  unfold State.consoleTake; dsimp only; (repeat' split) <;> simp
@[simp] theorem State.consoleTake_trigOut (b : Byte) : (s.consoleTake ch b).trigOut = s.trigOut := by
  unfold State.consoleTake; dsimp only; (repeat' split) <;> simp
@[simp] theorem State.consoleTake_routes (b : Byte) : (s.consoleTake ch b).routes = s.routes := by
  unfold State.consoleTake; dsimp only; (repeat' split) <;> simp
@[simp] theorem State.consoleTake_monitor (b : Byte) : (s.consoleTake ch b).monitor = s.monitor := by
  unfold State.consoleTake; dsimp only; (repeat' split) <;> simp
@[simp] theorem State.consoleTake_engine (b : Byte) : (s.consoleTake ch b).engine = s.engine := by
  unfold State.consoleTake; dsimp only; (repeat' split) <;> simp
@[simp] theorem State.consoleTake_supply (b : Byte) : (s.consoleTake ch b).supply = s.supply := by
  unfold State.consoleTake; dsimp only; (repeat' split) <;> simp
@[simp] theorem State.consoleTake_inReset (b : Byte) : (s.consoleTake ch b).inReset = s.inReset := by
  unfold State.consoleTake; dsimp only; (repeat' split) <;> simp
@[simp] theorem State.consoleTake_freeIx (b : Byte) : (s.consoleTake ch b).freeIx = s.freeIx := by
  unfold State.consoleTake; dsimp only; (repeat' split) <;> simp
@[simp] theorem State.consoleTake_pending (b : Byte) : (s.consoleTake ch b).pending = s.pending := by
  unfold State.consoleTake; dsimp only; (repeat' split) <;> simp

/-! ### State.declareDegraded -/

@[simp] theorem State.declareDegraded_rules : (s.declareDegraded ch).rules = s.rules := by
  unfold State.declareDegraded; dsimp only; (repeat' split) <;> simp
@[simp] theorem State.declareDegraded_images : (s.declareDegraded ch).images = s.images := by
  unfold State.declareDegraded; dsimp only; (repeat' split) <;> simp
@[simp] theorem State.declareDegraded_tick : (s.declareDegraded ch).tick = s.tick := by
  unfold State.declareDegraded; dsimp only; (repeat' split) <;> simp
@[simp] theorem State.declareDegraded_cmpA : (s.declareDegraded ch).cmpA = s.cmpA := by
  unfold State.declareDegraded; dsimp only; (repeat' split) <;> simp
@[simp] theorem State.declareDegraded_cmpB : (s.declareDegraded ch).cmpB = s.cmpB := by
  unfold State.declareDegraded; dsimp only; (repeat' split) <;> simp
@[simp] theorem State.declareDegraded_trigIn : (s.declareDegraded ch).trigIn = s.trigIn := by
  unfold State.declareDegraded; dsimp only; (repeat' split) <;> simp
@[simp] theorem State.declareDegraded_trigOut : (s.declareDegraded ch).trigOut = s.trigOut := by
  unfold State.declareDegraded; dsimp only; (repeat' split) <;> simp
@[simp] theorem State.declareDegraded_routes : (s.declareDegraded ch).routes = s.routes := by
  unfold State.declareDegraded; dsimp only; (repeat' split) <;> simp
@[simp] theorem State.declareDegraded_monitor : (s.declareDegraded ch).monitor = s.monitor := by
  unfold State.declareDegraded; dsimp only; (repeat' split) <;> simp
@[simp] theorem State.declareDegraded_engine : (s.declareDegraded ch).engine = s.engine := by
  unfold State.declareDegraded; dsimp only; (repeat' split) <;> simp
@[simp] theorem State.declareDegraded_supply : (s.declareDegraded ch).supply = s.supply := by
  unfold State.declareDegraded; dsimp only; (repeat' split) <;> simp
@[simp] theorem State.declareDegraded_inReset : (s.declareDegraded ch).inReset = s.inReset := by
  unfold State.declareDegraded; dsimp only; (repeat' split) <;> simp
@[simp] theorem State.declareDegraded_freeIx : (s.declareDegraded ch).freeIx = s.freeIx := by
  unfold State.declareDegraded; dsimp only; (repeat' split) <;> simp
@[simp] theorem State.declareDegraded_pending : (s.declareDegraded ch).pending = s.pending := by
  unfold State.declareDegraded; dsimp only; (repeat' split) <;> simp

/-! ### State.clearDegraded -/

@[simp] theorem State.clearDegraded_rules : (s.clearDegraded ch).rules = s.rules := by
  unfold State.clearDegraded; dsimp only; (repeat' split) <;> simp
@[simp] theorem State.clearDegraded_images : (s.clearDegraded ch).images = s.images := by
  unfold State.clearDegraded; dsimp only; (repeat' split) <;> simp
@[simp] theorem State.clearDegraded_tick : (s.clearDegraded ch).tick = s.tick := by
  unfold State.clearDegraded; dsimp only; (repeat' split) <;> simp
@[simp] theorem State.clearDegraded_cmpA : (s.clearDegraded ch).cmpA = s.cmpA := by
  unfold State.clearDegraded; dsimp only; (repeat' split) <;> simp
@[simp] theorem State.clearDegraded_cmpB : (s.clearDegraded ch).cmpB = s.cmpB := by
  unfold State.clearDegraded; dsimp only; (repeat' split) <;> simp
@[simp] theorem State.clearDegraded_trigIn : (s.clearDegraded ch).trigIn = s.trigIn := by
  unfold State.clearDegraded; dsimp only; (repeat' split) <;> simp
@[simp] theorem State.clearDegraded_trigOut : (s.clearDegraded ch).trigOut = s.trigOut := by
  unfold State.clearDegraded; dsimp only; (repeat' split) <;> simp
@[simp] theorem State.clearDegraded_routes : (s.clearDegraded ch).routes = s.routes := by
  unfold State.clearDegraded; dsimp only; (repeat' split) <;> simp
@[simp] theorem State.clearDegraded_monitor : (s.clearDegraded ch).monitor = s.monitor := by
  unfold State.clearDegraded; dsimp only; (repeat' split) <;> simp
@[simp] theorem State.clearDegraded_engine : (s.clearDegraded ch).engine = s.engine := by
  unfold State.clearDegraded; dsimp only; (repeat' split) <;> simp
@[simp] theorem State.clearDegraded_supply : (s.clearDegraded ch).supply = s.supply := by
  unfold State.clearDegraded; dsimp only; (repeat' split) <;> simp
@[simp] theorem State.clearDegraded_inReset : (s.clearDegraded ch).inReset = s.inReset := by
  unfold State.clearDegraded; dsimp only; (repeat' split) <;> simp
@[simp] theorem State.clearDegraded_freeIx : (s.clearDegraded ch).freeIx = s.freeIx := by
  unfold State.clearDegraded; dsimp only; (repeat' split) <;> simp
@[simp] theorem State.clearDegraded_pending : (s.clearDegraded ch).pending = s.pending := by
  unfold State.clearDegraded; dsimp only; (repeat' split) <;> simp

/-! ### State.takeMisframe -/

@[simp] theorem State.takeMisframe_rules : (s.takeMisframe ch).rules = s.rules := by
  unfold State.takeMisframe; dsimp only; (repeat' split) <;> simp
@[simp] theorem State.takeMisframe_images : (s.takeMisframe ch).images = s.images := by
  unfold State.takeMisframe; dsimp only; (repeat' split) <;> simp
@[simp] theorem State.takeMisframe_tick : (s.takeMisframe ch).tick = s.tick := by
  unfold State.takeMisframe; dsimp only; (repeat' split) <;> simp
@[simp] theorem State.takeMisframe_cmpA : (s.takeMisframe ch).cmpA = s.cmpA := by
  unfold State.takeMisframe; dsimp only; (repeat' split) <;> simp
@[simp] theorem State.takeMisframe_cmpB : (s.takeMisframe ch).cmpB = s.cmpB := by
  unfold State.takeMisframe; dsimp only; (repeat' split) <;> simp
@[simp] theorem State.takeMisframe_trigIn : (s.takeMisframe ch).trigIn = s.trigIn := by
  unfold State.takeMisframe; dsimp only; (repeat' split) <;> simp
@[simp] theorem State.takeMisframe_trigOut : (s.takeMisframe ch).trigOut = s.trigOut := by
  unfold State.takeMisframe; dsimp only; (repeat' split) <;> simp
@[simp] theorem State.takeMisframe_routes : (s.takeMisframe ch).routes = s.routes := by
  unfold State.takeMisframe; dsimp only; (repeat' split) <;> simp
@[simp] theorem State.takeMisframe_monitor : (s.takeMisframe ch).monitor = s.monitor := by
  unfold State.takeMisframe; dsimp only; (repeat' split) <;> simp
@[simp] theorem State.takeMisframe_engine : (s.takeMisframe ch).engine = s.engine := by
  unfold State.takeMisframe; dsimp only; (repeat' split) <;> simp
@[simp] theorem State.takeMisframe_supply : (s.takeMisframe ch).supply = s.supply := by
  unfold State.takeMisframe; dsimp only; (repeat' split) <;> simp
@[simp] theorem State.takeMisframe_inReset : (s.takeMisframe ch).inReset = s.inReset := by
  unfold State.takeMisframe; dsimp only; (repeat' split) <;> simp
@[simp] theorem State.takeMisframe_freeIx : (s.takeMisframe ch).freeIx = s.freeIx := by
  unfold State.takeMisframe; dsimp only; (repeat' split) <;> simp
@[simp] theorem State.takeMisframe_pending : (s.takeMisframe ch).pending = s.pending := by
  unfold State.takeMisframe; dsimp only; (repeat' split) <;> simp

/-! ### State.takeClean -/

@[simp] theorem State.takeClean_rules : (s.takeClean ch).rules = s.rules := by
  unfold State.takeClean; dsimp only; (repeat' split) <;> simp
@[simp] theorem State.takeClean_images : (s.takeClean ch).images = s.images := by
  unfold State.takeClean; dsimp only; (repeat' split) <;> simp
@[simp] theorem State.takeClean_tick : (s.takeClean ch).tick = s.tick := by
  unfold State.takeClean; dsimp only; (repeat' split) <;> simp
@[simp] theorem State.takeClean_cmpA : (s.takeClean ch).cmpA = s.cmpA := by
  unfold State.takeClean; dsimp only; (repeat' split) <;> simp
@[simp] theorem State.takeClean_cmpB : (s.takeClean ch).cmpB = s.cmpB := by
  unfold State.takeClean; dsimp only; (repeat' split) <;> simp
@[simp] theorem State.takeClean_trigIn : (s.takeClean ch).trigIn = s.trigIn := by
  unfold State.takeClean; dsimp only; (repeat' split) <;> simp
@[simp] theorem State.takeClean_trigOut : (s.takeClean ch).trigOut = s.trigOut := by
  unfold State.takeClean; dsimp only; (repeat' split) <;> simp
@[simp] theorem State.takeClean_routes : (s.takeClean ch).routes = s.routes := by
  unfold State.takeClean; dsimp only; (repeat' split) <;> simp
@[simp] theorem State.takeClean_monitor : (s.takeClean ch).monitor = s.monitor := by
  unfold State.takeClean; dsimp only; (repeat' split) <;> simp
@[simp] theorem State.takeClean_engine : (s.takeClean ch).engine = s.engine := by
  unfold State.takeClean; dsimp only; (repeat' split) <;> simp
@[simp] theorem State.takeClean_supply : (s.takeClean ch).supply = s.supply := by
  unfold State.takeClean; dsimp only; (repeat' split) <;> simp
@[simp] theorem State.takeClean_inReset : (s.takeClean ch).inReset = s.inReset := by
  unfold State.takeClean; dsimp only; (repeat' split) <;> simp
@[simp] theorem State.takeClean_freeIx : (s.takeClean ch).freeIx = s.freeIx := by
  unfold State.takeClean; dsimp only; (repeat' split) <;> simp
@[simp] theorem State.takeClean_pending : (s.takeClean ch).pending = s.pending := by
  unfold State.takeClean; dsimp only; (repeat' split) <;> simp

/-! ### State.misframe -/

@[simp] theorem State.misframe_rules : (s.misframe ch).rules = s.rules := by simp [State.misframe]
@[simp] theorem State.misframe_images : (s.misframe ch).images = s.images := by simp [State.misframe]
@[simp] theorem State.misframe_tick : (s.misframe ch).tick = s.tick := by simp [State.misframe]
@[simp] theorem State.misframe_cmpA : (s.misframe ch).cmpA = s.cmpA := by simp [State.misframe]
@[simp] theorem State.misframe_cmpB : (s.misframe ch).cmpB = s.cmpB := by simp [State.misframe]
@[simp] theorem State.misframe_trigIn : (s.misframe ch).trigIn = s.trigIn := by simp [State.misframe]
@[simp] theorem State.misframe_trigOut : (s.misframe ch).trigOut = s.trigOut := by simp [State.misframe]
@[simp] theorem State.misframe_routes : (s.misframe ch).routes = s.routes := by simp [State.misframe]
@[simp] theorem State.misframe_monitor : (s.misframe ch).monitor = s.monitor := by simp [State.misframe]
@[simp] theorem State.misframe_engine : (s.misframe ch).engine = s.engine := by simp [State.misframe]
@[simp] theorem State.misframe_supply : (s.misframe ch).supply = s.supply := by simp [State.misframe]
@[simp] theorem State.misframe_inReset : (s.misframe ch).inReset = s.inReset := by simp [State.misframe]
@[simp] theorem State.misframe_freeIx : (s.misframe ch).freeIx = s.freeIx := by simp [State.misframe]
@[simp] theorem State.misframe_pending : (s.misframe ch).pending = s.pending := by simp [State.misframe]

/-! ### State.writeWindow -/

@[simp] theorem State.writeWindow_ch0 (x : Exchange) : (s.writeWindow x).ch0 = s.ch0 := by
  unfold State.writeWindow; (repeat' split) <;> simp
@[simp] theorem State.writeWindow_ch1 (x : Exchange) : (s.writeWindow x).ch1 = s.ch1 := by
  unfold State.writeWindow; (repeat' split) <;> simp
@[simp] theorem State.writeWindow_rules (x : Exchange) : (s.writeWindow x).rules = s.rules := by
  unfold State.writeWindow; (repeat' split) <;> simp
@[simp] theorem State.writeWindow_log (x : Exchange) : (s.writeWindow x).log = s.log := by
  unfold State.writeWindow; (repeat' split) <;> simp
@[simp] theorem State.writeWindow_tick (x : Exchange) : (s.writeWindow x).tick = s.tick := by
  unfold State.writeWindow; (repeat' split) <;> simp
@[simp] theorem State.writeWindow_cmpA (x : Exchange) : (s.writeWindow x).cmpA = s.cmpA := by
  unfold State.writeWindow; (repeat' split) <;> simp
@[simp] theorem State.writeWindow_cmpB (x : Exchange) : (s.writeWindow x).cmpB = s.cmpB := by
  unfold State.writeWindow; (repeat' split) <;> simp
@[simp] theorem State.writeWindow_trigIn (x : Exchange) : (s.writeWindow x).trigIn = s.trigIn := by
  unfold State.writeWindow; (repeat' split) <;> simp
@[simp] theorem State.writeWindow_trigOut (x : Exchange) : (s.writeWindow x).trigOut = s.trigOut := by
  unfold State.writeWindow; (repeat' split) <;> simp
@[simp] theorem State.writeWindow_routes (x : Exchange) : (s.writeWindow x).routes = s.routes := by
  unfold State.writeWindow; (repeat' split) <;> simp
@[simp] theorem State.writeWindow_monitor (x : Exchange) : (s.writeWindow x).monitor = s.monitor := by
  unfold State.writeWindow; (repeat' split) <;> simp
@[simp] theorem State.writeWindow_engine (x : Exchange) : (s.writeWindow x).engine = s.engine := by
  unfold State.writeWindow; (repeat' split) <;> simp
@[simp] theorem State.writeWindow_supply (x : Exchange) : (s.writeWindow x).supply = s.supply := by
  unfold State.writeWindow; (repeat' split) <;> simp
@[simp] theorem State.writeWindow_link (x : Exchange) : (s.writeWindow x).link = s.link := by
  unfold State.writeWindow; (repeat' split) <;> simp
@[simp] theorem State.writeWindow_inReset (x : Exchange) : (s.writeWindow x).inReset = s.inReset := by
  unfold State.writeWindow; (repeat' split) <;> simp
@[simp] theorem State.writeWindow_freeIx (x : Exchange) : (s.writeWindow x).freeIx = s.freeIx := by
  unfold State.writeWindow; (repeat' split) <;> simp
@[simp] theorem State.writeWindow_pending (x : Exchange) : (s.writeWindow x).pending = s.pending := by
  unfold State.writeWindow; (repeat' split) <;> simp

/-! ### State.releaseRefs -/

@[simp] theorem State.releaseRefs_ch0 (x : Exchange) : (s.releaseRefs x).ch0 = s.ch0 := rfl
@[simp] theorem State.releaseRefs_ch1 (x : Exchange) : (s.releaseRefs x).ch1 = s.ch1 := rfl
@[simp] theorem State.releaseRefs_images (x : Exchange) : (s.releaseRefs x).images = s.images := rfl
@[simp] theorem State.releaseRefs_log (x : Exchange) : (s.releaseRefs x).log = s.log := rfl
@[simp] theorem State.releaseRefs_tick (x : Exchange) : (s.releaseRefs x).tick = s.tick := rfl
@[simp] theorem State.releaseRefs_cmpA (x : Exchange) : (s.releaseRefs x).cmpA = s.cmpA := rfl
@[simp] theorem State.releaseRefs_cmpB (x : Exchange) : (s.releaseRefs x).cmpB = s.cmpB := rfl
@[simp] theorem State.releaseRefs_trigIn (x : Exchange) : (s.releaseRefs x).trigIn = s.trigIn := rfl
@[simp] theorem State.releaseRefs_trigOut (x : Exchange) : (s.releaseRefs x).trigOut = s.trigOut := rfl
@[simp] theorem State.releaseRefs_routes (x : Exchange) : (s.releaseRefs x).routes = s.routes := rfl
@[simp] theorem State.releaseRefs_monitor (x : Exchange) : (s.releaseRefs x).monitor = s.monitor := rfl
@[simp] theorem State.releaseRefs_engine (x : Exchange) : (s.releaseRefs x).engine = s.engine := rfl
@[simp] theorem State.releaseRefs_supply (x : Exchange) : (s.releaseRefs x).supply = s.supply := rfl
@[simp] theorem State.releaseRefs_link (x : Exchange) : (s.releaseRefs x).link = s.link := rfl
@[simp] theorem State.releaseRefs_inReset (x : Exchange) : (s.releaseRefs x).inReset = s.inReset := rfl
@[simp] theorem State.releaseRefs_freeIx (x : Exchange) : (s.releaseRefs x).freeIx = s.freeIx := rfl
@[simp] theorem State.releaseRefs_pending (x : Exchange) : (s.releaseRefs x).pending = s.pending := rfl

/-! ### State.endExchange -/

@[simp] theorem State.endExchange_tick (k : EndKind) : (s.endExchange ch k).tick = s.tick := by
  unfold State.endExchange; dsimp only; (repeat' split) <;> simp
@[simp] theorem State.endExchange_cmpA (k : EndKind) : (s.endExchange ch k).cmpA = s.cmpA := by
  unfold State.endExchange; dsimp only; (repeat' split) <;> simp
@[simp] theorem State.endExchange_cmpB (k : EndKind) : (s.endExchange ch k).cmpB = s.cmpB := by
  unfold State.endExchange; dsimp only; (repeat' split) <;> simp
@[simp] theorem State.endExchange_trigIn (k : EndKind) : (s.endExchange ch k).trigIn = s.trigIn := by
  unfold State.endExchange; dsimp only; (repeat' split) <;> simp
@[simp] theorem State.endExchange_trigOut (k : EndKind) : (s.endExchange ch k).trigOut = s.trigOut := by
  unfold State.endExchange; dsimp only; (repeat' split) <;> simp
@[simp] theorem State.endExchange_routes (k : EndKind) : (s.endExchange ch k).routes = s.routes := by
  unfold State.endExchange; dsimp only; (repeat' split) <;> simp
@[simp] theorem State.endExchange_monitor (k : EndKind) : (s.endExchange ch k).monitor = s.monitor := by
  unfold State.endExchange; dsimp only; (repeat' split) <;> simp
@[simp] theorem State.endExchange_engine (k : EndKind) : (s.endExchange ch k).engine = s.engine := by
  unfold State.endExchange; dsimp only; (repeat' split) <;> simp
@[simp] theorem State.endExchange_supply (k : EndKind) : (s.endExchange ch k).supply = s.supply := by
  unfold State.endExchange; dsimp only; (repeat' split) <;> simp
@[simp] theorem State.endExchange_inReset (k : EndKind) : (s.endExchange ch k).inReset = s.inReset := by
  unfold State.endExchange; dsimp only; (repeat' split) <;> simp
@[simp] theorem State.endExchange_freeIx (k : EndKind) : (s.endExchange ch k).freeIx = s.freeIx := by
  unfold State.endExchange; dsimp only; (repeat' split) <;> simp
@[simp] theorem State.endExchange_pending (k : EndKind) : (s.endExchange ch k).pending = s.pending := by
  unfold State.endExchange; dsimp only; (repeat' split) <;> simp

/-! ### State.noteNack -/

@[simp] theorem State.noteNack_rules : (s.noteNack ch).rules = s.rules := by
  unfold State.noteNack; dsimp only; (repeat' split) <;> simp
@[simp] theorem State.noteNack_images : (s.noteNack ch).images = s.images := by
  unfold State.noteNack; dsimp only; (repeat' split) <;> simp
@[simp] theorem State.noteNack_log : (s.noteNack ch).log = s.log := by
  unfold State.noteNack; dsimp only; (repeat' split) <;> simp
@[simp] theorem State.noteNack_tick : (s.noteNack ch).tick = s.tick := by
  unfold State.noteNack; dsimp only; (repeat' split) <;> simp
@[simp] theorem State.noteNack_cmpA : (s.noteNack ch).cmpA = s.cmpA := by
  unfold State.noteNack; dsimp only; (repeat' split) <;> simp
@[simp] theorem State.noteNack_cmpB : (s.noteNack ch).cmpB = s.cmpB := by
  unfold State.noteNack; dsimp only; (repeat' split) <;> simp
@[simp] theorem State.noteNack_trigIn : (s.noteNack ch).trigIn = s.trigIn := by
  unfold State.noteNack; dsimp only; (repeat' split) <;> simp
@[simp] theorem State.noteNack_trigOut : (s.noteNack ch).trigOut = s.trigOut := by
  unfold State.noteNack; dsimp only; (repeat' split) <;> simp
@[simp] theorem State.noteNack_routes : (s.noteNack ch).routes = s.routes := by
  unfold State.noteNack; dsimp only; (repeat' split) <;> simp
@[simp] theorem State.noteNack_monitor : (s.noteNack ch).monitor = s.monitor := by
  unfold State.noteNack; dsimp only; (repeat' split) <;> simp
@[simp] theorem State.noteNack_engine : (s.noteNack ch).engine = s.engine := by
  unfold State.noteNack; dsimp only; (repeat' split) <;> simp
@[simp] theorem State.noteNack_supply : (s.noteNack ch).supply = s.supply := by
  unfold State.noteNack; dsimp only; (repeat' split) <;> simp
@[simp] theorem State.noteNack_link : (s.noteNack ch).link = s.link := by
  unfold State.noteNack; dsimp only; (repeat' split) <;> simp
@[simp] theorem State.noteNack_inReset : (s.noteNack ch).inReset = s.inReset := by
  unfold State.noteNack; dsimp only; (repeat' split) <;> simp
@[simp] theorem State.noteNack_freeIx : (s.noteNack ch).freeIx = s.freeIx := by
  unfold State.noteNack; dsimp only; (repeat' split) <;> simp
@[simp] theorem State.noteNack_pending : (s.noteNack ch).pending = s.pending := by
  unfold State.noteNack; dsimp only; (repeat' split) <;> simp

/-! ### State.refuseAddress -/

@[simp] theorem State.refuseAddress_rules (d : Disposition) : (s.refuseAddress ch d).rules = s.rules := by simp [State.refuseAddress]
@[simp] theorem State.refuseAddress_images (d : Disposition) : (s.refuseAddress ch d).images = s.images := by simp [State.refuseAddress]
@[simp] theorem State.refuseAddress_log (d : Disposition) : (s.refuseAddress ch d).log = s.log := by simp [State.refuseAddress]
@[simp] theorem State.refuseAddress_tick (d : Disposition) : (s.refuseAddress ch d).tick = s.tick := by simp [State.refuseAddress]
@[simp] theorem State.refuseAddress_cmpA (d : Disposition) : (s.refuseAddress ch d).cmpA = s.cmpA := by simp [State.refuseAddress]
@[simp] theorem State.refuseAddress_cmpB (d : Disposition) : (s.refuseAddress ch d).cmpB = s.cmpB := by simp [State.refuseAddress]
@[simp] theorem State.refuseAddress_trigIn (d : Disposition) : (s.refuseAddress ch d).trigIn = s.trigIn := by simp [State.refuseAddress]
@[simp] theorem State.refuseAddress_trigOut (d : Disposition) : (s.refuseAddress ch d).trigOut = s.trigOut := by simp [State.refuseAddress]
@[simp] theorem State.refuseAddress_routes (d : Disposition) : (s.refuseAddress ch d).routes = s.routes := by simp [State.refuseAddress]
@[simp] theorem State.refuseAddress_monitor (d : Disposition) : (s.refuseAddress ch d).monitor = s.monitor := by simp [State.refuseAddress]
@[simp] theorem State.refuseAddress_engine (d : Disposition) : (s.refuseAddress ch d).engine = s.engine := by simp [State.refuseAddress]
@[simp] theorem State.refuseAddress_supply (d : Disposition) : (s.refuseAddress ch d).supply = s.supply := by simp [State.refuseAddress]
@[simp] theorem State.refuseAddress_link (d : Disposition) : (s.refuseAddress ch d).link = s.link := by simp [State.refuseAddress]
@[simp] theorem State.refuseAddress_inReset (d : Disposition) : (s.refuseAddress ch d).inReset = s.inReset := by simp [State.refuseAddress]
@[simp] theorem State.refuseAddress_freeIx (d : Disposition) : (s.refuseAddress ch d).freeIx = s.freeIx := by simp [State.refuseAddress]
@[simp] theorem State.refuseAddress_pending (d : Disposition) : (s.refuseAddress ch d).pending = s.pending := by simp [State.refuseAddress]

/-! ### State.answerLocal -/

@[simp] theorem State.answerLocal_rules (d : Disposition) (k : Option (Fin 4)) : (s.answerLocal ch d k).rules = s.rules := by simp [State.answerLocal]
@[simp] theorem State.answerLocal_images (d : Disposition) (k : Option (Fin 4)) : (s.answerLocal ch d k).images = s.images := by simp [State.answerLocal]
@[simp] theorem State.answerLocal_log (d : Disposition) (k : Option (Fin 4)) : (s.answerLocal ch d k).log = s.log := by simp [State.answerLocal]
@[simp] theorem State.answerLocal_tick (d : Disposition) (k : Option (Fin 4)) : (s.answerLocal ch d k).tick = s.tick := by simp [State.answerLocal]
@[simp] theorem State.answerLocal_cmpA (d : Disposition) (k : Option (Fin 4)) : (s.answerLocal ch d k).cmpA = s.cmpA := by simp [State.answerLocal]
@[simp] theorem State.answerLocal_cmpB (d : Disposition) (k : Option (Fin 4)) : (s.answerLocal ch d k).cmpB = s.cmpB := by simp [State.answerLocal]
@[simp] theorem State.answerLocal_trigIn (d : Disposition) (k : Option (Fin 4)) : (s.answerLocal ch d k).trigIn = s.trigIn := by simp [State.answerLocal]
@[simp] theorem State.answerLocal_trigOut (d : Disposition) (k : Option (Fin 4)) : (s.answerLocal ch d k).trigOut = s.trigOut := by simp [State.answerLocal]
@[simp] theorem State.answerLocal_routes (d : Disposition) (k : Option (Fin 4)) : (s.answerLocal ch d k).routes = s.routes := by simp [State.answerLocal]
@[simp] theorem State.answerLocal_monitor (d : Disposition) (k : Option (Fin 4)) : (s.answerLocal ch d k).monitor = s.monitor := by simp [State.answerLocal]
@[simp] theorem State.answerLocal_engine (d : Disposition) (k : Option (Fin 4)) : (s.answerLocal ch d k).engine = s.engine := by simp [State.answerLocal]
@[simp] theorem State.answerLocal_supply (d : Disposition) (k : Option (Fin 4)) : (s.answerLocal ch d k).supply = s.supply := by simp [State.answerLocal]
@[simp] theorem State.answerLocal_link (d : Disposition) (k : Option (Fin 4)) : (s.answerLocal ch d k).link = s.link := by simp [State.answerLocal]
@[simp] theorem State.answerLocal_inReset (d : Disposition) (k : Option (Fin 4)) : (s.answerLocal ch d k).inReset = s.inReset := by simp [State.answerLocal]
@[simp] theorem State.answerLocal_freeIx (d : Disposition) (k : Option (Fin 4)) : (s.answerLocal ch d k).freeIx = s.freeIx := by simp [State.answerLocal]
@[simp] theorem State.answerLocal_pending (d : Disposition) (k : Option (Fin 4)) : (s.answerLocal ch d k).pending = s.pending := by simp [State.answerLocal]

/-! ### State.applyForward -/

@[simp] theorem State.applyForward_rules : (s.applyForward ch).rules = s.rules := by simp [State.applyForward]
@[simp] theorem State.applyForward_images : (s.applyForward ch).images = s.images := by simp [State.applyForward]
@[simp] theorem State.applyForward_log : (s.applyForward ch).log = s.log := by simp [State.applyForward]
@[simp] theorem State.applyForward_tick : (s.applyForward ch).tick = s.tick := by simp [State.applyForward]
@[simp] theorem State.applyForward_cmpA : (s.applyForward ch).cmpA = s.cmpA := by simp [State.applyForward]
@[simp] theorem State.applyForward_cmpB : (s.applyForward ch).cmpB = s.cmpB := by simp [State.applyForward]
@[simp] theorem State.applyForward_trigIn : (s.applyForward ch).trigIn = s.trigIn := by simp [State.applyForward]
@[simp] theorem State.applyForward_trigOut : (s.applyForward ch).trigOut = s.trigOut := by simp [State.applyForward]
@[simp] theorem State.applyForward_routes : (s.applyForward ch).routes = s.routes := by simp [State.applyForward]
@[simp] theorem State.applyForward_monitor : (s.applyForward ch).monitor = s.monitor := by simp [State.applyForward]
@[simp] theorem State.applyForward_engine : (s.applyForward ch).engine = s.engine := by simp [State.applyForward]
@[simp] theorem State.applyForward_supply : (s.applyForward ch).supply = s.supply := by simp [State.applyForward]
@[simp] theorem State.applyForward_link : (s.applyForward ch).link = s.link := by simp [State.applyForward]
@[simp] theorem State.applyForward_inReset : (s.applyForward ch).inReset = s.inReset := by simp [State.applyForward]
@[simp] theorem State.applyForward_freeIx : (s.applyForward ch).freeIx = s.freeIx := by simp [State.applyForward]
@[simp] theorem State.applyForward_pending : (s.applyForward ch).pending = s.pending := by simp [State.applyForward]

/-! ### State.applyEmulate -/

@[simp] theorem State.applyEmulate_rules (k : Fin 4) : (s.applyEmulate ch k).rules = s.rules := by
  unfold State.applyEmulate; (repeat' split) <;> simp
@[simp] theorem State.applyEmulate_images (k : Fin 4) : (s.applyEmulate ch k).images = s.images := by
  unfold State.applyEmulate; (repeat' split) <;> simp
@[simp] theorem State.applyEmulate_log (k : Fin 4) : (s.applyEmulate ch k).log = s.log := by
  unfold State.applyEmulate; (repeat' split) <;> simp
@[simp] theorem State.applyEmulate_tick (k : Fin 4) : (s.applyEmulate ch k).tick = s.tick := by
  unfold State.applyEmulate; (repeat' split) <;> simp
@[simp] theorem State.applyEmulate_cmpA (k : Fin 4) : (s.applyEmulate ch k).cmpA = s.cmpA := by
  unfold State.applyEmulate; (repeat' split) <;> simp
@[simp] theorem State.applyEmulate_cmpB (k : Fin 4) : (s.applyEmulate ch k).cmpB = s.cmpB := by
  unfold State.applyEmulate; (repeat' split) <;> simp
@[simp] theorem State.applyEmulate_trigIn (k : Fin 4) : (s.applyEmulate ch k).trigIn = s.trigIn := by
  unfold State.applyEmulate; (repeat' split) <;> simp
@[simp] theorem State.applyEmulate_trigOut (k : Fin 4) : (s.applyEmulate ch k).trigOut = s.trigOut := by
  unfold State.applyEmulate; (repeat' split) <;> simp
@[simp] theorem State.applyEmulate_routes (k : Fin 4) : (s.applyEmulate ch k).routes = s.routes := by
  unfold State.applyEmulate; (repeat' split) <;> simp
@[simp] theorem State.applyEmulate_monitor (k : Fin 4) : (s.applyEmulate ch k).monitor = s.monitor := by
  unfold State.applyEmulate; (repeat' split) <;> simp
@[simp] theorem State.applyEmulate_engine (k : Fin 4) : (s.applyEmulate ch k).engine = s.engine := by
  unfold State.applyEmulate; (repeat' split) <;> simp
@[simp] theorem State.applyEmulate_supply (k : Fin 4) : (s.applyEmulate ch k).supply = s.supply := by
  unfold State.applyEmulate; (repeat' split) <;> simp
@[simp] theorem State.applyEmulate_link (k : Fin 4) : (s.applyEmulate ch k).link = s.link := by
  unfold State.applyEmulate; (repeat' split) <;> simp
@[simp] theorem State.applyEmulate_inReset (k : Fin 4) : (s.applyEmulate ch k).inReset = s.inReset := by
  unfold State.applyEmulate; (repeat' split) <;> simp
@[simp] theorem State.applyEmulate_freeIx (k : Fin 4) : (s.applyEmulate ch k).freeIx = s.freeIx := by
  unfold State.applyEmulate; (repeat' split) <;> simp
@[simp] theorem State.applyEmulate_pending (k : Fin 4) : (s.applyEmulate ch k).pending = s.pending := by
  unfold State.applyEmulate; (repeat' split) <;> simp

/-! ### State.applyConsole -/

@[simp] theorem State.applyConsole_rules : (s.applyConsole ch).rules = s.rules := by
  unfold State.applyConsole; (repeat' split) <;> simp
@[simp] theorem State.applyConsole_images : (s.applyConsole ch).images = s.images := by
  unfold State.applyConsole; (repeat' split) <;> simp
@[simp] theorem State.applyConsole_log : (s.applyConsole ch).log = s.log := by
  unfold State.applyConsole; (repeat' split) <;> simp
@[simp] theorem State.applyConsole_tick : (s.applyConsole ch).tick = s.tick := by
  unfold State.applyConsole; (repeat' split) <;> simp
@[simp] theorem State.applyConsole_cmpA : (s.applyConsole ch).cmpA = s.cmpA := by
  unfold State.applyConsole; (repeat' split) <;> simp
@[simp] theorem State.applyConsole_cmpB : (s.applyConsole ch).cmpB = s.cmpB := by
  unfold State.applyConsole; (repeat' split) <;> simp
@[simp] theorem State.applyConsole_trigIn : (s.applyConsole ch).trigIn = s.trigIn := by
  unfold State.applyConsole; (repeat' split) <;> simp
@[simp] theorem State.applyConsole_trigOut : (s.applyConsole ch).trigOut = s.trigOut := by
  unfold State.applyConsole; (repeat' split) <;> simp
@[simp] theorem State.applyConsole_routes : (s.applyConsole ch).routes = s.routes := by
  unfold State.applyConsole; (repeat' split) <;> simp
@[simp] theorem State.applyConsole_monitor : (s.applyConsole ch).monitor = s.monitor := by
  unfold State.applyConsole; (repeat' split) <;> simp
@[simp] theorem State.applyConsole_engine : (s.applyConsole ch).engine = s.engine := by
  unfold State.applyConsole; (repeat' split) <;> simp
@[simp] theorem State.applyConsole_supply : (s.applyConsole ch).supply = s.supply := by
  unfold State.applyConsole; (repeat' split) <;> simp
@[simp] theorem State.applyConsole_link : (s.applyConsole ch).link = s.link := by
  unfold State.applyConsole; (repeat' split) <;> simp
@[simp] theorem State.applyConsole_inReset : (s.applyConsole ch).inReset = s.inReset := by
  unfold State.applyConsole; (repeat' split) <;> simp
@[simp] theorem State.applyConsole_freeIx : (s.applyConsole ch).freeIx = s.freeIx := by
  unfold State.applyConsole; (repeat' split) <;> simp
@[simp] theorem State.applyConsole_pending : (s.applyConsole ch).pending = s.pending := by
  unfold State.applyConsole; (repeat' split) <;> simp

/-! ### State.refuseByte -/

@[simp] theorem State.refuseByte_rules : (s.refuseByte ch).rules = s.rules := by simp [State.refuseByte]
@[simp] theorem State.refuseByte_images : (s.refuseByte ch).images = s.images := by simp [State.refuseByte]
@[simp] theorem State.refuseByte_log : (s.refuseByte ch).log = s.log := by simp [State.refuseByte]
@[simp] theorem State.refuseByte_tick : (s.refuseByte ch).tick = s.tick := by simp [State.refuseByte]
@[simp] theorem State.refuseByte_cmpA : (s.refuseByte ch).cmpA = s.cmpA := by simp [State.refuseByte]
@[simp] theorem State.refuseByte_cmpB : (s.refuseByte ch).cmpB = s.cmpB := by simp [State.refuseByte]
@[simp] theorem State.refuseByte_trigIn : (s.refuseByte ch).trigIn = s.trigIn := by simp [State.refuseByte]
@[simp] theorem State.refuseByte_trigOut : (s.refuseByte ch).trigOut = s.trigOut := by simp [State.refuseByte]
@[simp] theorem State.refuseByte_routes : (s.refuseByte ch).routes = s.routes := by simp [State.refuseByte]
@[simp] theorem State.refuseByte_monitor : (s.refuseByte ch).monitor = s.monitor := by simp [State.refuseByte]
@[simp] theorem State.refuseByte_engine : (s.refuseByte ch).engine = s.engine := by simp [State.refuseByte]
@[simp] theorem State.refuseByte_supply : (s.refuseByte ch).supply = s.supply := by simp [State.refuseByte]
@[simp] theorem State.refuseByte_link : (s.refuseByte ch).link = s.link := by simp [State.refuseByte]
@[simp] theorem State.refuseByte_inReset : (s.refuseByte ch).inReset = s.inReset := by simp [State.refuseByte]
@[simp] theorem State.refuseByte_freeIx : (s.refuseByte ch).freeIx = s.freeIx := by simp [State.refuseByte]
@[simp] theorem State.refuseByte_pending : (s.refuseByte ch).pending = s.pending := by simp [State.refuseByte]

/-! ### State.useByte -/

@[simp] theorem State.useByte_rules : (s.useByte ch).rules = s.rules := by simp [State.useByte]
@[simp] theorem State.useByte_images : (s.useByte ch).images = s.images := by simp [State.useByte]
@[simp] theorem State.useByte_log : (s.useByte ch).log = s.log := by simp [State.useByte]
@[simp] theorem State.useByte_tick : (s.useByte ch).tick = s.tick := by simp [State.useByte]
@[simp] theorem State.useByte_cmpA : (s.useByte ch).cmpA = s.cmpA := by simp [State.useByte]
@[simp] theorem State.useByte_cmpB : (s.useByte ch).cmpB = s.cmpB := by simp [State.useByte]
@[simp] theorem State.useByte_trigIn : (s.useByte ch).trigIn = s.trigIn := by simp [State.useByte]
@[simp] theorem State.useByte_trigOut : (s.useByte ch).trigOut = s.trigOut := by simp [State.useByte]
@[simp] theorem State.useByte_routes : (s.useByte ch).routes = s.routes := by simp [State.useByte]
@[simp] theorem State.useByte_monitor : (s.useByte ch).monitor = s.monitor := by simp [State.useByte]
@[simp] theorem State.useByte_engine : (s.useByte ch).engine = s.engine := by simp [State.useByte]
@[simp] theorem State.useByte_supply : (s.useByte ch).supply = s.supply := by simp [State.useByte]
@[simp] theorem State.useByte_link : (s.useByte ch).link = s.link := by simp [State.useByte]
@[simp] theorem State.useByte_inReset : (s.useByte ch).inReset = s.inReset := by simp [State.useByte]
@[simp] theorem State.useByte_freeIx : (s.useByte ch).freeIx = s.freeIx := by simp [State.useByte]
@[simp] theorem State.useByte_pending : (s.useByte ch).pending = s.pending := by simp [State.useByte]

/-! ### State.apply -/

@[simp] theorem State.apply_rules (p : Planned) : (s.apply ch p).rules = s.rules := by
  unfold State.apply; (repeat' split) <;> simp
@[simp] theorem State.apply_images (p : Planned) : (s.apply ch p).images = s.images := by
  unfold State.apply; (repeat' split) <;> simp
@[simp] theorem State.apply_log (p : Planned) : (s.apply ch p).log = s.log := by
  unfold State.apply; (repeat' split) <;> simp
@[simp] theorem State.apply_tick (p : Planned) : (s.apply ch p).tick = s.tick := by
  unfold State.apply; (repeat' split) <;> simp
@[simp] theorem State.apply_cmpA (p : Planned) : (s.apply ch p).cmpA = s.cmpA := by
  unfold State.apply; (repeat' split) <;> simp
@[simp] theorem State.apply_cmpB (p : Planned) : (s.apply ch p).cmpB = s.cmpB := by
  unfold State.apply; (repeat' split) <;> simp
@[simp] theorem State.apply_trigIn (p : Planned) : (s.apply ch p).trigIn = s.trigIn := by
  unfold State.apply; (repeat' split) <;> simp
@[simp] theorem State.apply_trigOut (p : Planned) : (s.apply ch p).trigOut = s.trigOut := by
  unfold State.apply; (repeat' split) <;> simp
@[simp] theorem State.apply_routes (p : Planned) : (s.apply ch p).routes = s.routes := by
  unfold State.apply; (repeat' split) <;> simp
@[simp] theorem State.apply_monitor (p : Planned) : (s.apply ch p).monitor = s.monitor := by
  unfold State.apply; (repeat' split) <;> simp
@[simp] theorem State.apply_engine (p : Planned) : (s.apply ch p).engine = s.engine := by
  unfold State.apply; (repeat' split) <;> simp
@[simp] theorem State.apply_supply (p : Planned) : (s.apply ch p).supply = s.supply := by
  unfold State.apply; (repeat' split) <;> simp
@[simp] theorem State.apply_link (p : Planned) : (s.apply ch p).link = s.link := by
  unfold State.apply; (repeat' split) <;> simp
@[simp] theorem State.apply_inReset (p : Planned) : (s.apply ch p).inReset = s.inReset := by
  unfold State.apply; (repeat' split) <;> simp
@[simp] theorem State.apply_freeIx (p : Planned) : (s.apply ch p).freeIx = s.freeIx := by
  unfold State.apply; (repeat' split) <;> simp
@[simp] theorem State.apply_pending (p : Planned) : (s.apply ch p).pending = s.pending := by
  unfold State.apply; (repeat' split) <;> simp

/-! ### State.giveLocal -/

@[simp] theorem State.giveLocal_rules : (s.giveLocal ch).rules = s.rules := by
  unfold State.giveLocal; (repeat' split) <;> simp
@[simp] theorem State.giveLocal_log : (s.giveLocal ch).log = s.log := by
  unfold State.giveLocal; (repeat' split) <;> simp
@[simp] theorem State.giveLocal_tick : (s.giveLocal ch).tick = s.tick := by
  unfold State.giveLocal; (repeat' split) <;> simp
@[simp] theorem State.giveLocal_cmpA : (s.giveLocal ch).cmpA = s.cmpA := by
  unfold State.giveLocal; (repeat' split) <;> simp
@[simp] theorem State.giveLocal_cmpB : (s.giveLocal ch).cmpB = s.cmpB := by
  unfold State.giveLocal; (repeat' split) <;> simp
@[simp] theorem State.giveLocal_trigIn : (s.giveLocal ch).trigIn = s.trigIn := by
  unfold State.giveLocal; (repeat' split) <;> simp
@[simp] theorem State.giveLocal_trigOut : (s.giveLocal ch).trigOut = s.trigOut := by
  unfold State.giveLocal; (repeat' split) <;> simp
@[simp] theorem State.giveLocal_routes : (s.giveLocal ch).routes = s.routes := by
  unfold State.giveLocal; (repeat' split) <;> simp
@[simp] theorem State.giveLocal_monitor : (s.giveLocal ch).monitor = s.monitor := by
  unfold State.giveLocal; (repeat' split) <;> simp
@[simp] theorem State.giveLocal_engine : (s.giveLocal ch).engine = s.engine := by
  unfold State.giveLocal; (repeat' split) <;> simp
@[simp] theorem State.giveLocal_supply : (s.giveLocal ch).supply = s.supply := by
  unfold State.giveLocal; (repeat' split) <;> simp
@[simp] theorem State.giveLocal_link : (s.giveLocal ch).link = s.link := by
  unfold State.giveLocal; (repeat' split) <;> simp
@[simp] theorem State.giveLocal_inReset : (s.giveLocal ch).inReset = s.inReset := by
  unfold State.giveLocal; (repeat' split) <;> simp
@[simp] theorem State.giveLocal_freeIx : (s.giveLocal ch).freeIx = s.freeIx := by
  unfold State.giveLocal; (repeat' split) <;> simp
@[simp] theorem State.giveLocal_pending : (s.giveLocal ch).pending = s.pending := by
  unfold State.giveLocal; (repeat' split) <;> simp

/-! ### State.storeByte -/

@[simp] theorem State.storeByte_rules (x : Exchange) (k : Fin 4) : (s.storeByte ch x k).rules = s.rules := by
  unfold State.storeByte; dsimp only; (repeat' split) <;> simp
@[simp] theorem State.storeByte_log (x : Exchange) (k : Fin 4) : (s.storeByte ch x k).log = s.log := by
  unfold State.storeByte; dsimp only; (repeat' split) <;> simp
@[simp] theorem State.storeByte_tick (x : Exchange) (k : Fin 4) : (s.storeByte ch x k).tick = s.tick := by
  unfold State.storeByte; dsimp only; (repeat' split) <;> simp
@[simp] theorem State.storeByte_cmpA (x : Exchange) (k : Fin 4) : (s.storeByte ch x k).cmpA = s.cmpA := by
  unfold State.storeByte; dsimp only; (repeat' split) <;> simp
@[simp] theorem State.storeByte_cmpB (x : Exchange) (k : Fin 4) : (s.storeByte ch x k).cmpB = s.cmpB := by
  unfold State.storeByte; dsimp only; (repeat' split) <;> simp
@[simp] theorem State.storeByte_trigIn (x : Exchange) (k : Fin 4) : (s.storeByte ch x k).trigIn = s.trigIn := by
  unfold State.storeByte; dsimp only; (repeat' split) <;> simp
@[simp] theorem State.storeByte_trigOut (x : Exchange) (k : Fin 4) : (s.storeByte ch x k).trigOut = s.trigOut := by
  unfold State.storeByte; dsimp only; (repeat' split) <;> simp
@[simp] theorem State.storeByte_routes (x : Exchange) (k : Fin 4) : (s.storeByte ch x k).routes = s.routes := by
  unfold State.storeByte; dsimp only; (repeat' split) <;> simp
@[simp] theorem State.storeByte_monitor (x : Exchange) (k : Fin 4) : (s.storeByte ch x k).monitor = s.monitor := by
  unfold State.storeByte; dsimp only; (repeat' split) <;> simp
@[simp] theorem State.storeByte_engine (x : Exchange) (k : Fin 4) : (s.storeByte ch x k).engine = s.engine := by
  unfold State.storeByte; dsimp only; (repeat' split) <;> simp
@[simp] theorem State.storeByte_supply (x : Exchange) (k : Fin 4) : (s.storeByte ch x k).supply = s.supply := by
  unfold State.storeByte; dsimp only; (repeat' split) <;> simp
@[simp] theorem State.storeByte_link (x : Exchange) (k : Fin 4) : (s.storeByte ch x k).link = s.link := by
  unfold State.storeByte; dsimp only; (repeat' split) <;> simp
@[simp] theorem State.storeByte_inReset (x : Exchange) (k : Fin 4) : (s.storeByte ch x k).inReset = s.inReset := by
  unfold State.storeByte; dsimp only; (repeat' split) <;> simp
@[simp] theorem State.storeByte_freeIx (x : Exchange) (k : Fin 4) : (s.storeByte ch x k).freeIx = s.freeIx := by
  unfold State.storeByte; dsimp only; (repeat' split) <;> simp
@[simp] theorem State.storeByte_pending (x : Exchange) (k : Fin 4) : (s.storeByte ch x k).pending = s.pending := by
  unfold State.storeByte; dsimp only; (repeat' split) <;> simp

/-! ### State.useLocal -/

@[simp] theorem State.useLocal_rules : (s.useLocal ch).rules = s.rules := by
  unfold State.useLocal; (repeat' split) <;> simp
@[simp] theorem State.useLocal_tick : (s.useLocal ch).tick = s.tick := by
  unfold State.useLocal; (repeat' split) <;> simp
@[simp] theorem State.useLocal_cmpA : (s.useLocal ch).cmpA = s.cmpA := by
  unfold State.useLocal; (repeat' split) <;> simp
@[simp] theorem State.useLocal_cmpB : (s.useLocal ch).cmpB = s.cmpB := by
  unfold State.useLocal; (repeat' split) <;> simp
@[simp] theorem State.useLocal_trigIn : (s.useLocal ch).trigIn = s.trigIn := by
  unfold State.useLocal; (repeat' split) <;> simp
@[simp] theorem State.useLocal_trigOut : (s.useLocal ch).trigOut = s.trigOut := by
  unfold State.useLocal; (repeat' split) <;> simp
@[simp] theorem State.useLocal_routes : (s.useLocal ch).routes = s.routes := by
  unfold State.useLocal; (repeat' split) <;> simp
@[simp] theorem State.useLocal_monitor : (s.useLocal ch).monitor = s.monitor := by
  unfold State.useLocal; (repeat' split) <;> simp
@[simp] theorem State.useLocal_engine : (s.useLocal ch).engine = s.engine := by
  unfold State.useLocal; (repeat' split) <;> simp
@[simp] theorem State.useLocal_supply : (s.useLocal ch).supply = s.supply := by
  unfold State.useLocal; (repeat' split) <;> simp
@[simp] theorem State.useLocal_inReset : (s.useLocal ch).inReset = s.inReset := by
  unfold State.useLocal; (repeat' split) <;> simp
@[simp] theorem State.useLocal_freeIx : (s.useLocal ch).freeIx = s.freeIx := by
  unfold State.useLocal; (repeat' split) <;> simp
@[simp] theorem State.useLocal_pending : (s.useLocal ch).pending = s.pending := by
  unfold State.useLocal; (repeat' split) <;> simp

/-! ### State.endHold -/

@[simp] theorem State.endHold_rules (a : Option Planned) (c : HoldCause) : (s.endHold ch a c).rules = s.rules := by
  unfold State.endHold; dsimp only; (repeat' split) <;> simp
@[simp] theorem State.endHold_images (a : Option Planned) (c : HoldCause) : (s.endHold ch a c).images = s.images := by
  unfold State.endHold; dsimp only; (repeat' split) <;> simp
@[simp] theorem State.endHold_tick (a : Option Planned) (c : HoldCause) : (s.endHold ch a c).tick = s.tick := by
  unfold State.endHold; dsimp only; (repeat' split) <;> simp
@[simp] theorem State.endHold_cmpA (a : Option Planned) (c : HoldCause) : (s.endHold ch a c).cmpA = s.cmpA := by
  unfold State.endHold; dsimp only; (repeat' split) <;> simp
@[simp] theorem State.endHold_cmpB (a : Option Planned) (c : HoldCause) : (s.endHold ch a c).cmpB = s.cmpB := by
  unfold State.endHold; dsimp only; (repeat' split) <;> simp
@[simp] theorem State.endHold_trigIn (a : Option Planned) (c : HoldCause) : (s.endHold ch a c).trigIn = s.trigIn := by
  unfold State.endHold; dsimp only; (repeat' split) <;> simp
@[simp] theorem State.endHold_trigOut (a : Option Planned) (c : HoldCause) : (s.endHold ch a c).trigOut = s.trigOut := by
  unfold State.endHold; dsimp only; (repeat' split) <;> simp
@[simp] theorem State.endHold_routes (a : Option Planned) (c : HoldCause) : (s.endHold ch a c).routes = s.routes := by
  unfold State.endHold; dsimp only; (repeat' split) <;> simp
@[simp] theorem State.endHold_monitor (a : Option Planned) (c : HoldCause) : (s.endHold ch a c).monitor = s.monitor := by
  unfold State.endHold; dsimp only; (repeat' split) <;> simp
@[simp] theorem State.endHold_engine (a : Option Planned) (c : HoldCause) : (s.endHold ch a c).engine = s.engine := by
  unfold State.endHold; dsimp only; (repeat' split) <;> simp
@[simp] theorem State.endHold_supply (a : Option Planned) (c : HoldCause) : (s.endHold ch a c).supply = s.supply := by
  unfold State.endHold; dsimp only; (repeat' split) <;> simp
@[simp] theorem State.endHold_inReset (a : Option Planned) (c : HoldCause) : (s.endHold ch a c).inReset = s.inReset := by
  unfold State.endHold; dsimp only; (repeat' split) <;> simp
@[simp] theorem State.endHold_freeIx (a : Option Planned) (c : HoldCause) : (s.endHold ch a c).freeIx = s.freeIx := by
  unfold State.endHold; dsimp only; (repeat' split) <;> simp
@[simp] theorem State.endHold_pending (a : Option Planned) (c : HoldCause) : (s.endHold ch a c).pending = s.pending := by
  unfold State.endHold; dsimp only; (repeat' split) <;> simp

/-! ### State.abandonHold -/

@[simp] theorem State.abandonHold_rules : (s.abandonHold ch).rules = s.rules := by simp [State.abandonHold]
@[simp] theorem State.abandonHold_images : (s.abandonHold ch).images = s.images := by simp [State.abandonHold]
@[simp] theorem State.abandonHold_tick : (s.abandonHold ch).tick = s.tick := by simp [State.abandonHold]
@[simp] theorem State.abandonHold_cmpA : (s.abandonHold ch).cmpA = s.cmpA := by simp [State.abandonHold]
@[simp] theorem State.abandonHold_cmpB : (s.abandonHold ch).cmpB = s.cmpB := by simp [State.abandonHold]
@[simp] theorem State.abandonHold_trigIn : (s.abandonHold ch).trigIn = s.trigIn := by simp [State.abandonHold]
@[simp] theorem State.abandonHold_trigOut : (s.abandonHold ch).trigOut = s.trigOut := by simp [State.abandonHold]
@[simp] theorem State.abandonHold_routes : (s.abandonHold ch).routes = s.routes := by simp [State.abandonHold]
@[simp] theorem State.abandonHold_monitor : (s.abandonHold ch).monitor = s.monitor := by simp [State.abandonHold]
@[simp] theorem State.abandonHold_engine : (s.abandonHold ch).engine = s.engine := by simp [State.abandonHold]
@[simp] theorem State.abandonHold_supply : (s.abandonHold ch).supply = s.supply := by simp [State.abandonHold]
@[simp] theorem State.abandonHold_inReset : (s.abandonHold ch).inReset = s.inReset := by simp [State.abandonHold]
@[simp] theorem State.abandonHold_freeIx : (s.abandonHold ch).freeIx = s.freeIx := by simp [State.abandonHold]
@[simp] theorem State.abandonHold_pending : (s.abandonHold ch).pending = s.pending := by simp [State.abandonHold]

/-! ### State.beginHold -/

@[simp] theorem State.beginHold_rules (o : HoldOrigin) (p : Planned) (t : HoldTimeout) : (s.beginHold ch o p t).rules = s.rules := by
  unfold State.beginHold; dsimp only; (repeat' split) <;> simp
@[simp] theorem State.beginHold_images (o : HoldOrigin) (p : Planned) (t : HoldTimeout) : (s.beginHold ch o p t).images = s.images := by
  unfold State.beginHold; dsimp only; (repeat' split) <;> simp
@[simp] theorem State.beginHold_tick (o : HoldOrigin) (p : Planned) (t : HoldTimeout) : (s.beginHold ch o p t).tick = s.tick := by
  unfold State.beginHold; dsimp only; (repeat' split) <;> simp
@[simp] theorem State.beginHold_trigIn (o : HoldOrigin) (p : Planned) (t : HoldTimeout) : (s.beginHold ch o p t).trigIn = s.trigIn := by
  unfold State.beginHold; dsimp only; (repeat' split) <;> simp
@[simp] theorem State.beginHold_engine (o : HoldOrigin) (p : Planned) (t : HoldTimeout) : (s.beginHold ch o p t).engine = s.engine := by
  unfold State.beginHold; dsimp only; (repeat' split) <;> simp
@[simp] theorem State.beginHold_inReset (o : HoldOrigin) (p : Planned) (t : HoldTimeout) : (s.beginHold ch o p t).inReset = s.inReset := by
  unfold State.beginHold; dsimp only; (repeat' split) <;> simp
@[simp] theorem State.beginHold_freeIx (o : HoldOrigin) (p : Planned) (t : HoldTimeout) : (s.beginHold ch o p t).freeIx = s.freeIx := by
  unfold State.beginHold; dsimp only; (repeat' split) <;> simp
@[simp] theorem State.beginHold_pending (o : HoldOrigin) (p : Planned) (t : HoldTimeout) : (s.beginHold ch o p t).pending = s.pending := by
  unfold State.beginHold; dsimp only; (repeat' split) <;> simp

/-- A hold that begins has the clock stretched low (R93): the clock-high of the sampled bit is over. -/
theorem State.beginHold_highPhase (o : HoldOrigin) (p : Planned) (t : HoldTimeout) {x : Exchange}
    (hx : (s.chan ch).exch = some x) : ((s.beginHold ch o p t).chan ch).highPhase = false := by
  unfold State.beginHold
  simp only [hx, State.tally, State.onHealth, State.chan_onChan_same]
  rw [State.occur_chan]
  cases ch <;> simp [State.chan, State.onChan, State.setChan]

/-! ### State.applyHeld -/

@[simp] theorem State.applyHeld_rules (b : Bool) (p : Planned) : (s.applyHeld ch b p).rules = s.rules := by
  unfold State.applyHeld; (repeat' split) <;> simp
@[simp] theorem State.applyHeld_images (b : Bool) (p : Planned) : (s.applyHeld ch b p).images = s.images := by
  unfold State.applyHeld; (repeat' split) <;> simp
@[simp] theorem State.applyHeld_log (b : Bool) (p : Planned) : (s.applyHeld ch b p).log = s.log := by
  unfold State.applyHeld; (repeat' split) <;> simp
@[simp] theorem State.applyHeld_tick (b : Bool) (p : Planned) : (s.applyHeld ch b p).tick = s.tick := by
  unfold State.applyHeld; (repeat' split) <;> simp
@[simp] theorem State.applyHeld_cmpA (b : Bool) (p : Planned) : (s.applyHeld ch b p).cmpA = s.cmpA := by
  unfold State.applyHeld; (repeat' split) <;> simp
@[simp] theorem State.applyHeld_cmpB (b : Bool) (p : Planned) : (s.applyHeld ch b p).cmpB = s.cmpB := by
  unfold State.applyHeld; (repeat' split) <;> simp
@[simp] theorem State.applyHeld_trigIn (b : Bool) (p : Planned) : (s.applyHeld ch b p).trigIn = s.trigIn := by
  unfold State.applyHeld; (repeat' split) <;> simp
@[simp] theorem State.applyHeld_trigOut (b : Bool) (p : Planned) : (s.applyHeld ch b p).trigOut = s.trigOut := by
  unfold State.applyHeld; (repeat' split) <;> simp
@[simp] theorem State.applyHeld_routes (b : Bool) (p : Planned) : (s.applyHeld ch b p).routes = s.routes := by
  unfold State.applyHeld; (repeat' split) <;> simp
@[simp] theorem State.applyHeld_monitor (b : Bool) (p : Planned) : (s.applyHeld ch b p).monitor = s.monitor := by
  unfold State.applyHeld; (repeat' split) <;> simp
@[simp] theorem State.applyHeld_engine (b : Bool) (p : Planned) : (s.applyHeld ch b p).engine = s.engine := by
  unfold State.applyHeld; (repeat' split) <;> simp
@[simp] theorem State.applyHeld_supply (b : Bool) (p : Planned) : (s.applyHeld ch b p).supply = s.supply := by
  unfold State.applyHeld; (repeat' split) <;> simp
@[simp] theorem State.applyHeld_link (b : Bool) (p : Planned) : (s.applyHeld ch b p).link = s.link := by
  unfold State.applyHeld; (repeat' split) <;> simp
@[simp] theorem State.applyHeld_inReset (b : Bool) (p : Planned) : (s.applyHeld ch b p).inReset = s.inReset := by
  unfold State.applyHeld; (repeat' split) <;> simp
@[simp] theorem State.applyHeld_freeIx (b : Bool) (p : Planned) : (s.applyHeld ch b p).freeIx = s.freeIx := by
  unfold State.applyHeld; (repeat' split) <;> simp
@[simp] theorem State.applyHeld_pending (b : Bool) (p : Planned) : (s.applyHeld ch b p).pending = s.pending := by
  unfold State.applyHeld; (repeat' split) <;> simp

/-! ### State.finishHold -/

@[simp] theorem State.finishHold_rules (b : Bool) (p : Planned) (c : HoldCause) : (s.finishHold ch b p c).rules = s.rules := by simp [State.finishHold]
@[simp] theorem State.finishHold_images (b : Bool) (p : Planned) (c : HoldCause) : (s.finishHold ch b p c).images = s.images := by simp [State.finishHold]
@[simp] theorem State.finishHold_tick (b : Bool) (p : Planned) (c : HoldCause) : (s.finishHold ch b p c).tick = s.tick := by simp [State.finishHold]
@[simp] theorem State.finishHold_cmpA (b : Bool) (p : Planned) (c : HoldCause) : (s.finishHold ch b p c).cmpA = s.cmpA := by simp [State.finishHold]
@[simp] theorem State.finishHold_cmpB (b : Bool) (p : Planned) (c : HoldCause) : (s.finishHold ch b p c).cmpB = s.cmpB := by simp [State.finishHold]
@[simp] theorem State.finishHold_trigIn (b : Bool) (p : Planned) (c : HoldCause) : (s.finishHold ch b p c).trigIn = s.trigIn := by simp [State.finishHold]
@[simp] theorem State.finishHold_trigOut (b : Bool) (p : Planned) (c : HoldCause) : (s.finishHold ch b p c).trigOut = s.trigOut := by simp [State.finishHold]
@[simp] theorem State.finishHold_routes (b : Bool) (p : Planned) (c : HoldCause) : (s.finishHold ch b p c).routes = s.routes := by simp [State.finishHold]
@[simp] theorem State.finishHold_monitor (b : Bool) (p : Planned) (c : HoldCause) : (s.finishHold ch b p c).monitor = s.monitor := by simp [State.finishHold]
@[simp] theorem State.finishHold_engine (b : Bool) (p : Planned) (c : HoldCause) : (s.finishHold ch b p c).engine = s.engine := by simp [State.finishHold]
@[simp] theorem State.finishHold_supply (b : Bool) (p : Planned) (c : HoldCause) : (s.finishHold ch b p c).supply = s.supply := by simp [State.finishHold]
@[simp] theorem State.finishHold_inReset (b : Bool) (p : Planned) (c : HoldCause) : (s.finishHold ch b p c).inReset = s.inReset := by simp [State.finishHold]
@[simp] theorem State.finishHold_freeIx (b : Bool) (p : Planned) (c : HoldCause) : (s.finishHold ch b p c).freeIx = s.freeIx := by simp [State.finishHold]
@[simp] theorem State.finishHold_pending (b : Bool) (p : Planned) (c : HoldCause) : (s.finishHold ch b p c).pending = s.pending := by simp [State.finishHold]

/-! ### State.refuseHeld -/

@[simp] theorem State.refuseHeld_rules : (s.refuseHeld ch).rules = s.rules := by
  unfold State.refuseHeld; (repeat' split) <;> simp
@[simp] theorem State.refuseHeld_images : (s.refuseHeld ch).images = s.images := by
  unfold State.refuseHeld; (repeat' split) <;> simp
@[simp] theorem State.refuseHeld_tick : (s.refuseHeld ch).tick = s.tick := by
  unfold State.refuseHeld; (repeat' split) <;> simp
@[simp] theorem State.refuseHeld_cmpA : (s.refuseHeld ch).cmpA = s.cmpA := by
  unfold State.refuseHeld; (repeat' split) <;> simp
@[simp] theorem State.refuseHeld_cmpB : (s.refuseHeld ch).cmpB = s.cmpB := by
  unfold State.refuseHeld; (repeat' split) <;> simp
@[simp] theorem State.refuseHeld_trigIn : (s.refuseHeld ch).trigIn = s.trigIn := by
  unfold State.refuseHeld; (repeat' split) <;> simp
@[simp] theorem State.refuseHeld_trigOut : (s.refuseHeld ch).trigOut = s.trigOut := by
  unfold State.refuseHeld; (repeat' split) <;> simp
@[simp] theorem State.refuseHeld_routes : (s.refuseHeld ch).routes = s.routes := by
  unfold State.refuseHeld; (repeat' split) <;> simp
@[simp] theorem State.refuseHeld_monitor : (s.refuseHeld ch).monitor = s.monitor := by
  unfold State.refuseHeld; (repeat' split) <;> simp
@[simp] theorem State.refuseHeld_engine : (s.refuseHeld ch).engine = s.engine := by
  unfold State.refuseHeld; (repeat' split) <;> simp
@[simp] theorem State.refuseHeld_supply : (s.refuseHeld ch).supply = s.supply := by
  unfold State.refuseHeld; (repeat' split) <;> simp
@[simp] theorem State.refuseHeld_inReset : (s.refuseHeld ch).inReset = s.inReset := by
  unfold State.refuseHeld; (repeat' split) <;> simp
@[simp] theorem State.refuseHeld_freeIx : (s.refuseHeld ch).freeIx = s.freeIx := by
  unfold State.refuseHeld; (repeat' split) <;> simp
@[simp] theorem State.refuseHeld_pending : (s.refuseHeld ch).pending = s.pending := by
  unfold State.refuseHeld; (repeat' split) <;> simp

/-! ### State.settleOwed -/

@[simp] theorem State.settleOwed_rules : (s.settleOwed ch).rules = s.rules := by
  unfold State.settleOwed; (repeat' split) <;> simp
@[simp] theorem State.settleOwed_images : (s.settleOwed ch).images = s.images := by
  unfold State.settleOwed; (repeat' split) <;> simp
@[simp] theorem State.settleOwed_log : (s.settleOwed ch).log = s.log := by
  unfold State.settleOwed; (repeat' split) <;> simp
@[simp] theorem State.settleOwed_tick : (s.settleOwed ch).tick = s.tick := by
  unfold State.settleOwed; (repeat' split) <;> simp
@[simp] theorem State.settleOwed_cmpA : (s.settleOwed ch).cmpA = s.cmpA := by
  unfold State.settleOwed; (repeat' split) <;> simp
@[simp] theorem State.settleOwed_cmpB : (s.settleOwed ch).cmpB = s.cmpB := by
  unfold State.settleOwed; (repeat' split) <;> simp
@[simp] theorem State.settleOwed_trigIn : (s.settleOwed ch).trigIn = s.trigIn := by
  unfold State.settleOwed; (repeat' split) <;> simp
@[simp] theorem State.settleOwed_trigOut : (s.settleOwed ch).trigOut = s.trigOut := by
  unfold State.settleOwed; (repeat' split) <;> simp
@[simp] theorem State.settleOwed_routes : (s.settleOwed ch).routes = s.routes := by
  unfold State.settleOwed; (repeat' split) <;> simp
@[simp] theorem State.settleOwed_monitor : (s.settleOwed ch).monitor = s.monitor := by
  unfold State.settleOwed; (repeat' split) <;> simp
@[simp] theorem State.settleOwed_engine : (s.settleOwed ch).engine = s.engine := by
  unfold State.settleOwed; (repeat' split) <;> simp
@[simp] theorem State.settleOwed_supply : (s.settleOwed ch).supply = s.supply := by
  unfold State.settleOwed; (repeat' split) <;> simp
@[simp] theorem State.settleOwed_link : (s.settleOwed ch).link = s.link := by
  unfold State.settleOwed; (repeat' split) <;> simp
@[simp] theorem State.settleOwed_inReset : (s.settleOwed ch).inReset = s.inReset := by
  unfold State.settleOwed; (repeat' split) <;> simp
@[simp] theorem State.settleOwed_freeIx : (s.settleOwed ch).freeIx = s.freeIx := by
  unfold State.settleOwed; (repeat' split) <;> simp
@[simp] theorem State.settleOwed_pending : (s.settleOwed ch).pending = s.pending := by
  unfold State.settleOwed; (repeat' split) <;> simp

/-! ### State.grantUnit -/

@[simp] theorem State.grantUnit_rules (j : Job) : (s.grantUnit ch j).rules = s.rules := by simp [State.grantUnit]
@[simp] theorem State.grantUnit_images (j : Job) : (s.grantUnit ch j).images = s.images := by simp [State.grantUnit]
@[simp] theorem State.grantUnit_log (j : Job) : (s.grantUnit ch j).log = s.log := by simp [State.grantUnit]
@[simp] theorem State.grantUnit_tick (j : Job) : (s.grantUnit ch j).tick = s.tick := by simp [State.grantUnit]
@[simp] theorem State.grantUnit_cmpA (j : Job) : (s.grantUnit ch j).cmpA = s.cmpA := by simp [State.grantUnit]
@[simp] theorem State.grantUnit_cmpB (j : Job) : (s.grantUnit ch j).cmpB = s.cmpB := by simp [State.grantUnit]
@[simp] theorem State.grantUnit_trigIn (j : Job) : (s.grantUnit ch j).trigIn = s.trigIn := by simp [State.grantUnit]
@[simp] theorem State.grantUnit_trigOut (j : Job) : (s.grantUnit ch j).trigOut = s.trigOut := by simp [State.grantUnit]
@[simp] theorem State.grantUnit_routes (j : Job) : (s.grantUnit ch j).routes = s.routes := by simp [State.grantUnit]
@[simp] theorem State.grantUnit_monitor (j : Job) : (s.grantUnit ch j).monitor = s.monitor := by simp [State.grantUnit]
@[simp] theorem State.grantUnit_supply (j : Job) : (s.grantUnit ch j).supply = s.supply := by simp [State.grantUnit]
@[simp] theorem State.grantUnit_link (j : Job) : (s.grantUnit ch j).link = s.link := by simp [State.grantUnit]
@[simp] theorem State.grantUnit_inReset (j : Job) : (s.grantUnit ch j).inReset = s.inReset := by simp [State.grantUnit]
@[simp] theorem State.grantUnit_freeIx (j : Job) : (s.grantUnit ch j).freeIx = s.freeIx := by simp [State.grantUnit]
@[simp] theorem State.grantUnit_pending (j : Job) : (s.grantUnit ch j).pending = s.pending := by simp [State.grantUnit]

/-! ### State.engineAsk -/

@[simp] theorem State.engineAsk_rules : (s.engineAsk).rules = s.rules := by
  unfold State.engineAsk; (repeat' split) <;> simp
@[simp] theorem State.engineAsk_images : (s.engineAsk).images = s.images := by
  unfold State.engineAsk; (repeat' split) <;> simp
@[simp] theorem State.engineAsk_log : (s.engineAsk).log = s.log := by
  unfold State.engineAsk; (repeat' split) <;> simp
@[simp] theorem State.engineAsk_tick : (s.engineAsk).tick = s.tick := by
  unfold State.engineAsk; (repeat' split) <;> simp
@[simp] theorem State.engineAsk_cmpA : (s.engineAsk).cmpA = s.cmpA := by
  unfold State.engineAsk; (repeat' split) <;> simp
@[simp] theorem State.engineAsk_cmpB : (s.engineAsk).cmpB = s.cmpB := by
  unfold State.engineAsk; (repeat' split) <;> simp
@[simp] theorem State.engineAsk_trigIn : (s.engineAsk).trigIn = s.trigIn := by
  unfold State.engineAsk; (repeat' split) <;> simp
@[simp] theorem State.engineAsk_trigOut : (s.engineAsk).trigOut = s.trigOut := by
  unfold State.engineAsk; (repeat' split) <;> simp
@[simp] theorem State.engineAsk_routes : (s.engineAsk).routes = s.routes := by
  unfold State.engineAsk; (repeat' split) <;> simp
@[simp] theorem State.engineAsk_monitor : (s.engineAsk).monitor = s.monitor := by
  unfold State.engineAsk; (repeat' split) <;> simp
@[simp] theorem State.engineAsk_supply : (s.engineAsk).supply = s.supply := by
  unfold State.engineAsk; (repeat' split) <;> simp
@[simp] theorem State.engineAsk_link : (s.engineAsk).link = s.link := by
  unfold State.engineAsk; (repeat' split) <;> simp
@[simp] theorem State.engineAsk_inReset : (s.engineAsk).inReset = s.inReset := by
  unfold State.engineAsk; (repeat' split) <;> simp
@[simp] theorem State.engineAsk_freeIx : (s.engineAsk).freeIx = s.freeIx := by
  unfold State.engineAsk; (repeat' split) <;> simp
@[simp] theorem State.engineAsk_pending : (s.engineAsk).pending = s.pending := by
  unfold State.engineAsk; (repeat' split) <;> simp

/-- The grant for a unit issues the unit's transaction and leaves the rest of the engine (R166). -/
@[simp] theorem State.grantUnit_engine (j : Job) :
    (s.grantUnit ch j).engine = { s.engine with unit := j.items s.engine.staging } := by cases ch <;> rfl

/-- The bytes of a buffer from an address on, each read on its own. -/
theorem memReadList_eq_map (m : Mem) (a n : Nat) :
    memReadList m a n = (List.range n).map fun i => memRead m (a + i) := by
  induction n generalizing a with
  | zero => rfl
  | succ n ih =>
    rw [memReadList, ih, List.range_succ_eq_map, List.map_cons, List.map_map]
    exact congrArg _ (List.map_congr_left fun i _ => by simp [Nat.add_comm, Nat.add_left_comm])

/-- The transaction a unit is granted for is the unit's (R166 to R169). -/
theorem Job.unitIs_items (j : Job) (staging : Mem) : UnitIs j staging (j.items staging) := by
  cases h : j.unit <;>
    simp [UnitIs, Job.items, Job.deviceByte, Job.addressBytes, Job.receives, Job.offset, memReadList_eq_map, h]

/-! ### State.finishJob -/

@[simp] theorem State.finishJob_rules (c : JobCause) (a : Nat) : (s.finishJob c a).rules = s.rules := by
  unfold State.finishJob; dsimp only; (repeat' split) <;> simp
@[simp] theorem State.finishJob_images (c : JobCause) (a : Nat) : (s.finishJob c a).images = s.images := by
  unfold State.finishJob; dsimp only; (repeat' split) <;> simp
@[simp] theorem State.finishJob_tick (c : JobCause) (a : Nat) : (s.finishJob c a).tick = s.tick := by
  unfold State.finishJob; dsimp only; (repeat' split) <;> simp
@[simp] theorem State.finishJob_trigIn (c : JobCause) (a : Nat) : (s.finishJob c a).trigIn = s.trigIn := by
  unfold State.finishJob; dsimp only; (repeat' split) <;> simp
@[simp] theorem State.finishJob_inReset (c : JobCause) (a : Nat) : (s.finishJob c a).inReset = s.inReset := by
  unfold State.finishJob; dsimp only; (repeat' split) <;> simp
@[simp] theorem State.finishJob_freeIx (c : JobCause) (a : Nat) : (s.finishJob c a).freeIx = s.freeIx := by
  unfold State.finishJob; dsimp only; (repeat' split) <;> simp
@[simp] theorem State.finishJob_pending (c : JobCause) (a : Nat) : (s.finishJob c a).pending = s.pending := by
  unfold State.finishJob; dsimp only; (repeat' split) <;> simp

/-! ### State.endJob -/

@[simp] theorem State.endJob_rules (c : JobCause) : (s.endJob c).rules = s.rules := by
  unfold State.endJob; (repeat' split) <;> simp
@[simp] theorem State.endJob_images (c : JobCause) : (s.endJob c).images = s.images := by
  unfold State.endJob; (repeat' split) <;> simp
@[simp] theorem State.endJob_tick (c : JobCause) : (s.endJob c).tick = s.tick := by
  unfold State.endJob; (repeat' split) <;> simp
@[simp] theorem State.endJob_trigIn (c : JobCause) : (s.endJob c).trigIn = s.trigIn := by
  unfold State.endJob; (repeat' split) <;> simp
@[simp] theorem State.endJob_inReset (c : JobCause) : (s.endJob c).inReset = s.inReset := by
  unfold State.endJob; (repeat' split) <;> simp
@[simp] theorem State.endJob_freeIx (c : JobCause) : (s.endJob c).freeIx = s.freeIx := by
  unfold State.endJob; (repeat' split) <;> simp
@[simp] theorem State.endJob_pending (c : JobCause) : (s.endJob c).pending = s.pending := by
  unfold State.endJob; (repeat' split) <;> simp

/-! ### State.endJobOn -/

@[simp] theorem State.endJobOn_rules (c : JobCause) : (s.endJobOn ch c).rules = s.rules := by
  unfold State.endJobOn; (repeat' split) <;> simp
@[simp] theorem State.endJobOn_images (c : JobCause) : (s.endJobOn ch c).images = s.images := by
  unfold State.endJobOn; (repeat' split) <;> simp
@[simp] theorem State.endJobOn_tick (c : JobCause) : (s.endJobOn ch c).tick = s.tick := by
  unfold State.endJobOn; (repeat' split) <;> simp
@[simp] theorem State.endJobOn_trigIn (c : JobCause) : (s.endJobOn ch c).trigIn = s.trigIn := by
  unfold State.endJobOn; (repeat' split) <;> simp
@[simp] theorem State.endJobOn_inReset (c : JobCause) : (s.endJobOn ch c).inReset = s.inReset := by
  unfold State.endJobOn; (repeat' split) <;> simp
@[simp] theorem State.endJobOn_freeIx (c : JobCause) : (s.endJobOn ch c).freeIx = s.freeIx := by
  unfold State.endJobOn; (repeat' split) <;> simp
@[simp] theorem State.endJobOn_pending (c : JobCause) : (s.endJobOn ch c).pending = s.pending := by
  unfold State.endJobOn; (repeat' split) <;> simp

/-! ### State.failAttempt -/

@[simp] theorem State.failAttempt_rules (c : JobCause) : (s.failAttempt c).rules = s.rules := by
  unfold State.failAttempt; (repeat' split) <;> simp
@[simp] theorem State.failAttempt_images (c : JobCause) : (s.failAttempt c).images = s.images := by
  unfold State.failAttempt; (repeat' split) <;> simp
@[simp] theorem State.failAttempt_tick (c : JobCause) : (s.failAttempt c).tick = s.tick := by
  unfold State.failAttempt; (repeat' split) <;> simp
@[simp] theorem State.failAttempt_trigIn (c : JobCause) : (s.failAttempt c).trigIn = s.trigIn := by
  unfold State.failAttempt; (repeat' split) <;> simp
@[simp] theorem State.failAttempt_inReset (c : JobCause) : (s.failAttempt c).inReset = s.inReset := by
  unfold State.failAttempt; (repeat' split) <;> simp
@[simp] theorem State.failAttempt_freeIx (c : JobCause) : (s.failAttempt c).freeIx = s.freeIx := by
  unfold State.failAttempt; (repeat' split) <;> simp
@[simp] theorem State.failAttempt_pending (c : JobCause) : (s.failAttempt c).pending = s.pending := by
  unfold State.failAttempt; (repeat' split) <;> simp

/-! ### State.afterProbe -/

@[simp] theorem State.afterProbe_rules : (s.afterProbe).rules = s.rules := by
  unfold State.afterProbe; dsimp only; (repeat' split) <;> simp
@[simp] theorem State.afterProbe_images : (s.afterProbe).images = s.images := by
  unfold State.afterProbe; dsimp only; (repeat' split) <;> simp
@[simp] theorem State.afterProbe_tick : (s.afterProbe).tick = s.tick := by
  unfold State.afterProbe; dsimp only; (repeat' split) <;> simp
@[simp] theorem State.afterProbe_trigIn : (s.afterProbe).trigIn = s.trigIn := by
  unfold State.afterProbe; dsimp only; (repeat' split) <;> simp
@[simp] theorem State.afterProbe_inReset : (s.afterProbe).inReset = s.inReset := by
  unfold State.afterProbe; dsimp only; (repeat' split) <;> simp
@[simp] theorem State.afterProbe_freeIx : (s.afterProbe).freeIx = s.freeIx := by
  unfold State.afterProbe; dsimp only; (repeat' split) <;> simp
@[simp] theorem State.afterProbe_pending : (s.afterProbe).pending = s.pending := by
  unfold State.afterProbe; dsimp only; (repeat' split) <;> simp

/-! ### State.unitLost -/

@[simp] theorem State.unitLost_rules : (s.unitLost).rules = s.rules := by
  unfold State.unitLost; (repeat' split) <;> simp
@[simp] theorem State.unitLost_images : (s.unitLost).images = s.images := by
  unfold State.unitLost; (repeat' split) <;> simp
@[simp] theorem State.unitLost_tick : (s.unitLost).tick = s.tick := by
  unfold State.unitLost; (repeat' split) <;> simp
@[simp] theorem State.unitLost_trigIn : (s.unitLost).trigIn = s.trigIn := by
  unfold State.unitLost; (repeat' split) <;> simp
@[simp] theorem State.unitLost_inReset : (s.unitLost).inReset = s.inReset := by
  unfold State.unitLost; (repeat' split) <;> simp
@[simp] theorem State.unitLost_freeIx : (s.unitLost).freeIx = s.freeIx := by
  unfold State.unitLost; (repeat' split) <;> simp
@[simp] theorem State.unitLost_pending : (s.unitLost).pending = s.pending := by
  unfold State.unitLost; (repeat' split) <;> simp

/-! ### State.keepBurst -/

@[simp] theorem State.keepBurst_ch0 (l : List Byte) : (s.keepBurst l).ch0 = s.ch0 := rfl
@[simp] theorem State.keepBurst_ch1 (l : List Byte) : (s.keepBurst l).ch1 = s.ch1 := rfl
@[simp] theorem State.keepBurst_rules (l : List Byte) : (s.keepBurst l).rules = s.rules := rfl
@[simp] theorem State.keepBurst_images (l : List Byte) : (s.keepBurst l).images = s.images := rfl
@[simp] theorem State.keepBurst_log (l : List Byte) : (s.keepBurst l).log = s.log := rfl
@[simp] theorem State.keepBurst_tick (l : List Byte) : (s.keepBurst l).tick = s.tick := rfl
@[simp] theorem State.keepBurst_cmpA (l : List Byte) : (s.keepBurst l).cmpA = s.cmpA := rfl
@[simp] theorem State.keepBurst_cmpB (l : List Byte) : (s.keepBurst l).cmpB = s.cmpB := rfl
@[simp] theorem State.keepBurst_trigIn (l : List Byte) : (s.keepBurst l).trigIn = s.trigIn := rfl
@[simp] theorem State.keepBurst_trigOut (l : List Byte) : (s.keepBurst l).trigOut = s.trigOut := rfl
@[simp] theorem State.keepBurst_routes (l : List Byte) : (s.keepBurst l).routes = s.routes := rfl
@[simp] theorem State.keepBurst_monitor (l : List Byte) : (s.keepBurst l).monitor = s.monitor := rfl
@[simp] theorem State.keepBurst_supply (l : List Byte) : (s.keepBurst l).supply = s.supply := rfl
@[simp] theorem State.keepBurst_link (l : List Byte) : (s.keepBurst l).link = s.link := rfl
@[simp] theorem State.keepBurst_inReset (l : List Byte) : (s.keepBurst l).inReset = s.inReset := rfl
@[simp] theorem State.keepBurst_freeIx (l : List Byte) : (s.keepBurst l).freeIx = s.freeIx := rfl
@[simp] theorem State.keepBurst_pending (l : List Byte) : (s.keepBurst l).pending = s.pending := rfl

/-! ### State.enterEnding -/

@[simp] theorem State.enterEnding_rules (c : JobCause) : (s.enterEnding c).rules = s.rules := by
  unfold State.enterEnding; dsimp only; (repeat' split) <;> simp
@[simp] theorem State.enterEnding_images (c : JobCause) : (s.enterEnding c).images = s.images := by
  unfold State.enterEnding; dsimp only; (repeat' split) <;> simp
@[simp] theorem State.enterEnding_tick (c : JobCause) : (s.enterEnding c).tick = s.tick := by
  unfold State.enterEnding; dsimp only; (repeat' split) <;> simp
@[simp] theorem State.enterEnding_trigIn (c : JobCause) : (s.enterEnding c).trigIn = s.trigIn := by
  unfold State.enterEnding; dsimp only; (repeat' split) <;> simp
@[simp] theorem State.enterEnding_inReset (c : JobCause) : (s.enterEnding c).inReset = s.inReset := by
  unfold State.enterEnding; dsimp only; (repeat' split) <;> simp
@[simp] theorem State.enterEnding_freeIx (c : JobCause) : (s.enterEnding c).freeIx = s.freeIx := by
  unfold State.enterEnding; dsimp only; (repeat' split) <;> simp
@[simp] theorem State.enterEnding_pending (c : JobCause) : (s.enterEnding c).pending = s.pending := by
  unfold State.enterEnding; dsimp only; (repeat' split) <;> simp

/-! ### State.isolate -/

@[simp] theorem State.isolate_tick (c : JobCause) : (s.isolate ch c).tick = s.tick := by simp [State.isolate]
@[simp] theorem State.isolate_trigIn (c : JobCause) : (s.isolate ch c).trigIn = s.trigIn := by simp [State.isolate]
@[simp] theorem State.isolate_inReset (c : JobCause) : (s.isolate ch c).inReset = s.inReset := by simp [State.isolate]
@[simp] theorem State.isolate_freeIx (c : JobCause) : (s.isolate ch c).freeIx = s.freeIx := by simp [State.isolate]
@[simp] theorem State.isolate_pending (c : JobCause) : (s.isolate ch c).pending = s.pending := by simp [State.isolate]

/-! ### State.cutFrame -/

@[simp] theorem State.cutFrame_tick : (s.cutFrame ch).tick = s.tick := by simp [State.cutFrame]
@[simp] theorem State.cutFrame_cmpA : (s.cutFrame ch).cmpA = s.cmpA := by simp [State.cutFrame]
@[simp] theorem State.cutFrame_cmpB : (s.cutFrame ch).cmpB = s.cmpB := by simp [State.cutFrame]
@[simp] theorem State.cutFrame_trigIn : (s.cutFrame ch).trigIn = s.trigIn := by simp [State.cutFrame]
@[simp] theorem State.cutFrame_trigOut : (s.cutFrame ch).trigOut = s.trigOut := by simp [State.cutFrame]
@[simp] theorem State.cutFrame_routes : (s.cutFrame ch).routes = s.routes := by simp [State.cutFrame]
@[simp] theorem State.cutFrame_monitor : (s.cutFrame ch).monitor = s.monitor := by simp [State.cutFrame]
@[simp] theorem State.cutFrame_engine : (s.cutFrame ch).engine = s.engine := by simp [State.cutFrame]
@[simp] theorem State.cutFrame_supply : (s.cutFrame ch).supply = s.supply := by simp [State.cutFrame]
@[simp] theorem State.cutFrame_inReset : (s.cutFrame ch).inReset = s.inReset := by simp [State.cutFrame]
@[simp] theorem State.cutFrame_freeIx : (s.cutFrame ch).freeIx = s.freeIx := by simp [State.cutFrame]
@[simp] theorem State.cutFrame_pending : (s.cutFrame ch).pending = s.pending := by simp [State.cutFrame]

/-! ### State.condMisframe -/

@[simp] theorem State.condMisframe_rules (e : Bool) (b : Nat) : (s.condMisframe ch e b).rules = s.rules := by
  unfold State.condMisframe; (repeat' split) <;> simp
@[simp] theorem State.condMisframe_images (e : Bool) (b : Nat) : (s.condMisframe ch e b).images = s.images := by
  unfold State.condMisframe; (repeat' split) <;> simp
@[simp] theorem State.condMisframe_tick (e : Bool) (b : Nat) : (s.condMisframe ch e b).tick = s.tick := by
  unfold State.condMisframe; (repeat' split) <;> simp
@[simp] theorem State.condMisframe_cmpA (e : Bool) (b : Nat) : (s.condMisframe ch e b).cmpA = s.cmpA := by
  unfold State.condMisframe; (repeat' split) <;> simp
@[simp] theorem State.condMisframe_cmpB (e : Bool) (b : Nat) : (s.condMisframe ch e b).cmpB = s.cmpB := by
  unfold State.condMisframe; (repeat' split) <;> simp
@[simp] theorem State.condMisframe_trigIn (e : Bool) (b : Nat) : (s.condMisframe ch e b).trigIn = s.trigIn := by
  unfold State.condMisframe; (repeat' split) <;> simp
@[simp] theorem State.condMisframe_trigOut (e : Bool) (b : Nat) : (s.condMisframe ch e b).trigOut = s.trigOut := by
  unfold State.condMisframe; (repeat' split) <;> simp
@[simp] theorem State.condMisframe_routes (e : Bool) (b : Nat) : (s.condMisframe ch e b).routes = s.routes := by
  unfold State.condMisframe; (repeat' split) <;> simp
@[simp] theorem State.condMisframe_monitor (e : Bool) (b : Nat) : (s.condMisframe ch e b).monitor = s.monitor := by
  unfold State.condMisframe; (repeat' split) <;> simp
@[simp] theorem State.condMisframe_engine (e : Bool) (b : Nat) : (s.condMisframe ch e b).engine = s.engine := by
  unfold State.condMisframe; (repeat' split) <;> simp
@[simp] theorem State.condMisframe_supply (e : Bool) (b : Nat) : (s.condMisframe ch e b).supply = s.supply := by
  unfold State.condMisframe; (repeat' split) <;> simp
@[simp] theorem State.condMisframe_inReset (e : Bool) (b : Nat) : (s.condMisframe ch e b).inReset = s.inReset := by
  unfold State.condMisframe; (repeat' split) <;> simp
@[simp] theorem State.condMisframe_freeIx (e : Bool) (b : Nat) : (s.condMisframe ch e b).freeIx = s.freeIx := by
  unfold State.condMisframe; (repeat' split) <;> simp
@[simp] theorem State.condMisframe_pending (e : Bool) (b : Nat) : (s.condMisframe ch e b).pending = s.pending := by
  unfold State.condMisframe; (repeat' split) <;> simp

/-! ### State.takeStart -/

@[simp] theorem State.takeStart_tick (b : Bool) (t : Tick) : (s.takeStart ch b t).tick = s.tick := by
  unfold State.takeStart; (repeat' split) <;> simp
@[simp] theorem State.takeStart_cmpA (b : Bool) (t : Tick) : (s.takeStart ch b t).cmpA = s.cmpA := by
  unfold State.takeStart; (repeat' split) <;> simp
@[simp] theorem State.takeStart_cmpB (b : Bool) (t : Tick) : (s.takeStart ch b t).cmpB = s.cmpB := by
  unfold State.takeStart; (repeat' split) <;> simp
@[simp] theorem State.takeStart_trigIn (b : Bool) (t : Tick) : (s.takeStart ch b t).trigIn = s.trigIn := by
  unfold State.takeStart; (repeat' split) <;> simp
@[simp] theorem State.takeStart_trigOut (b : Bool) (t : Tick) : (s.takeStart ch b t).trigOut = s.trigOut := by
  unfold State.takeStart; (repeat' split) <;> simp
@[simp] theorem State.takeStart_routes (b : Bool) (t : Tick) : (s.takeStart ch b t).routes = s.routes := by
  unfold State.takeStart; (repeat' split) <;> simp
@[simp] theorem State.takeStart_monitor (b : Bool) (t : Tick) : (s.takeStart ch b t).monitor = s.monitor := by
  unfold State.takeStart; (repeat' split) <;> simp
@[simp] theorem State.takeStart_engine (b : Bool) (t : Tick) : (s.takeStart ch b t).engine = s.engine := by
  unfold State.takeStart; (repeat' split) <;> simp
@[simp] theorem State.takeStart_supply (b : Bool) (t : Tick) : (s.takeStart ch b t).supply = s.supply := by
  unfold State.takeStart; (repeat' split) <;> simp
@[simp] theorem State.takeStart_inReset (b : Bool) (t : Tick) : (s.takeStart ch b t).inReset = s.inReset := by
  unfold State.takeStart; (repeat' split) <;> simp
@[simp] theorem State.takeStart_freeIx (b : Bool) (t : Tick) : (s.takeStart ch b t).freeIx = s.freeIx := by
  unfold State.takeStart; (repeat' split) <;> simp
@[simp] theorem State.takeStart_pending (b : Bool) (t : Tick) : (s.takeStart ch b t).pending = s.pending := by
  unfold State.takeStart; (repeat' split) <;> simp

/-! ### State.takeStop -/

@[simp] theorem State.takeStop_tick (b : Bool) : (s.takeStop ch b).tick = s.tick := by
  unfold State.takeStop; (repeat' split) <;> simp
@[simp] theorem State.takeStop_cmpA (b : Bool) : (s.takeStop ch b).cmpA = s.cmpA := by
  unfold State.takeStop; (repeat' split) <;> simp
@[simp] theorem State.takeStop_cmpB (b : Bool) : (s.takeStop ch b).cmpB = s.cmpB := by
  unfold State.takeStop; (repeat' split) <;> simp
@[simp] theorem State.takeStop_trigIn (b : Bool) : (s.takeStop ch b).trigIn = s.trigIn := by
  unfold State.takeStop; (repeat' split) <;> simp
@[simp] theorem State.takeStop_trigOut (b : Bool) : (s.takeStop ch b).trigOut = s.trigOut := by
  unfold State.takeStop; (repeat' split) <;> simp
@[simp] theorem State.takeStop_routes (b : Bool) : (s.takeStop ch b).routes = s.routes := by
  unfold State.takeStop; (repeat' split) <;> simp
@[simp] theorem State.takeStop_monitor (b : Bool) : (s.takeStop ch b).monitor = s.monitor := by
  unfold State.takeStop; (repeat' split) <;> simp
@[simp] theorem State.takeStop_engine (b : Bool) : (s.takeStop ch b).engine = s.engine := by
  unfold State.takeStop; (repeat' split) <;> simp
@[simp] theorem State.takeStop_supply (b : Bool) : (s.takeStop ch b).supply = s.supply := by
  unfold State.takeStop; (repeat' split) <;> simp
@[simp] theorem State.takeStop_inReset (b : Bool) : (s.takeStop ch b).inReset = s.inReset := by
  unfold State.takeStop; (repeat' split) <;> simp
@[simp] theorem State.takeStop_freeIx (b : Bool) : (s.takeStop ch b).freeIx = s.freeIx := by
  unfold State.takeStop; (repeat' split) <;> simp
@[simp] theorem State.takeStop_pending (b : Bool) : (s.takeStop ch b).pending = s.pending := by
  unfold State.takeStop; (repeat' split) <;> simp

/-! ### State.takeCond -/

@[simp] theorem State.takeCond_tick (b : Bool) (t : Tick) (k : Cond) : (s.takeCond ch b t k).tick = s.tick := by
  unfold State.takeCond; (repeat' split) <;> simp
@[simp] theorem State.takeCond_cmpA (b : Bool) (t : Tick) (k : Cond) : (s.takeCond ch b t k).cmpA = s.cmpA := by
  unfold State.takeCond; (repeat' split) <;> simp
@[simp] theorem State.takeCond_cmpB (b : Bool) (t : Tick) (k : Cond) : (s.takeCond ch b t k).cmpB = s.cmpB := by
  unfold State.takeCond; (repeat' split) <;> simp
@[simp] theorem State.takeCond_trigIn (b : Bool) (t : Tick) (k : Cond) : (s.takeCond ch b t k).trigIn = s.trigIn := by
  unfold State.takeCond; (repeat' split) <;> simp
@[simp] theorem State.takeCond_trigOut (b : Bool) (t : Tick) (k : Cond) : (s.takeCond ch b t k).trigOut = s.trigOut := by
  unfold State.takeCond; (repeat' split) <;> simp
@[simp] theorem State.takeCond_routes (b : Bool) (t : Tick) (k : Cond) : (s.takeCond ch b t k).routes = s.routes := by
  unfold State.takeCond; (repeat' split) <;> simp
@[simp] theorem State.takeCond_monitor (b : Bool) (t : Tick) (k : Cond) : (s.takeCond ch b t k).monitor = s.monitor := by
  unfold State.takeCond; (repeat' split) <;> simp
@[simp] theorem State.takeCond_engine (b : Bool) (t : Tick) (k : Cond) : (s.takeCond ch b t k).engine = s.engine := by
  unfold State.takeCond; (repeat' split) <;> simp
@[simp] theorem State.takeCond_supply (b : Bool) (t : Tick) (k : Cond) : (s.takeCond ch b t k).supply = s.supply := by
  unfold State.takeCond; (repeat' split) <;> simp
@[simp] theorem State.takeCond_inReset (b : Bool) (t : Tick) (k : Cond) : (s.takeCond ch b t k).inReset = s.inReset := by
  unfold State.takeCond; (repeat' split) <;> simp
@[simp] theorem State.takeCond_freeIx (b : Bool) (t : Tick) (k : Cond) : (s.takeCond ch b t k).freeIx = s.freeIx := by
  unfold State.takeCond; (repeat' split) <;> simp
@[simp] theorem State.takeCond_pending (b : Bool) (t : Tick) (k : Cond) : (s.takeCond ch b t k).pending = s.pending := by
  unfold State.takeCond; (repeat' split) <;> simp

/-! ### State.takeNext -/

@[simp] theorem State.takeNext_rules (n : NextAct) : (s.takeNext ch n).rules = s.rules := by
  unfold State.takeNext; (repeat' split) <;> simp
@[simp] theorem State.takeNext_images (n : NextAct) : (s.takeNext ch n).images = s.images := by
  unfold State.takeNext; (repeat' split) <;> simp
@[simp] theorem State.takeNext_tick (n : NextAct) : (s.takeNext ch n).tick = s.tick := by
  unfold State.takeNext; (repeat' split) <;> simp
@[simp] theorem State.takeNext_trigIn (n : NextAct) : (s.takeNext ch n).trigIn = s.trigIn := by
  unfold State.takeNext; (repeat' split) <;> simp
@[simp] theorem State.takeNext_engine (n : NextAct) : (s.takeNext ch n).engine = s.engine := by
  unfold State.takeNext; (repeat' split) <;> simp
@[simp] theorem State.takeNext_inReset (n : NextAct) : (s.takeNext ch n).inReset = s.inReset := by
  unfold State.takeNext; (repeat' split) <;> simp
@[simp] theorem State.takeNext_freeIx (n : NextAct) : (s.takeNext ch n).freeIx = s.freeIx := by
  unfold State.takeNext; (repeat' split) <;> simp
@[simp] theorem State.takeNext_pending (n : NextAct) : (s.takeNext ch n).pending = s.pending := by
  unfold State.takeNext; (repeat' split) <;> simp

/-! ### State.decided -/

@[simp] theorem State.decided_rules (n : NextAct) : (s.decided ch n).rules = s.rules := by
  unfold State.decided; (repeat' split) <;> simp
@[simp] theorem State.decided_images (n : NextAct) : (s.decided ch n).images = s.images := by
  unfold State.decided; (repeat' split) <;> simp
@[simp] theorem State.decided_tick (n : NextAct) : (s.decided ch n).tick = s.tick := by
  unfold State.decided; (repeat' split) <;> simp
@[simp] theorem State.decided_trigIn (n : NextAct) : (s.decided ch n).trigIn = s.trigIn := by
  unfold State.decided; (repeat' split) <;> simp
@[simp] theorem State.decided_engine (n : NextAct) : (s.decided ch n).engine = s.engine := by
  unfold State.decided; (repeat' split) <;> simp
@[simp] theorem State.decided_inReset (n : NextAct) : (s.decided ch n).inReset = s.inReset := by
  unfold State.decided; (repeat' split) <;> simp
@[simp] theorem State.decided_freeIx (n : NextAct) : (s.decided ch n).freeIx = s.freeIx := by
  unfold State.decided; (repeat' split) <;> simp
@[simp] theorem State.decided_pending (n : NextAct) : (s.decided ch n).pending = s.pending := by
  unfold State.decided; (repeat' split) <;> simp

/-! ### State.resumeNext -/

@[simp] theorem State.resumeNext_rules : (s.resumeNext ch).rules = s.rules := by
  unfold State.resumeNext; (repeat' split) <;> simp
@[simp] theorem State.resumeNext_images : (s.resumeNext ch).images = s.images := by
  unfold State.resumeNext; (repeat' split) <;> simp
@[simp] theorem State.resumeNext_tick : (s.resumeNext ch).tick = s.tick := by
  unfold State.resumeNext; (repeat' split) <;> simp
@[simp] theorem State.resumeNext_trigIn : (s.resumeNext ch).trigIn = s.trigIn := by
  unfold State.resumeNext; (repeat' split) <;> simp
@[simp] theorem State.resumeNext_engine : (s.resumeNext ch).engine = s.engine := by
  unfold State.resumeNext; (repeat' split) <;> simp
@[simp] theorem State.resumeNext_inReset : (s.resumeNext ch).inReset = s.inReset := by
  unfold State.resumeNext; (repeat' split) <;> simp
@[simp] theorem State.resumeNext_freeIx : (s.resumeNext ch).freeIx = s.freeIx := by
  unfold State.resumeNext; (repeat' split) <;> simp
@[simp] theorem State.resumeNext_pending : (s.resumeNext ch).pending = s.pending := by
  unfold State.resumeNext; (repeat' split) <;> simp

/-! ### State.refuseStopping -/

@[simp] theorem State.refuseStopping_rules : (s.refuseStopping ch).rules = s.rules := by simp [State.refuseStopping]
@[simp] theorem State.refuseStopping_images : (s.refuseStopping ch).images = s.images := by simp [State.refuseStopping]
@[simp] theorem State.refuseStopping_log : (s.refuseStopping ch).log = s.log := by simp [State.refuseStopping]
@[simp] theorem State.refuseStopping_tick : (s.refuseStopping ch).tick = s.tick := by simp [State.refuseStopping]
@[simp] theorem State.refuseStopping_cmpA : (s.refuseStopping ch).cmpA = s.cmpA := by simp [State.refuseStopping]
@[simp] theorem State.refuseStopping_cmpB : (s.refuseStopping ch).cmpB = s.cmpB := by simp [State.refuseStopping]
@[simp] theorem State.refuseStopping_trigIn : (s.refuseStopping ch).trigIn = s.trigIn := by simp [State.refuseStopping]
@[simp] theorem State.refuseStopping_trigOut : (s.refuseStopping ch).trigOut = s.trigOut := by simp [State.refuseStopping]
@[simp] theorem State.refuseStopping_routes : (s.refuseStopping ch).routes = s.routes := by simp [State.refuseStopping]
@[simp] theorem State.refuseStopping_monitor : (s.refuseStopping ch).monitor = s.monitor := by simp [State.refuseStopping]
@[simp] theorem State.refuseStopping_engine : (s.refuseStopping ch).engine = s.engine := by simp [State.refuseStopping]
@[simp] theorem State.refuseStopping_supply : (s.refuseStopping ch).supply = s.supply := by simp [State.refuseStopping]
@[simp] theorem State.refuseStopping_link : (s.refuseStopping ch).link = s.link := by simp [State.refuseStopping]
@[simp] theorem State.refuseStopping_inReset : (s.refuseStopping ch).inReset = s.inReset := by simp [State.refuseStopping]
@[simp] theorem State.refuseStopping_freeIx : (s.refuseStopping ch).freeIx = s.freeIx := by simp [State.refuseStopping]
@[simp] theorem State.refuseStopping_pending : (s.refuseStopping ch).pending = s.pending := by simp [State.refuseStopping]

/-! ### State.addressStage -/

@[simp] theorem State.addressStage_images (x : Exchange) : (s.addressStage ch x).images = s.images := by simp [State.addressStage, State.addressScan, State.onExch]
@[simp] theorem State.addressStage_tick (x : Exchange) : (s.addressStage ch x).tick = s.tick := by simp [State.addressStage, State.addressScan, State.onExch]
@[simp] theorem State.addressStage_trigIn (x : Exchange) : (s.addressStage ch x).trigIn = s.trigIn := by simp [State.addressStage, State.addressScan, State.onExch]
@[simp] theorem State.addressStage_engine (x : Exchange) : (s.addressStage ch x).engine = s.engine := by simp [State.addressStage, State.addressScan, State.onExch]
@[simp] theorem State.addressStage_inReset (x : Exchange) : (s.addressStage ch x).inReset = s.inReset := by simp [State.addressStage, State.addressScan, State.onExch]
@[simp] theorem State.addressStage_freeIx (x : Exchange) : (s.addressStage ch x).freeIx = s.freeIx := by simp [State.addressStage, State.addressScan, State.onExch]
@[simp] theorem State.addressStage_pending (x : Exchange) : (s.addressStage ch x).pending = s.pending := by simp [State.addressStage, State.addressScan, State.onExch]

/-! ### State.lookAddress -/

@[simp] theorem State.lookAddress_tick (b : Byte) : (s.lookAddress ch b).tick = s.tick := by simp [State.lookAddress, State.addressScan, State.onExch]
@[simp] theorem State.lookAddress_trigIn (b : Byte) : (s.lookAddress ch b).trigIn = s.trigIn := by simp [State.lookAddress, State.addressScan, State.onExch]
@[simp] theorem State.lookAddress_engine (b : Byte) : (s.lookAddress ch b).engine = s.engine := by simp [State.lookAddress, State.addressScan, State.onExch]
@[simp] theorem State.lookAddress_inReset (b : Byte) : (s.lookAddress ch b).inReset = s.inReset := by simp [State.lookAddress, State.addressScan, State.onExch]
@[simp] theorem State.lookAddress_freeIx (b : Byte) : (s.lookAddress ch b).freeIx = s.freeIx := by simp [State.lookAddress, State.addressScan, State.onExch]
@[simp] theorem State.lookAddress_pending (b : Byte) : (s.lookAddress ch b).pending = s.pending := by simp [State.lookAddress, State.addressScan, State.onExch]

/-! ### State.takeAddress -/

@[simp] theorem State.takeAddress_tick (b : Byte) : (s.takeAddress ch b).tick = s.tick := by
  unfold State.takeAddress; dsimp only; (repeat' split) <;> simp
@[simp] theorem State.takeAddress_trigIn (b : Byte) : (s.takeAddress ch b).trigIn = s.trigIn := by
  unfold State.takeAddress; dsimp only; (repeat' split) <;> simp
@[simp] theorem State.takeAddress_engine (b : Byte) : (s.takeAddress ch b).engine = s.engine := by
  unfold State.takeAddress; dsimp only; (repeat' split) <;> simp
@[simp] theorem State.takeAddress_inReset (b : Byte) : (s.takeAddress ch b).inReset = s.inReset := by
  unfold State.takeAddress; dsimp only; (repeat' split) <;> simp
@[simp] theorem State.takeAddress_freeIx (b : Byte) : (s.takeAddress ch b).freeIx = s.freeIx := by
  unfold State.takeAddress; dsimp only; (repeat' split) <;> simp
@[simp] theorem State.takeAddress_pending (b : Byte) : (s.takeAddress ch b).pending = s.pending := by
  unfold State.takeAddress; dsimp only; (repeat' split) <;> simp

/-! ### State.passAddress -/

@[simp] theorem State.passAddress_tick (b : Byte) : (s.passAddress ch b).tick = s.tick := by
  unfold State.passAddress; (repeat' split) <;> simp
@[simp] theorem State.passAddress_trigIn (b : Byte) : (s.passAddress ch b).trigIn = s.trigIn := by
  unfold State.passAddress; (repeat' split) <;> simp
@[simp] theorem State.passAddress_engine (b : Byte) : (s.passAddress ch b).engine = s.engine := by
  unfold State.passAddress; (repeat' split) <;> simp
@[simp] theorem State.passAddress_inReset (b : Byte) : (s.passAddress ch b).inReset = s.inReset := by
  unfold State.passAddress; (repeat' split) <;> simp
@[simp] theorem State.passAddress_freeIx (b : Byte) : (s.passAddress ch b).freeIx = s.freeIx := by
  unfold State.passAddress; (repeat' split) <;> simp
@[simp] theorem State.passAddress_pending (b : Byte) : (s.passAddress ch b).pending = s.pending := by
  unfold State.passAddress; (repeat' split) <;> simp

/-! ### State.takeKept -/

@[simp] theorem State.takeKept_tick (l : List Kept) : (s.takeKept ch l).tick = s.tick := by
  induction l generalizing s with
  | nil => rfl
  | cons k rest ih =>
    cases k
    · simp [State.takeKept, ih]
    · unfold State.takeKept; split <;> simp [ih]
@[simp] theorem State.takeKept_trigIn (l : List Kept) : (s.takeKept ch l).trigIn = s.trigIn := by
  induction l generalizing s with
  | nil => rfl
  | cons k rest ih =>
    cases k
    · simp [State.takeKept, ih]
    · unfold State.takeKept; split <;> simp [ih]
@[simp] theorem State.takeKept_engine (l : List Kept) : (s.takeKept ch l).engine = s.engine := by
  induction l generalizing s with
  | nil => rfl
  | cons k rest ih =>
    cases k
    · simp [State.takeKept, ih]
    · unfold State.takeKept; split <;> simp [ih]
@[simp] theorem State.takeKept_inReset (l : List Kept) : (s.takeKept ch l).inReset = s.inReset := by
  induction l generalizing s with
  | nil => rfl
  | cons k rest ih =>
    cases k
    · simp [State.takeKept, ih]
    · unfold State.takeKept; split <;> simp [ih]
@[simp] theorem State.takeKept_freeIx (l : List Kept) : (s.takeKept ch l).freeIx = s.freeIx := by
  induction l generalizing s with
  | nil => rfl
  | cons k rest ih =>
    cases k
    · simp [State.takeKept, ih]
    · unfold State.takeKept; split <;> simp [ih]
@[simp] theorem State.takeKept_pending (l : List Kept) : (s.takeKept ch l).pending = s.pending := by
  induction l generalizing s with
  | nil => rfl
  | cons k rest ih =>
    cases k
    · simp [State.takeKept, ih]
    · unfold State.takeKept; split <;> simp [ih]

/-! ### State.relayMisframe -/

@[simp] theorem State.relayMisframe_rules (b : Bool) : (s.relayMisframe ch b).rules = s.rules := by
  unfold State.relayMisframe; (repeat' split) <;> simp
@[simp] theorem State.relayMisframe_images (b : Bool) : (s.relayMisframe ch b).images = s.images := by
  unfold State.relayMisframe; (repeat' split) <;> simp
@[simp] theorem State.relayMisframe_tick (b : Bool) : (s.relayMisframe ch b).tick = s.tick := by
  unfold State.relayMisframe; (repeat' split) <;> simp
@[simp] theorem State.relayMisframe_cmpA (b : Bool) : (s.relayMisframe ch b).cmpA = s.cmpA := by
  unfold State.relayMisframe; (repeat' split) <;> simp
@[simp] theorem State.relayMisframe_cmpB (b : Bool) : (s.relayMisframe ch b).cmpB = s.cmpB := by
  unfold State.relayMisframe; (repeat' split) <;> simp
@[simp] theorem State.relayMisframe_trigIn (b : Bool) : (s.relayMisframe ch b).trigIn = s.trigIn := by
  unfold State.relayMisframe; (repeat' split) <;> simp
@[simp] theorem State.relayMisframe_trigOut (b : Bool) : (s.relayMisframe ch b).trigOut = s.trigOut := by
  unfold State.relayMisframe; (repeat' split) <;> simp
@[simp] theorem State.relayMisframe_routes (b : Bool) : (s.relayMisframe ch b).routes = s.routes := by
  unfold State.relayMisframe; (repeat' split) <;> simp
@[simp] theorem State.relayMisframe_monitor (b : Bool) : (s.relayMisframe ch b).monitor = s.monitor := by
  unfold State.relayMisframe; (repeat' split) <;> simp
@[simp] theorem State.relayMisframe_engine (b : Bool) : (s.relayMisframe ch b).engine = s.engine := by
  unfold State.relayMisframe; (repeat' split) <;> simp
@[simp] theorem State.relayMisframe_supply (b : Bool) : (s.relayMisframe ch b).supply = s.supply := by
  unfold State.relayMisframe; (repeat' split) <;> simp
@[simp] theorem State.relayMisframe_inReset (b : Bool) : (s.relayMisframe ch b).inReset = s.inReset := by
  unfold State.relayMisframe; (repeat' split) <;> simp
@[simp] theorem State.relayMisframe_freeIx (b : Bool) : (s.relayMisframe ch b).freeIx = s.freeIx := by
  unfold State.relayMisframe; (repeat' split) <;> simp
@[simp] theorem State.relayMisframe_pending (b : Bool) : (s.relayMisframe ch b).pending = s.pending := by
  unfold State.relayMisframe; (repeat' split) <;> simp

/-! ### State.grantLost -/

@[simp] theorem State.grantLost_rules : (s.grantLost ch).rules = s.rules := by
  unfold State.grantLost; dsimp only; split <;> simp
@[simp] theorem State.grantLost_images : (s.grantLost ch).images = s.images := by
  unfold State.grantLost; dsimp only; split <;> simp
@[simp] theorem State.grantLost_log : (s.grantLost ch).log = s.log := by
  unfold State.grantLost; dsimp only; split <;> simp
@[simp] theorem State.grantLost_tick : (s.grantLost ch).tick = s.tick := by
  unfold State.grantLost; dsimp only; split <;> simp
@[simp] theorem State.grantLost_cmpA : (s.grantLost ch).cmpA = s.cmpA := by
  unfold State.grantLost; dsimp only; split <;> simp
@[simp] theorem State.grantLost_cmpB : (s.grantLost ch).cmpB = s.cmpB := by
  unfold State.grantLost; dsimp only; split <;> simp
@[simp] theorem State.grantLost_trigIn : (s.grantLost ch).trigIn = s.trigIn := by
  unfold State.grantLost; dsimp only; split <;> simp
@[simp] theorem State.grantLost_trigOut : (s.grantLost ch).trigOut = s.trigOut := by
  unfold State.grantLost; dsimp only; split <;> simp
@[simp] theorem State.grantLost_routes : (s.grantLost ch).routes = s.routes := by
  unfold State.grantLost; dsimp only; split <;> simp
@[simp] theorem State.grantLost_monitor : (s.grantLost ch).monitor = s.monitor := by
  unfold State.grantLost; dsimp only; split <;> simp
@[simp] theorem State.grantLost_engine : (s.grantLost ch).engine = s.engine := by
  unfold State.grantLost; dsimp only; split <;> simp
@[simp] theorem State.grantLost_supply : (s.grantLost ch).supply = s.supply := by
  unfold State.grantLost; dsimp only; split <;> simp
@[simp] theorem State.grantLost_link : (s.grantLost ch).link = s.link := by
  unfold State.grantLost; dsimp only; split <;> simp
@[simp] theorem State.grantLost_inReset : (s.grantLost ch).inReset = s.inReset := by
  unfold State.grantLost; dsimp only; split <;> simp
@[simp] theorem State.grantLost_freeIx : (s.grantLost ch).freeIx = s.freeIx := by
  unfold State.grantLost; dsimp only; split <;> simp
@[simp] theorem State.grantLost_pending : (s.grantLost ch).pending = s.pending := by
  unfold State.grantLost; dsimp only; split <;> simp

/-- What an address byte kept behind a START, and the START with it, comes to: the START ends the exchange in flight
and begins the address byte at its own tick count (R31, log entry 38). -/
theorem State.takeKept_start_address (time : Tick) (byte : Byte) :
    s.takeKept ch [.cond .start false time, .address byte] = (s.takeStart ch false time).takeAddress ch byte := rfl

/-! ### Requests -/

/-- Dispatch can take a request exactly in a state that is ready (R191, R195). -/
theorem State.canTake_of_ready (h : Ready s) : s.canTake = true := by
  obtain ⟨h1, h2, h3⟩ := h
  simp [State.canTake, h1, h3, Config.replyPlaces, h2]

/-- A request that dispatch can take is taken by its owner block and answered (R191). -/
theorem State.serve_of_ready (h : Ready s) (tag code : Byte) (owner : State → State × Answer) :
    s.serve tag code owner
      = (owner s).1.withReply ⟨tag, code, (owner s).2.status, (owner s).2.results⟩ := by
  simp only [State.serve, s.canTake_of_ready h, if_true]
  rfl

/-- A channel's number names it. -/
@[simp] theorem chanOf_code : chanOf (chanCode ch) = some ch := by cases ch <;> rfl

/-- A number above 1 names no channel (R15). -/
theorem chanOf_none {b : Byte} (h : 2 ≤ b.toNat) : chanOf b = none := by
  unfold chanOf
  split
  · subst_vars; simp at h
  · split
    · subst_vars; simp at h
    · rfl

/-- A choice byte above 1 is neither yes nor no (R196). -/
theorem boolOf_none {b : Byte} (h : 2 ≤ b.toNat) : boolOf b = none := by
  unfold boolOf
  split
  · subst_vars; simp at h
  · split
    · subst_vars; simp at h
    · rfl

/-- A number names its image. -/
theorem imageOf_ofNat (k : Fin 4) : imageOf (BitVec.ofNat 8 k.val) = some k := by
  match k with
  | ⟨0, _⟩ => rfl
  | ⟨1, _⟩ => rfl
  | ⟨2, _⟩ => rfl
  | ⟨3, _⟩ => rfl

/-- The action taken on the channel alone changes no other block and of the other channel only measurements. -/
theorem State.onlyChannel_onChan (f : Channel → Channel) : OnlyChannel ch s (s.onChan ch f).retimeAll := by
  cases ch <;> exact ⟨rfl, rfl⟩

/-- A channel after a change to it, with its measurements brought up to date. -/
theorem State.chan_onChan_retimeAll (f : Channel → Channel) :
    (s.onChan ch f).retimeAll.chan ch
      = { f (s.chan ch) with meters := ((s.onChan ch f).retimeAll.chan ch).meters } := by
  cases ch <;> rfl

end Sys2Proof.Machine
end

