-- ==== Sys2Proof/Laws/Health.lean ====
section
/-! SUPPORT. What the integration of a misframe can do, said once (R144 to R148), and how a change of one channel
goes with a record handed to the log. -/

namespace Sys2Proof.Machine

variable (s : State) (ch : Chan)

/-! ### A channel's change and a record handed to the log -/

/-- Two changes of a channel are one. -/
theorem State.onChan_onChan (f g : Channel → Channel) : (s.onChan ch f).onChan ch g = s.onChan ch fun c => g (f c) := by
  cases ch <;> rfl

/-- A record handed to the log does not see a channel's change. -/
theorem State.hand_onChan (f : Channel → Channel) (x : Option Chan) (b : Body) :
    (s.onChan ch f).hand x b = (s.hand x b).onChan ch f := by
  unfold State.hand State.raiseIf
  rw [show (s.onChan ch f).log.take (s.onChan ch f).tick x b = s.log.take s.tick x b by simp]
  by_cases h1 : (s.log.take s.tick x b).loss = true <;> by_cases h2 : (s.log.take s.tick x b).fill = true <;>
    cases ch <;> simp [h1, h2] <;> rfl

/-- A notice raised does not see a channel's change. -/
theorem State.raiseIf_onChan (f : Channel → Channel) (b : Bool) (n : Notice) :
    (s.onChan ch f).raiseIf b n = (s.raiseIf b n).onChan ch f := by
  cases b <;> cases ch <;> rfl

/-- A job runs on a channel in states with the same engine alike. -/
theorem State.jobOn_congr {s t : State} (h : t.engine = s.engine) (ch : Chan) : t.jobOn ch = s.jobOn ch := by
  simp [State.jobOn, h]

/-- What a channel's change leaves, in a state that differs from `s` in the log and the link only. -/
theorem State.onChan_frame (v : State) (f : Channel → Channel) (h : v = { s with log := v.log, link := v.link }) :
    SameBlocks { s with log := (v.onChan ch f).log, link := (v.onChan ch f).link } (v.onChan ch f)
      ∧ (v.onChan ch f).chan (other ch) = s.chan (other ch) ∧ (v.onChan ch f).log = v.log
      ∧ (v.onChan ch f).link = v.link ∧ (v.onChan ch f).chan ch = f (s.chan ch) := by
  have e : ∀ c, v.chan c = s.chan c := fun c => by rw [h]; cases c <;> rfl
  refine ⟨?_, by simp [e], by simp, by simp, by simp [e]⟩
  rw [h]
  cases ch <;> rfl

/-! ### DEGRADED declared (R147) -/

/-- The EVENT record and the notice of a declaration of DEGRADED (R147, R148). -/
def State.degradedTold (s : State) (ch : Chan) : State :=
  (s.hand (some ch) (.event (.degraded true))).raiseIf (!s.quietDegraded ch) (healthNotice ch)

/-- They change the log and the link only. -/
theorem State.degradedTold_frame :
    s.degradedTold ch = { s with log := (s.degradedTold ch).log, link := (s.degradedTold ch).link } := by
  unfold State.degradedTold State.raiseIf State.hand State.raiseIf State.raise
  dsimp only
  split <;> split <;> split <;> rfl

/-- A declaration of DEGRADED: the record, the notice, and the channel's part. -/
theorem State.declareDegraded_eq : s.declareDegraded ch = (s.degradedTold ch).onChan ch fun c =>
    let h : Health := { c.health with degraded := true, misframes := 0, cleanRun := 0 }
    if c.settings.fallbackOnDegrade then
      if s.jobOn ch then { c with health := { h with owed := true } } else { c with health := h, fallback := true }
    else { c with health := h } := by
  have e1 : ∀ f : Health → Health, (s.onHealth ch f).event (some ch) (.degraded true)
      = (s.hand (some ch) (.event (.degraded true))).onHealth ch f := fun f => s.hand_onChan ch _ _ _
  have e2 : ∀ (v : State) (f : Health → Health) (b : Bool) (n : Notice),
      (v.onHealth ch f).raiseIf b n = (v.raiseIf b n).onHealth ch f := fun v f b n => v.raiseIf_onChan ch _ b n
  have e3 : (s.onHealth ch fun h => { h with degraded := true, misframes := 0, cleanRun := 0 }).quietDegraded ch
      = s.quietDegraded ch := by cases ch <;> rfl
  have e4 : ∀ f : Health → Health, ((s.degradedTold ch).onHealth ch f).jobOn ch = s.jobOn ch := fun f =>
    State.jobOn_congr (by rw [s.degradedTold_frame ch]; cases ch <;> rfl) ch
  have e5 : ∀ f : Health → Health, (((s.degradedTold ch).onHealth ch f).chan ch).settings = (s.chan ch).settings :=
    fun f => by rw [s.degradedTold_frame ch]; cases ch <;> rfl
  have e6 : ((s.degradedTold ch).chan ch).settings = (s.chan ch).settings := by
    rw [s.degradedTold_frame ch]; cases ch <;> rfl
  unfold State.declareDegraded
  dsimp only
  rw [e1, e2, e3, show (s.hand (some ch) (.event (.degraded true))).raiseIf (!s.quietDegraded ch) (healthNotice ch)
    = s.degradedTold ch from rfl]
  simp only [e5, e4]
  simp only [State.onHealth, State.onChan_onChan]
  by_cases hf : (s.chan ch).settings.fallbackOnDegrade = true <;> by_cases hj : s.jobOn ch = true <;>
    simp only [hf, hj, if_true, if_false, Bool.false_eq_true] <;> simp [State.onChan, e6, hf]

/-! ### A misframe (R145, R146) -/

/-- Everything a misframe that falls in no exchange can do. -/
theorem State.takeMisframe_taken : MisframeTaken ch false s (s.takeMisframe ch) := by
  have hh : ((s.tally ch fun t => { t with misframes := bump t.misframes }).chan ch).health
      = { (s.chan ch).health with running :=
          { (s.chan ch).health.running with misframes := bump (s.chan ch).health.running.misframes } } := by
    cases ch <;> rfl
  have hm : (s.tally ch fun t => { t with misframes := bump t.misframes }).monitor = s.monitor := by simp
  unfold State.takeMisframe
  dsimp only
  rw [hh, hm]
  dsimp only
  by_cases hd : (s.chan ch).health.degraded = true
  · rw [if_pos hd]
    simp only [State.tally, State.onHealth, State.onChan_onChan]
    obtain ⟨h1, h2, -, -, h5⟩ := s.onChan_frame ch s (fun c => { c with health := { c.health with
      running := { c.health.running with misframes := bump c.health.running.misframes }, cleanRun := 0 } }) rfl
    exact ⟨h1, h2, by simp [hd], by rw [h5]; simp [hd, bump, satAdd, max32]⟩
  · rw [if_neg hd]
    by_cases hn : s.monitor.degrade ≤ count63 (s.chan ch).health.misframes
    · have hn' : s.monitor.degrade ≤ min 63 ((s.chan ch).health.misframes + 1) := hn
      have hev : (s.tally ch fun t => { t with misframes := bump t.misframes }).degradedTold ch
          = (s.degradedTold ch).onChan ch fun c => { c with health := { c.health with
              running := { c.health.running with misframes := bump c.health.running.misframes } } } := by
        unfold State.degradedTold State.tally State.onHealth
        rw [State.hand_onChan, State.raiseIf_onChan]
        congr 1
        cases ch <;> rfl
      have hj : (s.tally ch fun t => { t with misframes := bump t.misframes }).jobOn ch = s.jobOn ch :=
        State.jobOn_congr (by simp) ch
      have q : (decide (s.supply.state = .tripped) || (s.chan ch).health.stuckC || (s.chan ch).health.stuckD)
          = s.quietDegraded ch := rfl
      rw [if_pos hn, State.declareDegraded_eq, hev, hj]
      simp only [State.onChan_onChan]
      obtain ⟨h1, h2, h3, h4, h5⟩ := s.onChan_frame ch (s.degradedTold ch) _ (s.degradedTold_frame ch)
      refine ⟨h1, h2, ?_, ?_⟩
      · rw [h3, h4]
        simp only [q]
        rw [if_pos (by simp [hd, hn'])]
        cases hq : s.quietDegraded ch <;> simp [State.degradedTold, State.raiseIf, hq]
      · rw [h5]
        simp only [Bool.not_eq_true] at hd
        by_cases hf : (s.chan ch).settings.fallbackOnDegrade = true <;> by_cases hj : s.jobOn ch = true <;>
          simp [hd, hn', hf, hj, bump, satAdd, max32]
    · have hn' : ¬ s.monitor.degrade ≤ min 63 ((s.chan ch).health.misframes + 1) := hn
      rw [if_neg hn]
      simp only [State.tally, State.onHealth, State.onChan_onChan]
      obtain ⟨h1, h2, -, -, h5⟩ := s.onChan_frame ch s (fun c => { c with health := { c.health with
        running := { c.health.running with misframes := bump c.health.running.misframes }
        misframes := count63 c.health.misframes, cleanRun := 0 } }) rfl
      refine ⟨h1, h2, by simp [hd, hn'], ?_⟩
      rw [h5]
      simp only [Bool.not_eq_true] at hd
      simp [hd, hn', bump, satAdd, max32, count63]

/-- Everything a misframe that falls in the exchange in flight can do. -/
theorem State.misframe_taken : MisframeTaken ch true s (s.misframe ch) := by
  obtain ⟨h1, h2, h3, h4⟩ :=
    (s.onChan ch fun c => { c with exch := c.exch.map fun x => { x with misframe := true } }).takeMisframe_taken ch
  have hj : ∀ f, (s.onChan ch f).jobOn ch = s.jobOn ch := fun f => State.jobOn_congr (by simp) ch
  simp only [State.hand_onChan, State.chan_onChan_same, State.chan_onChan_other, State.onChan_supply,
    State.onChan_monitor, State.onChan_log, State.onChan_link, hj] at h2 h3 h4
  refine ⟨?_, h2, ?_, h4⟩
  · cases ch <;> exact h1
  · split at h3
    · rename_i hd
      refine (if_pos hd).mpr ⟨h3.1, h3.2.trans ?_⟩
      split <;> cases ch <;> rfl
    · rename_i hd
      exact (if_neg hd).mpr h3

end Sys2Proof.Machine
end

