-- ==== Sys2Proof/Laws/Memory.lean ====
section
/-! SUPPORT. The laws of the byte buffers (image contents, R69; staging, R158): a read after a write, the canonical
form every operation keeps, and that canonical buffers which read alike are equal. -/

namespace Sys2Proof.Machine

variable {m : Mem} {lo a : Nat} {b : Byte}

/-- The canonical form from `lo` on, pair by pair. -/
theorem memWfFrom_cons {k : Nat} {v : Byte} :
    memWfFrom lo ((k, v) :: m) = true ↔ lo ≤ k ∧ v ≠ 0xFF ∧ memWfFrom (k + 1) m = true := by
  simp [memWfFrom, and_assoc]

/-- A buffer canonical from one address on is canonical from any lower one. -/
theorem memWfFrom_mono {lo' : Nat} (h : lo' ≤ lo) (hm : memWfFrom lo m = true) : memWfFrom lo' m = true := by
  cases m with
  | nil => rfl
  | cons p m =>
    rw [memWfFrom_cons] at hm ⊢
    exact ⟨h.trans hm.1, hm.2⟩

/-- Below its first address a canonical buffer reads as the reset byte. -/
theorem memRead_below (hm : memWfFrom lo m = true) (h : a < lo) : memRead m a = 0xFF := by
  induction m generalizing lo with
  | nil => rfl
  | cons p m ih =>
    obtain ⟨k, v⟩ := p
    rw [memWfFrom_cons] at hm
    have : k ≠ a := by omega
    simp only [memRead, this, if_false]
    exact ih hm.2.2 (by omega)

/-- What a pair reads. -/
theorem memRead_cons {k : Nat} {v : Byte} (x : Nat) :
    memRead ((k, v) :: m) x = if k = x then v else memRead m x := rfl

/-- A write to a buffer with a first pair. -/
theorem memWrite_cons {k : Nat} {v : Byte} :
    memWrite ((k, v) :: m) a b =
      if a < k then (if b = 0xFF then (k, v) :: m else (a, b) :: (k, v) :: m)
      else if a = k then (if b = 0xFF then m else (a, b) :: m)
      else (k, v) :: memWrite m a b := rfl

/-- A write keeps the canonical form. -/
theorem memWrite_wfFrom (hm : memWfFrom lo m = true) (ha : lo ≤ a) : memWfFrom lo (memWrite m a b) = true := by
  induction m generalizing lo with
  | nil =>
    unfold memWrite
    split
    · rfl
    · exact memWfFrom_cons.2 ⟨ha, ‹_›, rfl⟩
  | cons p m ih =>
    obtain ⟨k, v⟩ := p
    have hk := memWfFrom_cons.1 hm
    unfold memWrite
    split
    · split
      · exact hm
      · exact memWfFrom_cons.2 ⟨ha, ‹_›, memWfFrom_cons.2 ⟨by omega, hk.2⟩⟩
    · split
      · split
        · exact memWfFrom_mono (by omega) hk.2.2
        · subst_vars
          exact memWfFrom_cons.2 ⟨ha, ‹_›, hk.2.2⟩
      · exact memWfFrom_cons.2 ⟨hk.1, hk.2.1, ih hk.2.2 (by omega)⟩

/-- A write of one byte keeps the canonical form. -/
theorem memWrite_wf (hm : memWf m = true) : memWf (memWrite m a b) = true := memWrite_wfFrom hm (Nat.zero_le _)

/-- A write of several bytes keeps the canonical form. -/
theorem memWriteList_wf {l : List Byte} (hm : memWf m = true) : memWf (memWriteList m a l) = true := by
  induction l generalizing m a with
  | nil => exact hm
  | cons b l ih => exact ih (memWrite_wf hm)

/-- What any address reads after a write to a canonical buffer. -/
theorem memRead_memWrite (hm : memWfFrom lo m = true) (x : Nat) :
    memRead (memWrite m a b) x = if x = a then b else memRead m x := by
  induction m generalizing lo with
  | nil =>
    unfold memWrite
    by_cases hb : b = 0xFF <;> by_cases hx : x = a
    · simp [hb, hx, memRead]
    · simp [hb, hx, memRead]
    · rw [if_neg hb, if_pos hx, memRead_cons, if_pos hx.symm]
    · rw [if_neg hb, if_neg hx, memRead_cons, if_neg (Ne.symm hx)]
  | cons p m ih =>
    obtain ⟨k, v⟩ := p
    have hk := memWfFrom_cons.1 hm
    have hr : ∀ y, y ≤ k → memRead m y = 0xFF := fun y hy => memRead_below hk.2.2 (by omega)
    rw [memWrite_cons]
    rcases Nat.lt_trichotomy a k with h1 | h1 | h1
    · rw [if_pos h1]
      by_cases hx : x = a
      · subst hx
        by_cases hb : b = 0xFF
        · rw [if_pos hb, if_pos rfl, memRead_cons, if_neg (by omega), hr x (by omega), hb]
        · rw [if_neg hb, if_pos rfl, memRead_cons, if_pos rfl]
      · by_cases hb : b = 0xFF
        · rw [if_pos hb, if_neg hx]
        · rw [if_neg hb, if_neg hx, memRead_cons, if_neg (Ne.symm hx)]
    · subst h1
      rw [if_neg (Nat.lt_irrefl a), if_pos rfl]
      by_cases hx : x = a
      · subst hx
        by_cases hb : b = 0xFF
        · rw [if_pos hb, if_pos rfl, hr x (Nat.le_refl _), hb]
        · rw [if_neg hb, if_pos rfl, memRead_cons, if_pos rfl]
      · by_cases hb : b = 0xFF
        · rw [if_pos hb, if_neg hx, memRead_cons, if_neg (Ne.symm hx)]
        · rw [if_neg hb, if_neg hx, memRead_cons, memRead_cons, if_neg (Ne.symm hx), if_neg (Ne.symm hx)]
    · rw [if_neg (by omega), if_neg (by omega), memRead_cons, memRead_cons, ih hk.2.2]
      by_cases hx : k = x
      · rw [if_pos hx, if_pos hx, if_neg (by omega)]
      · rw [if_neg hx, if_neg hx]

/-- A byte just written reads back. -/
theorem memRead_memWrite_same (hm : memWf m = true) : memRead (memWrite m a b) a = b := by
  simp [memRead_memWrite hm]

/-- A write leaves every other address alone. -/
theorem memRead_memWrite_other {x : Nat} (hm : memWf m = true) (h : x ≠ a) :
    memRead (memWrite m a b) x = memRead m x := by
  simp [memRead_memWrite hm, h]

/-- Several bytes written: each address of the run reads its byte, every other as before. -/
theorem memRead_memWriteList {l : List Byte} (hm : memWf m = true) (x : Nat) :
    memRead (memWriteList m a l) x = if a ≤ x ∧ x < a + l.length then l.getD (x - a) 0xFF else memRead m x := by
  induction l generalizing m a with
  | nil => simp [memWriteList, show ¬ (a ≤ x ∧ x < a) by omega]
  | cons c l ih =>
    rw [memWriteList, ih (memWrite_wf hm), memRead_memWrite hm]
    rcases Nat.lt_trichotomy x a with h | h | h
    · simp [show ¬ a ≤ x by omega, show ¬ a + 1 ≤ x by omega, show x ≠ a by omega]
    · subst h; simp
    · obtain ⟨d, rfl⟩ : ∃ d, x = a + 1 + d := ⟨x - (a + 1), by omega⟩
      have h1 : a + 1 + d - (a + 1) = d := by omega
      have h2 : a + 1 + d - a = d + 1 := by omega
      by_cases hd : d < l.length
      · simp [h1, h2, hd, show a + 1 + d < a + (l.length + 1) by omega, show a ≤ a + 1 + d by omega]
      · simp [hd, show ¬ a + 1 + d < a + (l.length + 1) by omega, show a + 1 + d ≠ a by omega]

/-- A run of bytes read is as long as asked. -/
@[simp] theorem memReadList_length {n : Nat} : (memReadList m a n).length = n := by
  induction n generalizing a with
  | zero => rfl
  | succ n ih => simp [memReadList, ih]

/-- Canonical buffers that read alike at every address are equal. -/
theorem mem_ext {m' : Mem} (hm : memWfFrom lo m = true) (hm' : memWfFrom lo m' = true)
    (h : ∀ x, memRead m x = memRead m' x) : m = m' := by
  induction m generalizing lo m' with
  | nil =>
    cases m' with
    | nil => rfl
    | cons p m' =>
      have := h p.1
      have := (memWfFrom_cons.1 hm').2.1
      simp_all [memRead]
  | cons p m ih =>
    obtain ⟨k, v⟩ := p
    have hk := memWfFrom_cons.1 hm
    cases m' with
    | nil =>
      have := h k
      simp_all [memRead]
    | cons p' m' =>
      obtain ⟨k', v'⟩ := p'
      have hk' := memWfFrom_cons.1 hm'
      have e1 := h k
      have e2 := h k'
      have key : k = k' := by
        rcases Nat.lt_trichotomy k k' with hl | he | hl
        · have := memRead_below hk'.2.2 (show k < k' + 1 by omega)
          simp [memRead, show k' ≠ k by omega, this] at e1
          exact absurd e1 hk.2.1
        · exact he
        · have := memRead_below hk.2.2 (show k' < k + 1 by omega)
          simp [memRead, show k ≠ k' by omega, this] at e2
          exact absurd e2.symm hk'.2.1
      subst key
      have hv : v = v' := by simpa [memRead] using e1
      subst hv
      rw [ih hk.2.2 hk'.2.2 fun x => ?_]
      have hx := h x
      by_cases hkx : k = x
      · subst hkx
        rw [memRead_below hk.2.2 (Nat.lt_succ_self k), memRead_below hk'.2.2 (Nat.lt_succ_self k)]
      · simpa [memRead, hkx] using hx

/-- Right after reset every buffer is in canonical form (R69, R158). -/
theorem State.reset_buffers :
    (∀ i ∈ State.reset.images, memWf i.contents = true) ∧ memWf State.reset.engine.staging = true := by
  constructor
  · intro i hi
    obtain rfl : i = Image.reset := List.eq_of_mem_replicate (show i ∈ List.replicate 4 Image.reset from hi)
    rfl
  · rfl

end Sys2Proof.Machine
end

