-- ==== Sys2Proof/Laws/Told.lean ====
section
/-! SUPPORT. What an ended exchange, an abandoned hold, an ended job and an entry to ISOLATED hand to the capture log
(R34, R99, R173, R9), said once. -/

namespace Sys2Proof.Machine

variable (s : State) (ch : Chan)

/-- What the log makes of a record, an occurrence or an end depends on: the log, the tick count and the routes. -/
structure LogAlike (s t : State) : Prop where
  log : s.log = t.log
  tick : s.tick = t.tick
  routes : s.routes = t.routes

theorem LogAlike.refl (s : State) : LogAlike s s := ⟨rfl, rfl, rfl⟩

theorem LogAlike.trans {s t u : State} (h : LogAlike s t) (k : LogAlike t u) : LogAlike s u :=
  ⟨h.log.trans k.log, h.tick.trans k.tick, h.routes.trans k.routes⟩

theorem LogAlike.hand {s t : State} (h : LogAlike s t) (x : Option Chan) (b : Body) :
    LogAlike (s.hand x b) (t.hand x b) :=
  ⟨by simp only [State.hand_log, h.log, h.tick], by simp [h.tick], by simp [h.routes]⟩

theorem LogAlike.handAll {s t : State} (h : LogAlike s t) (x : Option Chan) (l : List Body) :
    LogAlike (s.handAll x l) (t.handAll x l) := by
  unfold State.handAll
  induction l generalizing s t with
  | nil => exact h
  | cons b l ih => exact ih (h.hand x b)

theorem LogAlike.onChan (f : Channel → Channel) : LogAlike (s.onChan ch f) s := ⟨by simp, by simp, by simp⟩

/-- What an action of a route makes of the log. -/
theorem State.act_log (a : Option RouteAction) :
    (s.act a).log = match a with
      | some .logOpen => { s.log with gateOpen := true }
      | some .logClose => { s.log with gateOpen := false }
      | _ => s.log := by
  unfold State.act State.setPark
  (repeat' split) <;> simp_all [State.onChan, State.setChan, State.raise, State.setCompare, State.snapshotNow]

theorem LogAlike.act {s t : State} (h : LogAlike s t) (a : Option RouteAction) : LogAlike (s.act a) (t.act a) :=
  ⟨by rw [State.act_log, State.act_log, h.log], by simp [h.tick], by simp [h.routes]⟩

theorem LogAlike.acts {s t : State} (h : LogAlike s t) (l : List Route) :
    LogAlike (l.foldl (fun s r => s.act r.action) s) (l.foldl (fun s r => s.act r.action) t) := by
  induction l generalizing s t with
  | nil => exact h
  | cons r l ih => exact ih (h.act r.action)

theorem LogAlike.occur {s t : State} (h : LogAlike s t) (x : Source) (e : Option Nat) :
    LogAlike (s.occur x e) (t.occur x e) := by
  unfold State.occur
  dsimp only
  rw [h.routes]
  split
  · exact h
  · have k : LogAlike { s.hand none (.trigger x e) with routes := fireRoutes x e (s.hand none (.trigger x e)).routes }
        { t.hand none (.trigger x e) with routes := fireRoutes x e (t.hand none (.trigger x e)).routes } :=
      ⟨(h.hand _ _).log, (h.hand _ _).tick, by simp [h.routes]⟩
    exact k.acts _

/-- An exchange that ends ABORTED hands its console text and its record to the log (R34). -/
theorem State.endExchange_told :
    LogAlike (s.endExchange ch .aborted) (s.handAll (some ch) ((s.chan ch).abortedRecords s.tick)) := by
  unfold State.endExchange Channel.abortedRecords
  cases hx : (s.chan ch).exch with
  | none => exact .refl s
  | some x =>
    dsimp only
    have ends : ∀ u : State, LogAlike
        (((if EndKind.aborted ≠ .aborted ∧ x.misframe = false then (u.writeWindow x).takeClean ch else u.writeWindow x).tally ch
          fun t => t.ended x ((s.chan ch).addressAck x)).releaseRefs x |>.onChan ch Channel.clearExchange) u := fun u =>
      ⟨by simp, by simp, by simp⟩
    refine (ends _).trans ?_
    unfold State.consoleFlush State.handAll
    by_cases hc : (s.chan ch).console = [] <;> by_cases hr : x.recordIt = true <;>
      simp only [hc, hr, if_true, if_false, List.nil_append, List.append_nil, List.foldl, Bool.false_eq_true,
        List.cons_append] <;>
      first
        | exact .refl _
        | exact (LogAlike.onChan _ _ _).hand _ _
        | exact LogAlike.onChan _ _ _

/-- A hold that ends hands its record to the log (R95 to R101). -/
theorem State.abandonHold_told :
    LogAlike (s.abandonHold ch) (s.handAll (some ch) (s.chan ch).abandonedRecords) := by
  unfold State.abandonHold State.endHold Channel.abandonedRecords
  cases (s.chan ch).hold with
  | none => exact .refl s
  | some h =>
    have k := (LogAlike.onChan s ch fun c => { c with hold := none }).hand (some ch)
      (.holdEnd none .abandoned h.heldMs)
    exact ⟨k.log, k.tick, k.routes⟩

/-- A job that ends on a channel hands its record to the log, and then its occurrence to the router (R173). -/
theorem State.endJobOn_told (cause : JobCause) : LogAlike (s.endJobOn ch cause) (s.jobTold ch cause) := by
  unfold State.endJobOn State.endJob State.finishJob State.jobTold State.jobOn
  cases hj : s.engine.job with
  | none => exact .refl s
  | some j =>
    by_cases hc : j.chan = ch
    · subst hc
      simp only [decide_true, if_true]
      have k : ∀ u v : State, LogAlike u v →
          LogAlike ((u.settleOwed j.chan).occur .jobEnd none) (v.occur .jobEnd none) := fun u v h =>
        LogAlike.occur ⟨by simp [h.log], by simp [h.tick], by simp [h.routes]⟩ _ _
      have m : ∀ u v : State, LogAlike u v → LogAlike (u.raise .job) v := fun u v h => ⟨h.log, h.tick, h.routes⟩
      have r := (LogAlike.hand (s := { s.onChan j.chan Channel.dropEngine with
        engine := { (s.onChan j.chan Channel.dropEngine).engine with
          job := none, last := some (j.result (j.endingCause.getD cause) j.unitAddress), unit := [], burst := [] } })
        (t := s) ⟨by simp, by simp, by simp⟩ (some j.chan) (.job j.id (j.result (j.endingCause.getD cause) j.unitAddress).outcome
          (j.result (j.endingCause.getD cause) j.unitAddress).cause j.done
          (j.result (j.endingCause.getD cause) j.unitAddress).failing))
      split
      · exact (k _ _ (m _ _ r |> fun h => ⟨h.log, h.tick, h.routes⟩)) |> fun h => ⟨h.log, h.tick, h.routes⟩
      · exact (k _ _ (m _ _ r)) |> fun h => ⟨h.log, h.tick, h.routes⟩
    · simp only [hc, decide_false, if_false, Bool.false_eq_true]
      exact .refl s

theorem LogAlike.jobTold {s t : State} (h : LogAlike s t) (hj : s.engine.job = t.engine.job) (ch : Chan)
    (cause : JobCause) : LogAlike (s.jobTold ch cause) (t.jobTold ch cause) := by
  unfold State.jobTold
  rw [hj]
  cases t.engine.job with
  | none => exact h
  | some j =>
    dsimp only
    split
    · exact ⟨((h.hand _ _).occur _ _).log, ((h.hand _ _).occur _ _).tick, ((h.hand _ _).occur _ _).routes⟩
    · exact h

@[simp] theorem State.handAll_engine (x : Option Chan) (l : List Body) : (s.handAll x l).engine = s.engine := by
  unfold State.handAll
  exact foldl_keeps State.engine _ (fun t b => State.hand_engine t x b) l s

@[simp] theorem State.handAll_chan (c : Chan) (x : Option Chan) (l : List Body) :
    (s.handAll x l).chan c = s.chan c := by
  unfold State.handAll
  exact foldl_keeps (fun t : State => t.chan c) _ (fun t b => by cases c <;> simp [State.chan]) l s

theorem State.handAll_append (x : Option Chan) (l m : List Body) :
    s.handAll x (l ++ m) = (s.handAll x l).handAll x m := by
  simp [State.handAll]

/-- What of a channel its records at an end are made of. -/
structure ToldAlike (c d : Channel) : Prop where
  exch : c.exch = d.exch
  console : c.console = d.console
  hold : c.hold = d.hold
  byteOpen : c.byteOpen = d.byteOpen

theorem ToldAlike.refl (c : Channel) : ToldAlike c c := ⟨rfl, rfl, rfl, rfl⟩

theorem ToldAlike.aborted {c d : Channel} (h : ToldAlike c d) (now : Tick) :
    c.abortedRecords now = d.abortedRecords now := by
  simp [Channel.abortedRecords, Channel.addressAck, h.exch, h.console, h.byteOpen]

theorem ToldAlike.abandoned {c d : Channel} (h : ToldAlike c d) : c.abandonedRecords = d.abandonedRecords := by
  simp [Channel.abandonedRecords, h.hold]

/-! ### What an ended exchange leaves of the channels -/

/-- Nothing of the channels changed but the health, the fallback flag and the console buffer of channel `ch`. -/
structure HealthOnly (ch : Chan) (s t : State) : Prop where
  rest : t.chan (other ch) = s.chan (other ch)
  self : t.chan ch = { s.chan ch with
    health := (t.chan ch).health, fallback := (t.chan ch).fallback, console := (t.chan ch).console }

theorem HealthOnly.refl (s : State) : HealthOnly ch s s := ⟨rfl, rfl⟩

theorem HealthOnly.trans {ch : Chan} {s t u : State} (h : HealthOnly ch s t) (k : HealthOnly ch t u) :
    HealthOnly ch s u :=
  ⟨k.rest.trans h.rest, by rw [k.self, h.self]⟩

theorem HealthOnly.onHealth (f : Health → Health) : HealthOnly ch s (s.onHealth ch f) := by cases ch <;> exact ⟨rfl, rfl⟩

theorem HealthOnly.setFallback (b : Bool) : HealthOnly ch s (s.onChan ch fun c => { c with fallback := b }) := by
  cases ch <;> exact ⟨rfl, rfl⟩

theorem HealthOnly.of_chan {ch : Chan} {s t : State} (h : ∀ c, t.chan c = s.chan c) : HealthOnly ch s t :=
  ⟨h _, by rw [h]⟩

theorem HealthOnly.hand (x : Option Chan) (b : Body) : HealthOnly ch s (s.hand x b) :=
  .of_chan fun c => by cases c <;> simp [State.chan]

theorem HealthOnly.raiseIf (b : Bool) (n : Notice) : HealthOnly ch s (s.raiseIf b n) :=
  .of_chan fun c => by cases c <;> simp [State.chan]

theorem HealthOnly.takeClean : HealthOnly ch s (s.takeClean ch) := by
  unfold State.takeClean State.clearDegraded State.event
  dsimp only
  have h := fun (f : Health → Health) (x : Option Chan) (b : Body) (q : Bool) (n : Notice) (g : Health → Health) =>
    ((HealthOnly.onHealth s ch f).trans ((HealthOnly.hand _ ch x b).trans ((HealthOnly.raiseIf _ ch q n).trans
      (HealthOnly.onHealth _ ch g))))
  (repeat' split) <;> first | exact .onHealth s ch _ | exact (h _ _ _ _ _ _).trans (.setFallback _ ch _) | exact h _ _ _ _ _ _

/-- What an exchange that ends leaves of the channels: of its channel the health, the fallback flag and the console
buffer change, and what the relay kept for it is dropped (R34, R165). -/
theorem State.endExchange_chans (k : EndKind) :
    (s.endExchange ch k).chan (other ch) = s.chan (other ch)
      ∧ (s.endExchange ch k).chan ch = { (if (s.chan ch).exch = none then s.chan ch else (s.chan ch).clearExchange) with
          health := ((s.endExchange ch k).chan ch).health, fallback := ((s.endExchange ch k).chan ch).fallback
          console := ((s.endExchange ch k).chan ch).console } := by
  unfold State.endExchange
  cases hx : (s.chan ch).exch with
  | none => exact ⟨rfl, rfl⟩
  | some x =>
    dsimp only
    have flush : HealthOnly ch s (s.consoleFlush ch) := by
      unfold State.consoleFlush
      split
      · exact .refl ch s
      · refine (HealthOnly.hand s ch (some ch) (.console (s.chan ch).console)).trans ?_
        cases ch <;> exact ⟨rfl, rfl⟩
    have record : ∀ u : State, HealthOnly ch u (if x.recordIt then u.hand (some ch)
        (.exchange (x.body ((s.chan ch).addressAck x) k s.tick)) else u) := fun u => by
      split
      · exact .hand u ch _ _
      · exact .refl ch u
    have window : ∀ u : State, HealthOnly ch u (u.writeWindow x) := fun u =>
      .of_chan fun c => by cases c <;> simp [State.chan]
    have clean : ∀ u : State, HealthOnly ch u
        (if k ≠ .aborted ∧ x.misframe = false then u.takeClean ch else u) := fun u => by
      split
      · exact .takeClean u ch
      · exact .refl ch u
    have refs : ∀ u : State, HealthOnly ch u (u.releaseRefs x) := fun u =>
      .of_chan fun c => by cases c <;> simp [State.chan]
    have all := flush.trans ((record _).trans ((window _).trans ((clean _).trans
      ((HealthOnly.onHealth _ ch fun h => { h with running := h.running.ended x ((s.chan ch).addressAck x) }).trans
        (refs _)))))
    refine ⟨(State.chan_onChan_other ..).trans all.rest, ?_⟩
    simp only [State.chan_onChan_same, if_neg (Option.some_ne_none x)]
    rw [Channel.clearExchange, State.tally, all.self, Channel.clearExchange]

/-- A bus clear stopped where it stands changes no record's source. -/
theorem Channel.abandonClear_told (c : Channel) : ToldAlike c.abandonClear c := by
  unfold Channel.abandonClear
  (repeat' split) <;> exact ⟨rfl, rfl, rfl, rfl⟩

/-- An entry to ISOLATED tells the log what R9 makes of it. -/
theorem State.isolate_told (cause : JobCause) : LogAlike (s.isolate ch cause) (s.isolationTold ch cause) := by
  unfold State.isolate State.isolationTold State.event
  dsimp only
  refine LogAlike.hand ?_ _ _
  rw [State.handAll_append]
  refine (State.endJobOn_told _ ch cause).trans (LogAlike.jobTold ?_ ?_ ch cause)
  · refine (LogAlike.onChan _ ch _).trans ((State.abandonHold_told _ ch).trans ?_)
    have hold : ∀ u : State, (((u.endExchange ch .aborted).onChan ch fun c =>
        if c.arb.holder = .relay then c.giveUp else c).chan ch).hold = (u.chan ch).hold := fun u => by
      have g : ∀ c : Channel, (if c.arb.holder = .relay then c.giveUp else c).hold = c.hold := fun c => by
        split <;> rfl
      rw [State.chan_onChan_same, g, (u.endExchange_chans ch .aborted).2]
      dsimp only
      split <;> rfl
    have ab : ∀ c d : Channel, c.hold = d.hold → c.abandonedRecords = d.abandonedRecords := fun c d h => by
      simp [Channel.abandonedRecords, h]
    rw [ab _ (s.chan ch) (by rw [hold]; simpa using (s.chan ch).abandonClear_told.hold)]
    refine LogAlike.handAll ?_ _ _
    refine (LogAlike.onChan _ ch _).trans ((State.endExchange_told _ ch).trans ?_)
    have e : ToldAlike ((s.onChan ch fun c =>
        { c.abandonClear with mode := .isolated, pull := .released }).chan ch) (s.chan ch) := by
      rw [State.chan_onChan_same]
      have a := (s.chan ch).abandonClear_told
      exact ⟨a.exch, a.console, a.hold, a.byteOpen⟩
    rw [e.aborted, State.onChan_tick]
    exact (LogAlike.onChan s ch _).handAll _ _
  · simp

/-! ### Both channels -/

theorem ToldAlike.trans {c d e : Channel} (h : ToldAlike c d) (k : ToldAlike d e) : ToldAlike c e :=
  ⟨h.exch.trans k.exch, h.console.trans k.console, h.hold.trans k.hold, h.byteOpen.trans k.byteOpen⟩

theorem ToldAlike.symm {c d : Channel} (h : ToldAlike c d) : ToldAlike d c :=
  ⟨h.exch.symm, h.console.symm, h.hold.symm, h.byteOpen.symm⟩

/-- No action of a route changes what a record at an end is made of. -/
theorem State.act_toldAlike (c : Chan) (a : Option RouteAction) : ToldAlike ((s.act a).chan c) (s.chan c) := by
  unfold State.act State.setPark
  (repeat' split) <;> cases c <;> exact ⟨rfl, rfl, rfl, rfl⟩

theorem State.occur_toldAlike (c : Chan) (x : Source) (e : Option Nat) :
    ToldAlike ((s.occur x e).chan c) (s.chan c) := by
  unfold State.occur
  dsimp only
  split
  · exact .refl _
  · have fold : ∀ (l : List Route) (u : State),
        ToldAlike ((l.foldl (fun s r => s.act r.action) u).chan c) (u.chan c) := by
      intro l
      induction l with
      | nil => exact fun u => .refl _
      | cons r l ih => exact fun u => (ih _).trans (u.act_toldAlike c r.action)
    refine (fold _ _).trans ?_
    cases c <;> simp [State.chan] <;> exact .refl _

theorem LogAlike.isolationTold {s t : State} (h : LogAlike s t) (hj : s.engine.job = t.engine.job) {ch : Chan}
    (hc : ToldAlike (s.chan ch) (t.chan ch)) (cause : JobCause) :
    LogAlike (s.isolationTold ch cause) (t.isolationTold ch cause) := by
  unfold State.isolationTold
  dsimp only
  rw [hc.aborted, hc.abandoned, h.tick]
  exact ((h.handAll _ _).jobTold (by simpa using hj) ch cause).hand _ _

/-- A job is over on a channel once it is told as ended there. -/
theorem State.jobTold_job (cause : JobCause) :
    (s.jobTold ch cause).engine.job = if s.jobOn ch then none else s.engine.job := by
  unfold State.jobTold State.jobOn
  cases hj : s.engine.job with
  | none => simp [hj]
  | some j => by_cases hc : j.chan = ch <;> simp [hc, hj]

theorem State.endJobOn_job (cause : JobCause) :
    (s.endJobOn ch cause).engine.job = if s.jobOn ch then none else s.engine.job := by
  unfold State.endJobOn State.endJob State.finishJob State.jobOn
  cases hj : s.engine.job with
  | none => simp [hj]
  | some j =>
    by_cases hc : j.chan = ch
    · simp only [hc, decide_true, if_true, State.occur_engine, State.settleOwed_engine]
      split <;> simp [State.raise]
    · simp [hc, hj]

theorem State.endJobOn_chan (c : Chan) (cause : JobCause) :
    ToldAlike ((s.endJobOn ch cause).chan c) (s.chan c) := by
  unfold State.endJobOn State.endJob State.finishJob
  split
  · split
    · exact .refl _
    · rename_i j hj
      have drop : ∀ d : Channel, ToldAlike d.dropEngine d := fun d => by
        unfold Channel.dropEngine; dsimp only; split <;> exact ⟨rfl, rfl, rfl, rfl⟩
      have onc : ∀ (u : State) (x : Chan) (f : Channel → Channel), (∀ d, ToldAlike (f d) d) →
          ToldAlike ((u.onChan x f).chan c) (u.chan c) := fun u x f hf => by
        cases x <;> cases c <;> first | exact hf _ | exact .refl _
      have settle : ∀ (u : State) (x : Chan), ToldAlike ((u.settleOwed x).chan c) (u.chan c) := fun u x => by
        unfold State.settleOwed State.onHealth
        split
        · cases x <;> cases c <;> exact ⟨rfl, rfl, rfl, rfl⟩
        · exact .refl _
      refine (State.occur_toldAlike _ c _ _).trans ((settle _ _).trans ?_)
      have e : ∀ (u : State) (x : Option Chan) (b : Body), ((u.hand x b).raise .job).chan c = u.chan c := fun u x b => by
        cases c <;> simp [State.chan, State.raise]
      have claims : ∀ (b : Bool) (u : State) (q : Supply),
          (if b then { u with supply := q } else u).chan c = u.chan c := fun b u q => by
        cases b <;> cases c <;> rfl
      dsimp only
      rw [claims, e]
      exact onc s j.chan _ drop
  · exact .refl _

theorem State.isolate_other (cause : JobCause) :
    ToldAlike ((s.isolate ch cause).chan (other ch)) (s.chan (other ch))
      ∧ (s.isolate ch cause).engine.job = if s.jobOn ch then none else s.engine.job := by
  unfold State.isolate State.event
  have e : ∀ (u : State) (x : Option Chan) (b : Body) (c : Chan), (u.hand x b).chan c = u.chan c := fun u x b c => by
    cases c <;> simp [State.chan]
  refine ⟨?_, ?_⟩
  · rw [e]
    refine (State.endJobOn_chan _ ch _ cause).trans ?_
    rw [State.chan_onChan_other]
    have hold : ∀ u : State, (u.abandonHold ch).chan (other ch) = u.chan (other ch) := fun u => by
      unfold State.abandonHold State.endHold
      split
      · rfl
      · simp only [State.raise]
        rw [show ∀ (v : State) (l : Link), ({ v with link := l } : State).chan (other ch) = v.chan (other ch) from
          fun v l => by cases ch <;> rfl, e, State.chan_onChan_other]
    rw [hold, State.chan_onChan_other, (State.endExchange_chans _ ch _).1, State.chan_onChan_other]
    exact .refl _
  · simp only [State.hand_engine, State.endJobOn_job, State.onChan_engine]
    have j : ∀ u : State, u.engine = s.engine → u.jobOn ch = s.jobOn ch := fun u h => State.jobOn_congr h ch
    have a : ∀ u : State, (u.abandonHold ch).engine = u.engine := fun u => by simp [State.abandonHold]
    rw [j _ (by simp), a]
    simp

theorem State.isolationTold_chan (c : Chan) (cause : JobCause) :
    ToldAlike ((s.isolationTold ch cause).chan c) (s.chan c)
      ∧ (s.isolationTold ch cause).engine.job = if s.jobOn ch then none else s.engine.job := by
  unfold State.isolationTold
  have e : ∀ (u : State) (x : Option Chan) (b : Body) (c : Chan), (u.hand x b).chan c = u.chan c := fun u x b c => by
    cases c <;> simp [State.chan]
  refine ⟨?_, ?_⟩
  · rw [e]
    have told : ∀ u : State, ToldAlike ((u.jobTold ch cause).chan c) (u.chan c) := fun u => by
      unfold State.jobTold
      split
      · exact .refl _
      · dsimp only
        split
        · rw [show ∀ (v : State) (g : Engine), ({ v with engine := g } : State).chan c = v.chan c from
            fun v g => by cases c <;> rfl]
          exact (State.occur_toldAlike _ c _ _).trans (by rw [e]; exact .refl _)
        · exact .refl _
    exact (told _).trans (by rw [State.handAll_chan]; exact .refl _)
  · rw [State.hand_engine, State.jobTold_job, State.handAll_engine,
      State.jobOn_congr (State.handAll_engine s _ _) ch]

/-- The entries of both channels to ISOLATED tell the log what `isolationsTold` says (R183, log entry 13). -/
theorem State.isolateBoth_told (cause : JobCause) :
    LogAlike (s.isolateBoth cause) (s.isolationsTold s.mustIsolate cause) := by
  have two : ∀ (v : State) (a : Chan), v = { s with freeIx := v.freeIx } →
      LogAlike ((v.isolate a cause).isolate (other a) cause) ((s.isolationTold a cause).isolationTold (other a) cause) := by
    intro v a hv
    have la : LogAlike v s := by rw [hv]; exact ⟨rfl, rfl, rfl⟩
    have hc : ∀ c, v.chan c = s.chan c := fun c => by rw [hv]; cases c <;> rfl
    have hj : v.engine = s.engine := by rw [hv]
    refine ((v.isolate a cause).isolate_told (other a) cause).trans
      (((v.isolate_told a cause).trans (la.isolationTold (by rw [hj]) (by rw [hc]; exact .refl _) cause)).isolationTold
        ?_ ?_ cause)
    · rw [(v.isolate_other a cause).2, (s.isolationTold_chan a a cause).2, State.jobOn_congr hj a, hj]
    · exact (v.isolate_other a cause).1.trans ((by rw [hc]; exact .refl _ : ToldAlike _ (s.chan (other a))).trans
        (s.isolationTold_chan a (other a) cause).1.symm)
  have rt : ∀ u : State, LogAlike u.retimeAll u := fun u => ⟨by simp, by simp, by simp⟩
  refine (rt _).trans ?_
  unfold State.onBoth State.isolationsTold State.toldBoth State.isolateIfDue
  by_cases h0 : s.mustIsolate .c0 = true <;> by_cases h1 : s.mustIsolate .c1 = true
  · simp only [h0, h1, Bool.and_self, if_true, Bool.true_and]
    split
    · exact two { s with freeIx := s.freeIx + 1 } .c1 rfl
    · exact two { s with freeIx := s.freeIx + 1 } .c0 rfl
  · simp only [h0, h1, Bool.and_false, Bool.false_and, if_true, if_false, Bool.false_eq_true]
    exact s.isolate_told .c0 cause
  · simp only [h0, h1, Bool.and_true, Bool.false_and, if_true, if_false, Bool.false_eq_true]
    exact s.isolate_told .c1 cause
  · simp only [h0, h1, Bool.and_false, Bool.false_and, if_false, Bool.false_eq_true]
    exact .refl s

end Sys2Proof.Machine
end

