-- ==== Sys2Proof/Tests/Slice0.lean ====
section
/-! SUPPORT. The model's own tests: ill-formed commands that the check refuses, the manual's worked values, one-step
tests, and, for each statement with hypotheses, states and operands that meet them (clause by clause). -/

namespace Sys2Proof.Tests

open Sys2Proof Sys2Proof.Machine

/-! ### Ill-formed commands (WellFormed.lean) -/

theorem test_wf_setting_value_too_wide : (Instr.setChannel 0 0 [(4, 256)]).wf = false := by decide
theorem test_wf_unknown_setting_has_no_value : (Instr.setChannel 0 0 [(13, 1)]).wf = false := by decide
theorem test_wf_settings_too_long : (Instr.logConfig 0 (List.replicate 256 (0, 0))).wf = false := by
  simp only [Instr.wf, pairsFit, List.length_replicate]
  exact Bool.and_eq_false_iff.2 (.inr (by decide))
theorem test_wf_health_value_too_wide : (Instr.healthConfig 0 [(0, 256)]).wf = false := by decide
theorem test_wf_supply_value_too_wide : (Instr.supplyConfig 0 [(3, 256)]).wf = false := by decide
theorem test_wf_image_bytes_too_long : (Instr.imageWrite 0 0 0 (List.replicate 510 0)).wf = false := by
  simp only [Instr.wf, bytesFit, List.length_replicate]; decide
theorem test_wf_stage_bytes_too_long : (Instr.stageWrite 0 0 (List.replicate 510 0)).wf = false := by
  simp only [Instr.wf, bytesFit, List.length_replicate]; decide
theorem test_wf_no_tick : (Instr.tick 0).wf = false := by decide
theorem test_wf_start_bits : (Instr.cStart .c0 9).wf = false := by decide
theorem test_wf_stop_bits : (Instr.cStop .c1 9).wf = false := by decide
theorem test_wf_released_line_has_no_last_byte : (Instr.lholdChange false true).wf = false := by decide
theorem test_wf_burst_too_long : (Instr.burstEnd (.complete (List.replicate 257 0))).wf = false := by
  simp only [Instr.wf, burstFits, List.length_replicate]; decide
theorem test_wf_accepts : (Instr.setChannel 7 1 [(3, 400), (4, 50)]).wf = true ∧ (Instr.tick 1).wf = true := by decide

/-! ### The manual's worked values -/

/-- Chapter 11, the check of an IDENTIFY request. -/
theorem test_identify_frame : frame 1 7 [1] = [0x5A, 0x01, 0x07, 0x01, 0x00, 0x01, 0x0A, 0x25] := by decide

/-- The same frame's payload is IDENTIFY with tag 7 (R194). -/
theorem test_identify_request : requestOf 7 [1] = .ok (.identify 7) := by rfl

/-- A request with parameters (R15, R196): SET CHANNEL 1, rate 400 kHz. -/
theorem test_set_channel_request : requestOf 9 [0x10, 1, 3, 0x90, 0x01] = .ok (.setChannel 9 1 [(3, 400)]) := by rfl

/-- A missing byte and a byte left over (R197). -/
theorem test_request_lengths : requestOf 9 [0x53] = .error (0x53, .badLength)
    ∧ requestOf 9 [0x53, 0, 0] = .error (0x53, .badLength) := ⟨rfl, rfl⟩

/-- Chapter 9, check values. -/
theorem test_check_value : checkOf [1, 2, 3] = 851975 := by decide

/-- Chapter 9: after 4096 bytes of 0xFF the sums are 61666 and 33121. -/
theorem test_check_value_pair : checkValue 61666 33121 = 2170679522 := by decide

/-- R35's table of clock plans. -/
theorem test_plans : planOf 400 50 = ⟨60, 60⟩ ∧ planOf 333 60 = ⟨87, 57⟩ ∧ planOf 256 50 = ⟨94, 94⟩
    ∧ planOf 1200 75 = ⟨30, 12⟩ ∧ planOf 1200 25 = ⟨12, 30⟩ ∧ planOf 10 50 = ⟨2400, 2400⟩ := by decide

/-- R35's achieved rates. -/
theorem test_achieved : (planOf 333 60).achieved = 333333 ∧ (planOf 256 50).achieved = 255319
    ∧ (planOf 1200 75).achieved = 1142857 := by decide

/-- Chapter 2, the forwarded register read at 400 kHz: steps 3, 5, 7, 8, 9 and 11. -/
theorem test_d_side_cycles : let p := planOf 400 50
    p.startAddress = 1140 ∧ p.writeByte = 1050 ∧ p.restartAddress = 1230 ∧ p.firstReadByte = 900
      ∧ p.heldPulse + p.nextReadByte = 1050 ∧ p.heldStop = 90 := by decide

/-! ### States -/

/-- What a command answers, seen through `f`. -/
def got {α : Type} (i : Instr) (s : State) (f : State → α) : Option α :=
  match exec i s with
  | .next t => some (f t)
  | _ => none

/-- The replies queued. -/
def replies (s : State) : List Reply := s.link.replies

/-- A channel in mode `m`, synced and seen free. -/
def chanIn (m : Mode) : Channel :=
  { Channel.reset m .released with sync := .synced, seenFree := true, cFree := true, dFree := true
                                   settings := { ChanSettings.default with requested := m } }

/-- The supply ON, channel 0 ACTIVE and channel 1 MONITOR. -/
def live : State :=
  { State.reset with ch0 := chanIn .active, ch1 := chanIn .monitor
                     supply := { Supply.reset false with state := .on } }

/-- The live state with channel 0 changed. -/
def with0 (f : Channel → Channel) : State := live.onChan .c0 f

/-- An exchange in flight with address 80. -/
def exchange (dir : Dir) (d : Disposition) : Exchange :=
  { address := 80, direction := dir, disposition := some d, action := some .forward, addressEntry := none
    indexEntry := none, recordIt := true, addressAck := some .ack, count := 0, shown := [], firstNack := none
    startTime := 0, misframe := false, onImage := none, stored := false }

/-- Channel 0 with an exchange in a phase, its acknowledge bit given. -/
def inPhase (p : Phase) (x : Exchange) : State := with0 fun c => { c with phase := p, exch := some x, cFree := false }

/-- Channel 0 with the relay making an operation on its D-side. -/
def relaying (p : Phase) (x : Exchange) (op : DOp) : State :=
  with0 fun c => { c with
    phase := p, exch := some x, cFree := false, dFree := false, dOp := op, latched := some c.plan
    arb := ⟨.relay, .relay, false, false⟩, pull := ⟨⟨true, false⟩, ⟨false, false⟩⟩ }

/-- A job of chapter 9's kind on channel 0: 40 bytes from 496 in pages of 32. -/
def job (k : JobKind) (p : JobPhase) (u : JobUnit) : Job :=
  { id := 7, kind := k, chan := .c0, device := 80, width := 2, page := 32, start := 496, length := 40
    staging := if k = .check then none else some 1024, pollLimit := 10, verify := decide (k = .write)
    holdReset := false, phase := p, unit := u, unitAddress := 496, unitLength := 16, attempt := 1, done := 0
    sumA := 1, sumB := 0, endingCause := none, pollTimer := none, pollExpired := false, probeAck := none }

/-- The engine runs a job and holds channel 0's D-side. -/
def working (j : Job) : State :=
  { with0 fun c => { c with dFree := false, dOp := .unit, latched := some c.plan
                            arb := ⟨.engine, .engine, false, false⟩ } with
    engine := ⟨[], some j, none, [], []⟩ }

/-- A hold of channel 0. -/
def held (o : HoldOrigin) (p : Planned) (deadline : Option Tick) : Hold :=
  { origin := o, address := 80, direction := .write, byte := 0, planned := p, timeout := .deny, start := 0
    deadline := deadline, elapsed := 850999 }

/-- Channel 0 held at the address stage or the index stage. -/
def inHold (h : Hold) (d : Option Disposition) : State :=
  with0 fun c => { c with
    phase := .held, exch := some { exchange .write .forwarded with disposition := d }, hold := some h
    cFree := false, pull := ⟨⟨true, false⟩, ⟨false, false⟩⟩ }

/-- A measurement that has come to its limit. -/
def dueTimer : Option Timer := some ⟨5, 5⟩

/-- A measurement that has gone on for longer than its limit. -/
def pastTimer : Option Timer := some ⟨6, 5⟩

theorem live_ready : Ready live := ⟨rfl, by decide, rfl⟩
theorem reset_ready : Ready State.reset := ⟨rfl, by decide, rfl⟩

/-! ### One step: the link -/

/-- R194: a tag comes back, with the code, OK, revision bytes, capacities, 115200 baud and two zero counts. -/
theorem test_identify : got (.identify 7) live replies = some [⟨7, 0x01, .ok,
    [0x2D, 0xB2, 1, 32, 4, 0x00, 0x20, 0x00, 0x10, 0x00, 0xC2, 0x01, 0x00, 0, 0, 0, 0]⟩] := by rfl

/-- R193: NOTICE NOW makes a frame due even with an empty word. -/
theorem test_notice_now : got (.noticeNow 1) live (fun t => t.link.noticeDue) = some true := by rfl

/-- R193: an interval of 0 is set to 1 ms, ADJUSTED. -/
theorem test_link_config : got (.linkConfig 1 0) live (fun t => (t.link.interval, replies t))
    = some (1, [⟨1, 0x04, .adjusted, [1, 0]⟩]) := by rfl

/-- R195: SOFT RESET waits for its reply to be sent. -/
theorem test_soft_reset_waits : got (.softReset 1) live (fun t => (t.link.softReset, t.ch0.mode))
    = some (.waiting, .active) := by rfl

/-- R195, R19: with the supply ON the default requested mode is taken at once. -/
theorem test_soft_reset_taken :
    got .softResetTaken { live with link := { live.link with softReset := .due }, tick := 9 }
      (fun t => (t.ch0.mode, t.supply.state, t.tick, t.log.lastStamp)) = some (.monitor, .on, 9, 9) := by rfl

/-- R190: the eight bytes of the worked frame reach the receive buffer. -/
theorem test_receiver : (match execAll ((frame 1 7 [1]).map Instr.lrxByte) live with
    | .next t => some (t.link.buffer, t.link.rx.state)
    | _ => none) = some ([⟨7, [1]⟩], .hunt) := by rfl

/-- R190: 20 ms with no byte discard the frame. -/
theorem test_receive_timeout :
    got .receiveTimeout { live with link := { live.link with rx := ⟨.header, [1], [], 3, some ⟨20000, 20000⟩⟩ } }
      (fun t => (t.link.rx.state, t.link.errors, t.link.notices)) = some (.hunt, 1, 0x0400) := by rfl

/-- R191: DISPATCH serves the oldest frame. -/
theorem test_dispatch : got .dispatch { live with link := { live.link with buffer := [⟨3, [0x50]⟩], errors := 0 } }
    (fun t => (t.link.buffer, replies t)) = some ([], [⟨3, 0x50, .ok, [0, 0, 0, 0]⟩]) := by rfl

/-- R192: a reply frame goes first: kind 2, its tag, length 2, code and status. -/
theorem test_transmit_reply :
    got .transmitStart { live with link := { live.link with replies := [⟨7, 0x03, .ok, []⟩], noticeDue := true } }
      (fun t => t.link.tx) = some (some (frame 2 7 [0x03, 0])) := by rfl

/-- R195: the last reply sent makes a waiting reset due. -/
theorem test_frame_sent :
    got .frameSent { live with link := { live.link with tx := some [0x5A], softReset := .waiting } }
      (fun t => (t.link.tx, t.link.softReset)) = some (none, .due) := by rfl

/-- R193: with an empty word no frame becomes due, and the interval runs again. -/
theorem test_notice_interval :
    got .noticeIntervalExpiry { live with link := { live.link with noticeTimer := ⟨10000, 10000⟩ } }
      (fun t => (t.link.noticeDue, t.link.noticeTimer)) = some (false, ⟨0, 10000⟩) := by rfl

/-- R2, R188: the straps are sampled at the end of the reset. -/
theorem test_power_on_reset_end :
    got (.powerOnResetEnd true false) { State.reset with inReset := true } (fun t => (t.link.baud, t.inReset))
      = some (3000000, false) := by rfl

/-! ### One step: channels -/

/-- R15, R16: 5 kHz is set to 10 kHz, ADJUSTED, with the achieved rate 10000; a bus-free time serves no measurement whose
condition held already, be it at reset. -/
theorem test_set_channel :
    got (.setChannel 4 0 [(3, 5)]) live (fun t => (t.ch0.settings.rate, t.ch0.plan, replies t))
        = some (10, ⟨2400, 2400⟩, [⟨4, 0x10, .adjusted, [0x10, 0x27, 0, 0]⟩])
      ∧ got (.setChannel 4 0 [(8, 500)]) State.reset (fun t => (t.ch0.settings.busFreeTime, t.ch0.meters.cIdle))
        = some (500, some ⟨0, ChanSettings.default.busFreeTime⟩) := ⟨rfl, rfl⟩

/-- R9: ISOLATED at once. -/
theorem test_isolate : got (.setChannel 4 0 [(0, 2)]) (relaying .relayWrite (exchange .write .forwarded) .idle)
    (fun t => (t.ch0.mode, t.ch0.pull, t.ch0.exch.isSome, t.ch0.arb.holder)) = some (.isolated, .released, false, .none)
    := by rfl

/-- R18: CHANNEL RESET loses sync. -/
theorem test_channel_reset : got (.channelReset 4 0) live (fun t => (t.ch0.sync, t.ch0.phase)) = some (.unknown, .free) := by
  rfl

/-- R10, R11: MONITOR to ACTIVE at a bus-free point, the D-side seen free. -/
theorem test_mode_change :
    got (.modeChange .c1) { live with ch1 := { chanIn .monitor with
      settings := { ChanSettings.default with requested := .active }, freePoint := true, seenFree := false } }
      (fun t => (t.ch1.mode, t.ch1.seenFree)) = some (.active, true) := by rfl

/-- R1: an emulated read left in flight at the change to MONITOR has no byte to give any more, and no line is driven. -/
theorem test_monitor_gives_nothing :
    got (.modeChange .c0) (with0 fun c => { c with
        settings := { c.settings with requested := .monitor }, exch := some (exchange .read .emulated)
        giving := some 0x59, bitsOut := 2, pull := ⟨⟨false, true⟩, ⟨false, false⟩⟩ })
      (fun t => (t.ch0.mode, t.ch0.giving, t.ch0.clockFall.pull)) = some (.monitor, none, .released) := by rfl

/-! ### One step: the relay -/

/-- R20, R23: address 72 WRITE with the default action is forwarded; the D-side is granted at once. -/
theorem test_address_forward :
    got (.addressByteComplete .c0 0x90) (with0 fun c => { c with phase := .address })
      (fun t => (t.ch0.phase, t.ch0.dOp, t.ch0.arb.holder, t.ch0.dSpan, t.ch0.exch.map fun x => (x.address, x.direction)))
      = some (.dAddress, .address, .relay, 4560, some (72, .write)) := by rfl

/-- R24: the device's ACK is shown to the controller and opens RELAY_WRITE. -/
theorem test_address_ack :
    got (.dAddressAck .c0 .ack) (relaying .dAddress (exchange .write .forwarded) .address)
      (fun t => (t.ch0.phase, t.ch0.pull.c.data, t.ch0.pull.d.clock)) = some (.relayWrite, true, true) := by rfl

/-- R24: a NACK is REFUSED. -/
theorem test_address_nack :
    got (.dAddressAck .c0 .nack) (relaying .dAddress (exchange .write .forwarded) .address)
      (fun t => (t.ch0.phase, t.ch0.pull.c.data)) = some (.refused, false) := by rfl

/-- R25, R27: the first byte of a relayed write goes to the D-side, with no INDEX entry. -/
theorem test_data_byte :
    got (.dataByteComplete .c0 0x03) (with0 fun c => { c with
        phase := .relayWrite, exch := some (exchange .write .forwarded), arb := ⟨.relay, .relay, false, false⟩ })
      (fun t => (t.ch0.dOp, t.ch0.curByte, t.ch0.pull.c.clock, t.ch0.exch.map fun x => (x.count, x.shown)))
      = some (.writeByte, 3, true, some (1, [3])) := by rfl

/-- R28: the byte read is given to the controller, its first bit (0) on CnDA. -/
theorem test_read_byte :
    got (.dReadByteDone .c0 0x19) (relaying .relayRead (exchange .read .forwarded) .readByte)
      (fun t => (t.ch0.giving, t.ch0.pull.c)) = some (some 0x19, ⟨false, true⟩) := by rfl

/-- R13, R21: a STOP in the clock-high of the eighth bit, before the stretch, is a misframe. -/
theorem test_stop_in_eighth_bit :
    got (.cStop .c0 8) (with0 fun c => { c with
        phase := .decide, exch := some (exchange .write .forwarded), byteOpen := true, highPhase := true
        cFree := false, pull := ⟨⟨true, false⟩, ⟨false, false⟩⟩ })
      (fun t => (t.ch0.exch.isSome, t.ch0.phase, t.ch0.health.running.misframes)) = some (false, .free, 1) := by rfl

/-- R13, R149: a START inside a byte is a misframe while STUCK_C is declared too. -/
theorem test_misframe_under_stuck_c :
    got (.cStart .c0 0) (with0 fun c => { c with health := { c.health with stuckC := true }, byteOpen := true })
      (fun t => (t.ch0.health.running.misframes, t.ch0.byteOpen)) = some (1, false) := by rfl

/-- R31: an Sr during the ninth pulse of the D-side and the address byte behind it are acted on at the pulse's end,
the Sr with its own tick as the start time. -/
theorem test_kept_restart :
    (match execAll [.cStart .c0 0, .tick 9, .addressByteComplete .c0 0xA1, .dReadAckDone .c0]
        (with0 fun c => { c with
          phase := .refused, exch := some (exchange .read .forwarded), dOp := .readAck
          arb := ⟨.relay, .relay, false, false⟩ }) with
      | .next t => some (t.ch0.phase, t.ch0.dOp, t.ch0.exch.map fun x => (x.direction, x.startTime))
      | _ => none) = some (.dAddress, .address, some (.read, 0)) := by rfl

/-- R2: under power-on reset the closed bypass switch shows a low DnCK on CnCK too. R149: in MONITOR such a low ends the
clock-high of a sampled bit, and its measurement begins. -/
theorem test_switch_joins_in_reset :
    got (.busLineChange .c0 .dSide .clock true) { live with inReset := true, ch0 := chanIn .isolated }
        (fun t => (t.cClockLow .c0, t.dClockLow .c0, t.cDataLow .c0)) = some (true, true, false)
      ∧ got (.busLineChange .c1 .dSide .clock true) { live with ch1 := { chanIn .monitor with highPhase := true } }
        (fun t => (t.ch1.highPhase, t.ch1.meters.stuckClock)) = some (false, some ⟨0, 35000⟩) := ⟨rfl, rfl⟩

/-- R149: a byte of zeros, or one with a 1 after which CnDA was told low, leaves the measurement of a CnDA that another
party holds low going on; the clock, still high after the sampled bit, is not measured. -/
theorem test_zeros_keep_stuck_data :
    [(0x00, false), (0x80, true), (0x80, false), (0x81, true)].map (fun p : Byte × Bool =>
      got (.dataByteComplete .c1 p.1) { live with ch1 := { chanIn .monitor with
          phase := .observing, exch := some (exchange .read .observed), ext := ⟨⟨true, true⟩, ⟨false, false⟩⟩
          meters := { Meters.stopped with stuckClock := some ⟨900, 35000⟩, stuckData := some ⟨2000, 35000⟩ }
          dataTold := p.2 } }
        (fun t => (t.ch1.meters.stuckData, t.ch1.meters.stuckClock)))
      = [some (some ⟨2000, 35000⟩, none), some (some ⟨2000, 35000⟩, none), some (none, none), some (none, none)] := by rfl

/-- R28: at the falling edge after the second bit of 0x59 (01011001) the part puts the third, a 0, on CnDA. -/
theorem test_bits_shift_out :
    got (.busLineChange .c0 .cSide .clock true) (with0 fun c => { c with giving := some 0x59, bitsOut := 2 })
      (fun t => (t.ch0.bitsOut, t.ch0.pull.c)) = some (3, ⟨false, true⟩) := by rfl

/-- R29: the controller's NACK ends the read: REFUSED, the ninth pulse on the D-side. -/
theorem test_read_nack :
    got (.cAckComplete .c0 .nack) (with0 fun c => { c with
        phase := .relayRead, exch := some { exchange .read .forwarded with count := 2 }, byteOpen := true
        arb := ⟨.relay, .relay, false, false⟩ })
      (fun t => (t.ch0.phase, t.ch0.dOp, t.ch0.exch.map fun x => x.firstNack)) = some (.refused, .readAck, some (some 1)) := by
  rfl

/-- R33: a STOP ends the exchange, and the relay makes its STOP. -/
theorem test_stop :
    got (.cStop .c0 0) (with0 fun c => { c with
        phase := .relayWrite, exch := some (exchange .write .forwarded), arb := ⟨.relay, .relay, false, false⟩
        cFree := false, dFree := false })
      (fun t => (t.ch0.phase, t.ch0.dOp, t.ch0.exch.isSome, t.log.records.length)) = some (.free, .stop false, false, 2) := by
  rfl

/-- R39: the STOP made, the grant is given up. -/
theorem test_stop_complete :
    got (.dStopComplete .c0) (with0 fun c => { c with
        dOp := .stop false, dFree := false, arb := ⟨.relay, .relay, false, false⟩ })
      (fun t => (t.ch0.arb.holder, t.ch0.dFree, t.ch0.dOp)) = some (.none, true, .idle) := by rfl

/-- R164: of two waiters the one that is not the last holder. -/
theorem test_grant :
    got (.dSideGrant .c0) { working (job .write .write .chunk) with
      ch0 := { chanIn .active with arb := ⟨.none, .relay, true, true⟩ } }
      (fun t => (t.ch0.arb.holder, t.ch0.arb.relayWaits)) = some (.engine, true) := by rfl

/-- R41: arbitration lost: counted, the exchange aborted. -/
theorem test_arbitration_loss :
    got (.arbitrationLoss .c0) (relaying .relayWrite (exchange .write .forwarded) .writeByte)
      (fun t => (t.ch0.health.running.arbLosses, t.ch0.phase, t.ch0.seenFree)) = some (1, .refused, false) := by rfl

/-! ### One step: rules (chapter 3's scan example) -/

/-- Entry 4 of the example: DENY with ONESHOT and 3 passes. -/
def entry4 : Copy :=
  .address { enabled := true, onC0 := true, onC1 := false, address := 80, addressMask := 0, record := true
             trigger := true, oneshot := true, passCount := 3 } .write .deny

/-- Entry 9 of the example: FORWARD of 80..87. -/
def entry9 : Copy :=
  .address { enabled := true, onC0 := true, onC1 := true, address := 80, addressMask := 7, record := false
             trigger := false, oneshot := false, passCount := 0 } .either .forward

/-- Step 2: entry 4 is passed, entry 9 wins. -/
theorem test_scan_passes :
    let r := scanFrom (addressCandidate .c0 80 .write) 0 [⟨entry4, none, 3, 0, 0⟩, ⟨entry9, none, 0, 0, 0⟩]
    r.rules = [⟨entry4, none, 2, 0, 0⟩, ⟨entry9, none, 0, 1, 1⟩] ∧ r.winner = some (1, entry9) := by decide

/-- Step 6: 83 agrees with entry 9 alone. -/
theorem test_scan_mask :
    (scanFrom (addressCandidate .c0 83 .write) 0 [⟨entry4, none, 1, 0, 0⟩, ⟨entry9, none, 0, 4, 0⟩]).winner
      = some (1, entry9) := by decide

/-- Step 8: entry 4 wins and ONESHOT disables it. -/
theorem test_scan_oneshot :
    (scanFrom (addressCandidate .c0 80 .write) 0 [⟨entry4, none, 0, 0, 0⟩, ⟨entry9, none, 0, 6, 0⟩]).rules
      = [⟨entry4.setEnabled false, none, 0, 1, 1⟩, ⟨entry9, none, 0, 6, 0⟩] := by decide

/-- The REARM after step 9: enabled yes, 3 passes, hit count 1. -/
theorem test_rearm :
    got (.rearm 1 4 0) { live with rules := live.rules.set 4 ⟨entry4.setEnabled false, none, 0, 1, 0⟩ }
      (fun t => t.rules[4]?) = some (some ⟨entry4, none, 3, 1, 0⟩) := by rfl

/-- Chapter 3's rewrite under a hold: the copy waits while the entry is referenced. -/
theorem test_erase_waits :
    got (.eraseRule 1 9) { live with rules := live.rules.set 9 ⟨entry9, none, 0, 1, 1⟩ }
      (fun t => (t.rules[9]?, replies t)) = some (some ⟨entry9, some .empty, 0, 1, 1⟩, [⟨1, 0x21, .ok, [0]⟩]) := by rfl

/-! ### One step: images and the console (chapter 4's example) -/

/-- Image 2 of the example, with its pointer at `p`. -/
def image2 (p : Nat) : Image := { Image.reset with size := 64, writeTime := 5, protect := 1#256 <<< 18, pointer := p }

/-- Channel 0 in an emulated write to image 2, a byte's acknowledge bit pulled low. -/
def emulating (p count : Nat) (byte : Byte) : State :=
  { with0 fun c => { c with
      phase := .localAnswer, byteOpen := true, curByte := byte, pull := ⟨⟨false, true⟩, ⟨false, false⟩⟩
      exch := some { exchange .write .emulated with onImage := some 2, count := count } } with
    images := live.images.set 2 (image2 p) }

/-- The pointer byte 0x10. -/
theorem test_image_pointer :
    got (.cAckComplete .c0 .ack) (emulating 0 1 0x10) (fun t => (t.images[2]?).map fun i => (i.pointer, i.contents))
      = some (some (16, [])) := by rfl

/-- Byte 0xA1 at position 16 is stored. -/
theorem test_image_store :
    got (.cAckComplete .c0 .ack) (emulating 16 2 0xA1)
      (fun t => (t.images[2]?).map fun i => (i.pointer, i.contents, i.writeCount))
      = some (some (17, [(16, 0xA1)], 1)) := by rfl

/-- Position 18 is protected. -/
theorem test_image_protected :
    got (.cAckComplete .c0 .ack) (emulating 18 4 0xA3)
      (fun t => (t.images[2]?).map fun i => (i.pointer, i.contents, i.writeCount)) = some (some (19, [], 0)) := by rfl

/-- At 1005000 the window is over. -/
theorem test_image_window :
    got (.imageWindowExpiry 2) { live with
        tick := 1005000, images := live.images.set 2 { image2 19 with busyUntil := some 1005000 } }
      (fun t => (t.images[2]?).map fun i => i.busyUntil) = some (some none) := by rfl

/-! ### One step: holds (chapter 5's example) -/

/-- HOLD STATUS at 3000000: held 850 ms, remaining 4150 ms. -/
theorem test_hold_status :
    got (.holdStatus 1 0) { inHold (held .park (.emulate 2) (some 7150000)) none with tick := 3000000 }
      (fun t => (replies t).map fun r => r.results.drop 14) = some [[1, 0xB0, 0x19, 0x6D, 0, 0x52, 3, 0, 0, 1, 0x36, 0x10, 0]]
      := by rfl

/-- The timeout taken first: DENY at the index stage NACKs the byte. -/
theorem test_hold_timeout :
    got (.holdTimeout .c0) { inHold (held (.entryIndex 14) .resume (some 100)) (some .forwarded) with tick := 100 }
      (fun t => (t.ch0.phase, t.ch0.hold.isSome, t.ch0.pull.c)) = some (.refused, false, ⟨false, false⟩) := by rfl

/-- R92, R93: a parked address is held, and CnCK is low from then on. -/
theorem test_hold_stretches :
    got (.addressByteComplete .c0 0x90) (with0 fun c => { c with phase := .address, park := true })
      (fun t => (t.ch0.hold.isSome, t.ch0.highPhase, t.ch0.clockHeld, t.cClockLow .c0))
      = some (true, false, true, true) := by rfl

/-- PARK 1, SET: it was clear. -/
theorem test_park : got (.park 1 1 0) live (fun t => (t.ch1.park, replies t)) = some (true, [⟨1, 0x39, .ok, [0]⟩]) := by
  rfl

/-! ### One step: the log (chapter 6's worked cases) -/

/-- Case 1: a delta above 16777215 needs a mark, and the record's delta is 0. -/
theorem test_log_mark :
    ((Log.reset 4000000).take 20800000 none (.event (.supply .on))).log.records
      = [⟨none, 0, .timeMark 20800000⟩, ⟨none, 0, .event (.supply .on)⟩] := by decide

/-- Case 2: a delta over the wrap. -/
theorem test_log_wrap :
    (({ Log.reset 4294960000 with markNeeded := false } : Log).take 3000 none (.event (.supply .on))).log.records
      = [⟨none, 10296, .event (.supply .on)⟩] := by decide

/-- LOG CLEAR calls for a mark. -/
theorem test_log_clear :
    got (.logClear 1 0) { live with log := { Log.reset 0 with markNeeded := false, gapCount := 3, dropped := 3 } }
      (fun t => (t.log.markNeeded, t.log.gapCount, t.log.dropped)) = some (true, 0, 3) := by rfl

/-- LOG READ is refused while STREAM is on. -/
theorem test_log_read_streaming :
    got (.logRead 1 480) { live with log := { Log.reset 0 with stream := true } } replies
      = some [⟨1, 0x41, .wrongMode, []⟩] := by rfl

/-! ### One step: time and triggers -/

/-- R127: the count wraps, and passing a multiple of 2^24 is counted. -/
theorem test_tick : got (.tick 2) { live with tick := 4294967295 } (fun t => (t.tick, t.log.crossings)) = some (1, 1) := by
  rfl

/-- R129: a target stays as far from the present. -/
theorem test_time_set :
    got (.timeSet 1 1000) { live with tick := 10, cmpA := ⟨5, 0, some 15, 0⟩ } (fun t => (t.tick, t.cmpA.target))
      = some (1000, some 1005) := by rfl

/-- R131: a one-shot slot is disarmed as it fires. -/
theorem test_compare_fire :
    got (.compareFire .slotA) { live with tick := 15, cmpA := ⟨5, 0, some 15, 0⟩ } (fun t => (t.cmpA.target, t.cmpA.fires))
      = some (none, 1) := by rfl

/-- Chapter 7's chain: TRIG_IN arms slot A for 2000000 later. -/
theorem test_trigin_arms :
    got (.triginEdge true) { live with
        tick := 100, cmpA := ⟨2000000, 0, none, 0⟩, trigIn := ⟨.rise, false, 0, 0⟩
        routes := [⟨true, some .trigIn, none, some .armA, 0⟩] }
      (fun t => (t.cmpA.target, t.trigIn.count, t.routes.map fun r => r.fires)) = some (some 2000100, 1, [1]) := by rfl

/-- R136: TOGGLE inverts the level of the pin. -/
theorem test_trig_out : got (.trigOut 1 3 none) live (fun t => (t.trigOut.stored, replies t))
    = some (true, [⟨1, 0x56, .ok, [1, 1]⟩]) := by rfl

/-! ### One step: health, engine, supply -/

/-- R155: the snapshot takes the running counters and its number. -/
theorem test_snapshot :
    got (.statsSnapshot 1) (with0 fun c => { c with health := { c.health with running := { Stats.zero with held := 3 } } })
      (fun t => (t.ch0.health.snapshot.held, t.ch0.health.running.held, t.monitor.snapNumber)) = some (3, 0, 1) := by rfl

/-- R155: an expiry that fell together with a snapshot request taken first has its own snapshot. -/
theorem test_expiry_beside_snapshot :
    (match execAll [.statsSnapshot 1, .statsPeriodExpiry]
        { live with monitor := { live.monitor with timer := some ⟨1000000, 1000000⟩ } } with
      | .next t => some (t.monitor.snapNumber, t.monitor.expiryDue)
      | _ => none) = some (2, false) := by rfl

/-- R151: the ninth pulse with DnDA low fails the bus clear. -/
theorem test_bus_clear_fails :
    got (.busClearPulseDone .c0 false) (with0 fun c => { c with
        health := { c.health with busClear := some ⟨8, c.plan, false, 0⟩ } })
      (fun t => (t.ch0.health.busClear.isSome, t.ch0.health.lastClear)) = some (false, .failed) := by rfl

/-- R149: a line low for longer than the stuck limit declares STUCK_C. -/
theorem test_stuck_c :
    got (.stuckCDeclare .c0) (with0 fun c => { c with
        ext := ⟨⟨false, true⟩, ⟨false, false⟩⟩, meters := { c.meters with stuckData := pastTimer } })
      (fun t => (t.ch0.health.stuckC, t.link.noticed (healthNotice .c0))) = some (true, true) := by rfl

/-- Chapter 9's example: the first chunk has 16 bytes. -/
theorem test_job_start :
    got (.jobStart 1 ⟨7, 0, 0, 80, 2, 32, 496, 40, some 1024, some 10, some 1, some 0⟩) live
      (fun t => (t.engine.job.map fun j => (j.unitAddress, j.unitLength, j.phase), t.ch0.arb.holder))
      = some (some (496, 16, .write), .engine) := by rfl

/-- R167: the chunk written, the engine polls. -/
theorem test_chunk_end :
    got (.chunkEnd .complete) (working (job .write .write .chunk))
      (fun t => t.engine.job.map fun j => (j.phase, j.unit, j.pollTimer)) = some (some (.poll, .probe, some ⟨0, 10000⟩)) := by
  rfl

/-- R166, R167: the first chunk of chapter 9's example: device 80 W, address 496 high byte first, 16 bytes. -/
theorem test_chunk_items :
    ((job .write .write .chunk).items [(1024, 7)]).take 6
      = [.start, .send 0xA0, .send 0x01, .send 0xF0, .send 7, .send 0xFF] := by decide

/-- R168: the probe's ACK raises chunks done at once, and the poll limit comes too late for it. -/
theorem test_probe_ack :
    (match execAll [.probeEnd .ack, .pollLimitExpiry]
        (working { job .write .poll .probe with pollTimer := some ⟨10000, 10000⟩ }) with
      | .next t => some (t.engine.job.map fun j => (j.done, j.phase, j.unitAddress, j.pollExpired), t.ch0.dOp)
      | _ => none) = some (some (1, .write, 512, false), .stop false) := by rfl

/-- R171: a byte that the engine receives at the abort is given NACK. -/
theorem test_abort_nacks :
    got (.jobAbort 1) { working (job .read .read .burst) with
        engine := ⟨[], some (job .read .read .burst), none, [.send 0xA0, .receive .ack], []⟩ }
      (fun t => (t.engine.unit, t.engine.job.map fun j => j.phase)) = some ([.send 0xA0, .receive .nack], some .ending)
    := by rfl

/-- R168, R169: the first differing byte fails the job at its memory address. -/
theorem test_verify_mismatch :
    got (.burstEnd (.complete (List.replicate 16 0xFE))) (working (job .write .verify .burst))
      (fun t => t.engine.last.map fun r => (r.outcome, r.cause, r.failing)) = some (some (.failed, .verifyMismatch, 496)) := by
  rfl

/-- R158: a byte of 0xFF leaves no pair behind. -/
theorem test_stage_write :
    got (.stageWrite 1 10 [1, 0xFF]) { live with engine := ⟨[(11, 5)], none, none, [], []⟩ } (fun t => t.engine.staging)
      = some [(10, 1)] := by rfl

/-- R179: POWER ON in OFF enters RAMPING with the RAMP claim and 50 ms to settle. -/
theorem test_power_on : got (.powerOn 1) State.reset
    (fun t => (t.supply.state, t.supply.settleTimer, t.supply.claims.ramp, replies t))
    = some (.ramping, some ⟨0, 50000⟩, true, [⟨1, 0x81, .ok, [1]⟩]) := by rfl

/-- Chapter 10's example: POWER OFF abandons a hold at the address stage: NACK, BUSY, REFUSED. -/
theorem test_power_off :
    got (.powerOff 1) (inHold (held .park .forward none) none)
      (fun t => (t.supply.state, t.ch0.phase, t.ch0.hold.isSome, t.ch0.exch.map fun x => x.disposition))
      = some (.stopping, .refused, false, some (some .busy)) := by rfl

/-- R180, R181: with nothing in flight the quiesce test at the entry gives OFF, QUIESCED, and the reply carries OFF. -/
theorem test_power_off_quiesced :
    got (.powerOff 1) { live with ch1 := chanIn .isolated } (fun t => (t.supply.state, t.supply.lastStop, replies t))
      = some (.off, .quiesced, [⟨1, 0x82, .ok, [0]⟩]) := by rfl

/-- R183, R184: a trip isolates a channel on its bus. -/
theorem test_trip_test :
    got (.tripTest 1) { live with ch1 := chanIn .isolated } (fun t => (t.supply.state, t.ch0.mode, t.supply.lastCause))
      = some (.tripped, .isolated, .test) := by rfl

/-- R182: quiesced in STOPPING, OFF. -/
theorem test_stopping_quiesced :
    got .stoppingQuiesced { live with
        ch1 := chanIn .isolated, supply := { live.supply with state := .stopping, quiesceTimer := some ⟨0, 50000⟩ } }
      (fun t => (t.supply.state, t.supply.lastStop, t.ch0.mode)) = some (.off, .quiesced, .isolated) := by rfl

/-- R185, R187: a width of 0 is taken as 1 ms, ADJUSTED. -/
theorem test_reset_pulse : got (.resetPulse 1 (some 0)) live
    (fun t => (t.supply.pulseTimer, t.supply.claims.pulse, replies t))
    = some (some ⟨0, 1000⟩, true, [⟨1, 0x87, .adjusted, [2, 0]⟩]) := by rfl

/-! ### States and operands that meet the statements' hypotheses, clause by clause -/

theorem test_witness_StepTakesFront : State.reset.pending = [] := rfl

theorem test_witness_OneReplyPerRequest :
    (requestOf 7 [1] = .ok (.identify 7) ∧ Ready live)
    ∧ (requestOf 7 [0x11, 2] = .ok (.getChannel 7 2) ∧ Ready live) := by
  and_intros <;> first | rfl | decide

def forDispatchServesOldest1 : State :=
  { live with link := { live.link with replies := List.replicate 4 ⟨0, 1, .ok, []⟩ } }

def forDispatchServesOldest2 : State :=
  { live with link := { live.link with softReset := .due } }

def forDispatchServesOldest3 : State :=
  { live with
      link := { live.link with buffer := [⟨3, [1]⟩, ⟨4, []⟩], replies := List.replicate 3 ⟨0, 1, .ok, []⟩ } }

def forDispatchServesOldest4 : State :=
  { live with link := { live.link with buffer := [⟨4, []⟩] } }

theorem test_witness_DispatchServesOldest :
    (live.link.buffer = [])
    ∧ (4 ≤ forDispatchServesOldest1.link.replies.length)
    ∧ (forDispatchServesOldest2.link.softReset ≠ .none)
    ∧ (forDispatchServesOldest3.link.buffer = [⟨3, [1]⟩, ⟨4, []⟩] ∧ Ready forDispatchServesOldest3
        ∧ requestOf 3 [1] = .ok (.identify 3))
    ∧ (forDispatchServesOldest4.link.buffer = [⟨4, []⟩] ∧ Ready forDispatchServesOldest4
        ∧ requestOf 4 [] = .error (0, .badLength)) := by
  and_intros <;> first | rfl | decide

theorem test_witness_LinkChecks :
    ((0x05#8).toNat ∉ [0x01, 0x02, 0x03, 0x04, 0x10])
    ∧ ((0x88#8).toNat ∈ [0x86, 0x88])
    ∧ ((0x3A#8).toNat ∈ [0x11, 0x12, 0x3A, 0x60, 0x62]) := by
  and_intros <;> first | rfl | decide

theorem test_witness_ReceiverJudgesFrames :
    ((List.replicate 512 (0 : Byte)).length ≤ 512 ∧ live.inReset = false ∧ live.link.rx.state = .hunt)
    ∧ ([10, 37] = frameCheck (frameCovered 1 7 [1]) ∧ (1 : Byte) = 1 ∧ live.link.buffer.length < 2)
    ∧ (¬ ([10, 38] = frameCheck (frameCovered 1 7 [1]))) := by
  refine ⟨⟨by rw [List.length_replicate], rfl, rfl⟩, ⟨by decide, rfl, by decide⟩, by decide⟩

def forTransmitterOrder1 : State :=
  { live with link := { live.link with replies := [⟨7, 3, .ok, []⟩] } }

def forTransmitterOrder2 : State :=
  { live with link := { live.link with noticeDue := true } }

def forTransmitterOrder3 : State :=
  { live with log := { Log.reset 0 with stream := true, records := [⟨none, 0, .event (.supply .on)⟩] } }

theorem test_witness_TransmitterOrder :
    (forTransmitterOrder1.inReset = false ∧ forTransmitterOrder1.link.tx = none
        ∧ forTransmitterOrder1.link.lhold = false ∧ forTransmitterOrder1.link.softReset ≠ .due
        ∧ forTransmitterOrder1.link.replies = [⟨7, 3, .ok, []⟩])
    ∧ (forTransmitterOrder2.inReset = false ∧ forTransmitterOrder2.link.tx = none
        ∧ forTransmitterOrder2.link.lhold = false ∧ forTransmitterOrder2.link.softReset ≠ .due
        ∧ forTransmitterOrder2.link.replies = [] ∧ forTransmitterOrder2.link.noticeDue = true)
    ∧ (forTransmitterOrder3.inReset = false ∧ forTransmitterOrder3.link.tx = none
        ∧ forTransmitterOrder3.link.lhold = false ∧ forTransmitterOrder3.link.softReset ≠ .due
        ∧ forTransmitterOrder3.link.replies = [] ∧ forTransmitterOrder3.link.noticeDue = false
        ∧ forTransmitterOrder3.log.stream = true ∧ forTransmitterOrder3.log.records ≠ [])
    ∧ (live.inReset = false ∧ live.link.tx = none ∧ live.link.lhold = false ∧ live.link.softReset ≠ .due
        ∧ live.link.replies = [] ∧ live.link.noticeDue = false ∧ (live.log.stream = false ∨ live.log.records = [])) := by
  and_intros <;> first | rfl | decide

theorem test_witness_WholeRecordsInOrder :
    ((takeFitting 7 [⟨none, 0, .event (.supply .on)⟩]).2 = [⟨none, 0, .event (.supply .on)⟩])
    ∧ ((takeFitting 15 [⟨none, 0, .event (.supply .on)⟩, ⟨none, 0, .event (.supply .on)⟩]).2 = [⟨none, 0, .event (.supply .on)⟩]) := by
  and_intros <;> rfl

def forLinkEvents1 : State :=
  { live with link := { live.link with rx := ⟨.header, [1, 7, 1], [], 1, some ⟨20000, 20000⟩⟩ } }

def forLinkEvents2 : State :=
  { live with link := { live.link with tx := some [0x5A] } }

def forLinkEvents3 : State :=
  { live with link := { live.link with tx := some [0x5A], lhold := true } }

def forLinkEvents4 : State :=
  { live with link := { live.link with noticeTimer := ⟨10000, 10000⟩ } }

theorem test_witness_LinkEvents :
    (live.inReset = false ∧ live.link.rx.state = .hunt ∧ (0x5B : Byte) ≠ 0x5A)
    ∧ (forLinkEvents1.inReset = false ∧ forLinkEvents1.link.rx.state = .header
        ∧ forLinkEvents1.link.rx.bytes = [1, 7, 1] ∧ forLinkEvents1.link.rx.left = 1
        ∧ 512 < (1#8).toNat + 256 * (2#8).toNat)
    ∧ (forLinkEvents1.inReset = false ∧ forLinkEvents1.link.rx.timer = some ⟨20000, 20000⟩)
    ∧ (forLinkEvents2.inReset = false ∧ forLinkEvents2.link.tx.isSome = true ∧ forLinkEvents2.link.lhold = false)
    ∧ (forLinkEvents3.inReset = false ∧ forLinkEvents3.link.lhold = true ∧ forLinkEvents3.link.txLastByte = false)
    ∧ (forLinkEvents4.inReset = false
        ∧ forLinkEvents4.link.noticeTimer.limit ≤ forLinkEvents4.link.noticeTimer.elapsed) := by
  and_intros <;> first | rfl | decide

theorem test_witness_LinkRequests : Ready live := live_ready

def forResets1 : State :=
  { live with link := { live.link with softReset := .due }, supply := { live.supply with state := .stopping } }

def forResets2 : State :=
  { State.reset with inReset := true }

theorem test_witness_Resets :
    (forDispatchServesOldest2.inReset = false ∧ forDispatchServesOldest2.link.softReset = .due
        ∧ forDispatchServesOldest2.supply.state ≠ .stopping)
    ∧ (forResets1.inReset = false ∧ forResets1.link.softReset = .due ∧ forResets1.supply.state = .stopping)
    ∧ (forResets2.inReset = true) := by
  and_intros <;> first | rfl | decide

def forSetChannel1 : State :=
  working (job .write .write .chunk)

def forSetChannel2 : State :=
  with0 fun c => { c with
      health := { c.health with busClear := some ⟨0, c.plan, false, 2⟩ }
      meters := { c.meters with dClear := some ⟨2, 105⟩ } }

theorem test_witness_SetChannel :
    (Ready live ∧ 2 ≤ (2#8).toNat)
    ∧ (¬ SettingsAccepted [(3, 10), (3, 10)])
    ∧ (Ready forSetChannel1 ∧ SettingsAccepted [(0, 0)] ∧ forSetChannel1.jobOn .c0 = true
        ∧ ((0, 0) : Byte × Half) ∈ [(0, 0)])
    ∧ (Ready live ∧ live.IsolationOk ∧ SettingsAccepted [(3, 1201), (0, 1)] ∧ SettingsClamped [(3, 1201), (0, 1)]
        ∧ ¬ SettingsClamped [(3, 1200), (0, 1)] ∧ live.jobOn .c0 = false
        ∧ ((0, 2) : Byte × Half) ∉ [(3, 1201), (0, 1)])
    ∧ (Ready State.reset ∧ State.reset.IsolationOk ∧ State.reset.ch0.mode = .isolated)
    ∧ (Ready forSetChannel2 ∧ forSetChannel2.IsolationOk ∧ (forSetChannel2.chan .c0).meters.dClear = some ⟨2, 105⟩
        ∧ (forSetChannel2.chan .c0).health.busClear = some ⟨0, (forSetChannel2.chan .c0).plan, false, 2⟩
        ∧ 2 < ((forSetChannel2.chan .c0).plan.low + 47) / 48) := by
  refine ⟨⟨live_ready, by decide⟩, by simp [SettingsAccepted], ⟨⟨rfl, by decide, rfl⟩, by simp [SettingsAccepted], rfl, by decide⟩,
    ⟨live_ready, ?_, by simp [SettingsAccepted], by simp [SettingsClamped], by simp [SettingsClamped], rfl, by decide⟩, ⟨reset_ready, ?_, rfl⟩,
    ⟨rfl, by decide, rfl⟩, ?_, rfl, rfl, by decide⟩
  · intro ch h; cases ch <;> cases h
  · intro ch _; cases ch <;> rfl
  · intro ch h; cases ch <;> cases h

def forEntryToIsolated1 : State :=
  { inHold (held .park (.emulate 2) (some 100)) none with ch1 := chanIn .isolated }

theorem test_witness_EntryToIsolated :
    (Ready live ∧ (live.chan .c1).mode ≠ .isolated ∧ SettingsAccepted [(3, 9), (0, 2), (11, 1)]
        ∧ ((0, 2) : Byte × Half) ∈ [(3, 9), (0, 2), (11, 1)] ∧ SettingsClamped [(3, 9), (0, 2), (11, 1)])
    ∧ (Ready forSetChannel1 ∧ (forSetChannel1.chan .c0).mode ≠ .isolated
        ∧ forSetChannel1.engine.job = some (job .write .write .chunk) ∧ (job .write .write .chunk).chan = .c0)
    ∧ (Ready forEntryToIsolated1 ∧ (forEntryToIsolated1.chan .c0).mode ≠ .isolated
        ∧ (forEntryToIsolated1.chan .c0).hold.isSome = true ∧ (forEntryToIsolated1.chan .c0).exch.isSome = true
        ∧ forEntryToIsolated1.jobOn .c0 = false) := by
  and_intros <;> first | rfl | (simp [SettingsAccepted, SettingsClamped]; done) | decide

theorem test_witness_GetChannelReports :
    Ready live ∧ 2 ≤ (2#8).toNat := by
  and_intros <;> first | rfl | decide

def forChannelReset1 : State :=
  relaying .relayWrite (exchange .write .forwarded) .idle

theorem test_witness_ChannelReset :
    (Ready forSetChannel1 ∧ forSetChannel1.jobOn .c0 = true)
    ∧ (Ready forChannelReset1 ∧ forChannelReset1.jobOn .c0 = false
        ∧ (forChannelReset1.chan .c0).arb.holder = .relay) := by
  and_intros <;> first | rfl | decide

theorem test_witness_WriteAndEraseRule :
    (Ready live ∧ live.rules.length ≤ (32#8).toNat)
    ∧ (Ready live ∧ ruleOf ⟨2, 1, 1, 80, 0, 1, 2, none, none, 1, 1, 1, 3, none, none⟩ = none)
    ∧ (Ready live ∧ live.rules[(31#8).toNat]? = some .reset
        ∧ (ruleOf ⟨0, 1, 1, 80, 0, 1, 2, none, none, 1, 1, 1, 3, none, none⟩).isSome = true) := by
  and_intros <;> first | rfl | decide

theorem test_witness_RuleContents :
    ((ruleOf ⟨0, 1, 1, 80, 0, 1, 2, none, none, 1, 1, 1, 3, none, none⟩).isSome = true
        ∧ (ruleOf ⟨1, 1, 2, 127, 127, 0, 1, none, some 1, 0, 0, 0, 0, some 255, some 0⟩).isSome = true)
    ∧ ((ruleOf ⟨0, 1, 1, 128, 0, 1, 2, none, none, 1, 1, 1, 3, none, none⟩).isSome = false) := by
  and_intros <;> rfl

/-- An INDEX entry with action HOLD. -/
def indexEntry : Copy :=
  .index { enabled := true, onC0 := true, onC1 := true, address := 80, addressMask := 7, record := false
           trigger := false, oneshot := false, passCount := 0 } 0x20 0 (.hold .deny)

/-- An ADDRESS entry with action EMULATE. -/
def imageEntry : Copy :=
  .address { enabled := true, onC0 := true, onC1 := true, address := 80, addressMask := 7, record := false
             trigger := false, oneshot := false, passCount := 0 } .either (.emulate 3)

/-- An INDEX entry with action DENY. -/
def denyEntry : Copy :=
  .index { enabled := true, onC0 := true, onC1 := true, address := 80, addressMask := 7, record := false
           trigger := false, oneshot := false, passCount := 0 } 0x20 0 .deny

/-- An ADDRESS entry with action HOLD. -/
def holdEntry : Copy :=
  .address { enabled := true, onC0 := true, onC1 := true, address := 80, addressMask := 0, record := true
             trigger := false, oneshot := false, passCount := 0 } .either (.hold .deny)

def forRearmRule1 : State :=
  { live with rules := live.rules.set 31 ⟨entry9, none, 0, 1, 1⟩ }

theorem test_witness_RearmRule :
    (Ready live ∧ live.rules.length = 32 ∧ 32 ≤ (32#8).toNat)
    ∧ (Ready live ∧ live.rules.length = 32 ∧ live.rules[(31#8).toNat]? = some .reset ∧ Entry.reset.live = .empty)
    ∧ (Ready forRearmRule1 ∧ forRearmRule1.rules.length = 32
        ∧ forRearmRule1.rules[(31#8).toNat]? = some ⟨entry9, none, 0, 1, 1⟩ ∧ entry9 ≠ .empty
        ∧ (1 : Byte) = (if true then 1 else 0)) := by
  and_intros <;> first | rfl | decide

def forEnableDisableRule1 : State :=
  { live with rules := live.rules.set 0 ⟨indexEntry, none, 0, 1, 1⟩ }

theorem test_witness_EnableDisableRule :
    (Ready live ∧ live.rules.length = 32 ∧ 32 ≤ (255#8).toNat)
    ∧ (Ready live ∧ live.rules.length = 32 ∧ live.rules[(31#8).toNat]? = some .reset ∧ Entry.reset.live = .empty)
    ∧ (Ready forRearmRule1 ∧ forRearmRule1.rules.length = 32
        ∧ forRearmRule1.rules[(31#8).toNat]? = some ⟨entry9, none, 0, 1, 1⟩)
    ∧ (Ready forEnableDisableRule1 ∧ forEnableDisableRule1.rules.length = 32
        ∧ forEnableDisableRule1.rules[(0#8).toNat]? = some ⟨indexEntry, none, 0, 1, 1⟩) := by
  and_intros <;> first | rfl | decide

def forReadRule1 : State :=
  { live with rules := live.rules.set 0 ⟨imageEntry, none, 0, 1, 1⟩ }

theorem test_witness_ReadRule :
    (Ready live ∧ live.rules.length ≤ (32#8).toNat)
    ∧ (Ready live ∧ live.rules[(31#8).toNat]? = some .reset ∧ Entry.reset.live = .empty)
    ∧ (Ready forReadRule1 ∧ forReadRule1.rules[(0#8).toNat]? = some ⟨imageEntry, none, 0, 1, 1⟩)
    ∧ (Ready forEnableDisableRule1 ∧ forEnableDisableRule1.rules[(0#8).toNat]? = some ⟨indexEntry, none, 0, 1, 1⟩) := by
  and_intros <;> first | rfl | decide

theorem test_witness_ScanDecides :
    (addressCandidate .c0 83 .write entry9 = true)
    ∧ (addressCandidate .c0 83 .write entry4 = false)
    ∧ (indexCandidate .c1 87 0x20 indexEntry = true)
    ∧ (indexCandidate .c1 88 0x20 indexEntry = false)
    ∧ ((scanFrom (addressCandidate .c0 83 .write) 0 [⟨entry9, none, 0, 0, 0⟩]).winner = some (0, entry9))
    ∧ ((scanFrom (addressCandidate .c0 80 .write) 0 [⟨entry4, none, 1, 0, 0⟩]).winner = none) := by
  and_intros <;> rfl

def forImageRequests1 : State :=
  { live with
      ch0 := { chanIn .active with phase := .localAnswer, exch := some { exchange .write .emulated with onImage := some 3 } } }

theorem test_witness_ImageRequests :
    (Ready live ∧ live.images[(3 : Fin 4).val]? = some .reset ∧ live.imageInUse 3 = false)
    ∧ (Ready forImageRequests1 ∧ forImageRequests1.images[(3 : Fin 4).val]? = some .reset
        ∧ forImageRequests1.imageInUse 3 = true)
    ∧ (Ready live ∧ live.images[(3 : Fin 4).val]? = some .reset ∧ ([0xA1] : List Byte) ≠ []
        ∧ (255#8).toNat + ([0xA1] : List Byte).length ≤ 256)
    ∧ (Ready live ∧ live.images[(3 : Fin 4).val]? = some .reset
        ∧ 256 < (255#8).toNat + ([0xA1, 0xA2] : List Byte).length) := by
  and_intros <;> first | rfl | decide

def forImageReadAndWindow1 : State :=
  { live with tick := 100, images := live.images.set 2 { image2 0 with busyUntil := some 100 } }

def forImageReadAndWindow2 : State :=
  { live with tick := 99, images := live.images.set 2 { image2 0 with busyUntil := some 100 } }

theorem test_witness_ImageReadAndWindow :
    (Ready live ∧ live.images[(0 : Fin 4).val]? = some .reset ∧ 1 ≤ (256#16).toNat
        ∧ (0#8).toNat + (256#16).toNat ≤ 256)
    ∧ (256 < (1#8).toNat + (256#16).toNat)
    ∧ (4 ≤ (4#8).toNat)
    ∧ (2 ≤ (2#8).toNat)
    ∧ (forImageReadAndWindow1.images[(2 : Fin 4).val]? = some { image2 0 with busyUntil := some 100 }
        ∧ forImageReadAndWindow1.inReset = false ∧ (forImageReadAndWindow1.tick - 100).toNat < 2147483648)
    ∧ (forImageReadAndWindow2.images[(2 : Fin 4).val]? = some { image2 0 with busyUntil := some 100 }
        ∧ forImageReadAndWindow2.inReset = false ∧ 2147483648 ≤ (forImageReadAndWindow2.tick - 100).toNat)
    ∧ (live.images[(2 : Fin 4).val]? = some .reset ∧ live.inReset = false ∧ Image.reset.busyUntil = none) := by
  and_intros <;> first | rfl | decide

def forHoldRequests1 : State :=
  inHold (held .park (.emulate 2) (some 100)) none

def forHoldRequests2 : State :=
  inHold (held (.entryIndex 14) .resume (some 100)) (some .forwarded)

theorem test_witness_HoldRequests :
    (Ready live ∧ (live.chan .c1).mode ≠ .isolated)
    ∧ (Ready State.reset ∧ (State.reset.chan .c0).mode = .isolated)
    ∧ (Ready live ∧ 2 ≤ (2#8).toNat)
    ∧ (Ready live ∧ (live.chan .c0).hold = none ∧ (11#8).toNat ∈ [0, 1, 2, 8, 9, 10, 11])
    ∧ (Ready forHoldRequests1 ∧ (forHoldRequests1.chan .c0).hold = some (held .park (.emulate 2) (some 100)))
    ∧ (Ready live ∧ (12#8).toNat ∉ [0, 1, 2, 8, 9, 10, 11])
    ∧ (Ready forHoldRequests2 ∧ (1#8).toNat ∈ [1, 8, 9, 10, 11]
        ∧ (forHoldRequests2.chan .c0).hold = some (held (.entryIndex 14) .resume (some 100))
        ∧ (held (.entryIndex 14) .resume (some 100)).origin.atIndex = true) := by
  and_intros <;> first | rfl | decide

def forHoldEnds1 : State :=
  { inHold (held .park (.emulate 2) (some 100)) none with tick := 100 }

def forHoldEnds2 : State :=
  inHold (held .park .deny none) none

def forHoldEnds3 : State :=
  { inHold (held .park (.emulate 2) (some 100)) none with tick := 99 }

theorem test_witness_HoldEnds :
    (Ready forHoldRequests1 ∧ (forHoldRequests1.chan .c0).hold = some (held .park (.emulate 2) (some 100))
        ∧ (forHoldRequests1.chan .c0).exch = some { exchange .write .forwarded with disposition := none }
        ∧ (11 : Byte) = BitVec.ofNat 8 (8 + (3 : Fin 4).val))
    ∧ (Ready forHoldRequests2 ∧ (forHoldRequests2.chan .c0).hold = some (held (.entryIndex 14) .resume (some 100))
        ∧ (forHoldRequests2.chan .c0).exch = some (exchange .write .forwarded) ∧ (2#8).toNat ∈ [0, 2])
    ∧ (forHoldEnds1.inReset = false ∧ (forHoldEnds1.chan .c0).hold = some (held .park (.emulate 2) (some 100))
        ∧ (forHoldEnds1.chan .c0).exch = some { exchange .write .forwarded with disposition := none }
        ∧ (forHoldEnds1.tick - 100).toNat < 2147483648)
    ∧ ((forHoldEnds2.chan .c0).hold = some (held .park .deny none)
        ∧ (forHoldEnds2.chan .c0).exch = some { exchange .write .forwarded with disposition := none }
        ∧ (held .park .deny none).deadline = none)
    ∧ ((forHoldEnds3.chan .c0).hold = some (held .park (.emulate 2) (some 100))
        ∧ (forHoldEnds3.chan .c0).exch = some { exchange .write .forwarded with disposition := none }
        ∧ 2147483648 ≤ (forHoldEnds3.tick - 100).toNat) := by
  and_intros <;> first | rfl | decide

/-- The body of chapter 6's refused probe. -/
def probe : ExchangeBody :=
  { address := 80, direction := .write, disposition := .busy, entry := some 3, ack := .nack, endKind := .stop
    duration := 5, count := 0, firstNack := none, repeats := 1, shown := [] }

/-- A log of 8170 bytes. -/
def fullLog (wrap : Bool) : State :=
  { live with log := { Log.reset 0 with records := List.replicate 430 ⟨some .c0, 0, .exchange probe⟩, wrap := wrap } }

theorem bytesOf_replicate (n : Nat) (r : Record) : bytesOf (List.replicate n r) = n * r.length := by
  induction n with
  | zero => simp [bytesOf]
  | succ n ih => rw [List.replicate_succ, bytesOf, ih, Nat.succ_mul, Nat.add_comm]

def forLogTakesRecord1 : State :=
  { live with log := { Log.reset 0 with gateOpen := false } }

def forLogTakesRecord2 : State :=
  { live with
      tick := 1000
      log := { Log.reset 0 with records := [⟨some .c0, 0, .exchange probe⟩], window := 1, markNeeded := false } }

theorem test_witness_LogTakesRecord :
    ((Body.console (List.replicate 64 0)).length ≤ 80 ∧ (Body.exchange probe).length ≤ 80)
    ∧ (forLogTakesRecord1.log.gateOpen = false ∧ ∃ text, Body.console [10] = .console text)
    ∧ (forLogTakesRecord2.log.gateOpen = true
        ∧ forLogTakesRecord2.log.records = [] ++ [⟨some .c0, 0, .exchange probe⟩]
        ∧ 0 < forLogTakesRecord2.log.window
        ∧ (forLogTakesRecord2.tick - forLogTakesRecord2.log.lastStamp).toNat ≤ forLogTakesRecord2.log.window * 1000
        ∧ probe.repeats < 255 ∧ forLogTakesRecord2.log.gapCount = 0 ∧ forLogTakesRecord2.log.markNeeded = false)
    ∧ (bytesOf live.log.records + (6 + (Body.exchange probe).length + 10) ≤ 8192)
    ∧ (8192 < bytesOf (fullLog false).log.records + (6 + (Body.exchange probe).length + 10)
        ∧ (fullLog false).log.wrap = false)
    ∧ (8192 < bytesOf (fullLog true).log.records + (6 + (Body.exchange probe).length + 10)
        ∧ (fullLog true).log.wrap = true) := by
  refine ⟨by decide, ⟨rfl, [10], rfl⟩, by decide, by decide, ⟨?_, rfl⟩, ?_, rfl⟩
  · rw [fullLog, bytesOf_replicate]; decide
  · rw [fullLog, bytesOf_replicate]; decide

def forLogReadAndStatus1 : State :=
  { live with log := { Log.reset 0 with stream := true } }

theorem test_witness_LogReadAndStatus :
    (Ready live ∧ 480 < (481#16).toNat)
    ∧ (Ready live ∧ (480#16 : Half) ≠ 0 ∧ (480#16).toNat ≤ 480 ∧ live.log.stream = false)
    ∧ (Ready forLogReadAndStatus1 ∧ (1#16 : Half) ≠ 0 ∧ (1#16).toNat ≤ 480 ∧ forLogReadAndStatus1.log.stream = true) := by
  and_intros <;> first | rfl | decide

theorem test_witness_LogClear :
    Ready live ∧ live.log.gated (.console [10]) = false ∧ (Body.console [10]).length ≤ 80 := by
  and_intros <;> first | rfl | decide

theorem test_witness_ConfigRequests :
    (Ready live ∧ ([(3, 1)] : List (Byte × Half)) ≠ [] ∧ (([(3, 1)] : List (Byte × Half)).map Prod.fst).Nodup
        ∧ ∀ p ∈ ([(3, 1)] : List (Byte × Half)), p.1.toNat < 4 ∧ (p.1.toNat ≠ 1 → p.2.toNat < 2))
    ∧ (¬ ∀ p ∈ ([(4, 0)] : List (Byte × Half)), p.1.toNat < 4) := by
  refine ⟨⟨live_ready, by decide, by decide, ?_⟩,
    fun h => absurd (h (4, 0) (List.mem_singleton_self _)) (by decide)⟩
  intro p hp; obtain rfl := List.mem_singleton.1 hp; decide

theorem test_witness_TimeRequests : Ready live := live_ready

theorem test_witness_TicksPass : live.inReset = false := rfl

def forCompareSlots1 : State :=
  { live with tick := 15, cmpA := ⟨5, 0, some 15, 0⟩ }

def forCompareSlots2 : State :=
  { live with tick := 14, cmpB := ⟨5, 0, some 15, 0⟩ }

theorem test_witness_CompareSlots :
    (Ready live ∧ 2 ≤ (2#8).toNat)
    ∧ (forCompareSlots1.inReset = false ∧ (forCompareSlots1.compare .slotA).target = some 15
        ∧ (forCompareSlots1.tick - 15).toNat < 2147483648)
    ∧ ((live.compare .slotB).target = none)
    ∧ ((forCompareSlots2.compare .slotB).target = some 15 ∧ 2147483648 ≤ (forCompareSlots2.tick - 15).toNat) := by
  and_intros <;> first | rfl | decide

theorem test_witness_CompareDisarm :
    (Ready live ∧ 2 ≤ (2#8).toNat)
    ∧ (Ready forCompareSlots1 ∧ (forCompareSlots1.compare .slotA).target.isSome = true)
    ∧ (Ready live ∧ (live.compare .slotB).target = none) := by
  and_intros <;> first | rfl | decide

def forTriggerPins1 : State :=
  { live with trigIn := ⟨.fall, true, 0, 65535⟩ }

def forTriggerPins2 : State :=
  { live with trigOut := ⟨false, 10, some ⟨10, 10⟩⟩ }

theorem test_witness_TriggerPins :
    (Ready live ∧ 4 ≤ (4#8).toNat)
    ∧ (Ready live ∧ 2 ≤ (2#8).toNat)
    ∧ (live.trigIn.level = false)
    ∧ (forTriggerPins1.trigIn.level = !false ∧ forTriggerPins1.inReset = false
        ∧ forTriggerPins1.trigIn.selection = .fall)
    ∧ (live.trigIn.level = !true ∧ live.inReset = false ∧ live.trigIn.selection = .off)
    ∧ (forTriggerPins2.inReset = false ∧ forTriggerPins2.trigOut.timer = some ⟨10, 10⟩) := by
  and_intros <;> first | rfl | decide

theorem test_witness_RouteRequests :
    (Ready live ∧ (7#8).toNat < 8 ∧ (some (Qualifier.entry 31)).isSome = true ∧ 31 < 32)
    ∧ (Ready live ∧ 8 ≤ (8#8).toNat)
    ∧ (Ready live ∧ 11 ≤ (11#8).toNat)
    ∧ (Ready live ∧ 32 ≤ (254#8).toNat ∧ (254 : Byte) ≠ 255)
    ∧ (Ready live ∧ live.routes[(7#8).toNat]? = some .reset)
    ∧ (Ready live ∧ live.routes.length ≤ (8#8).toNat) := by
  and_intros <;> first | rfl | decide

def forRouterOccurrence1 : State :=
  { live with
      routes := [⟨true, some .rule, some (.entry 4), some .park1, 0⟩, ⟨true, some .rule, some .any, some .armA, 0⟩] }

theorem test_witness_RouterOccurrence :
    (∀ r ∈ live.routes, r.fits .trigIn none = false)
    ∧ (forRouterOccurrence1.routes.filter (fun r => r.fits .rule (some 4)) = forRouterOccurrence1.routes)
    ∧ (forRouterOccurrence1.routes.filter (fun r => r.fits .rule (some 5)) = [⟨true, some .rule, some .any, some .armA, 0⟩]) := by
  and_intros <;> first | rfl | decide

def forHealthAndStatistics1 : State :=
  { live with monitor := { live.monitor with timer := some ⟨1000000, 1000000⟩ } }

def forHealthAndStatistics2 : State :=
  { live with monitor := { live.monitor with expiryDue := true } }

theorem test_witness_HealthAndStatistics :
    (Ready live ∧ 2 ≤ (2#8).toNat)
    ∧ (forHealthAndStatistics1.inReset = false ∧ forHealthAndStatistics1.monitor.timer = some ⟨1000000, 1000000⟩)
    ∧ (forHealthAndStatistics2.inReset = false ∧ forHealthAndStatistics2.monitor.timer = some ⟨0, 1000000⟩
        ∧ forHealthAndStatistics2.monitor.expiryDue = true)
    ∧ (Ready forHealthAndStatistics1 ∧ forHealthAndStatistics1.monitor.timer = some ⟨1000000, 1000000⟩)
    ∧ (live.monitor.timer = some ⟨0, 1000000⟩ ∧ live.monitor.expiryDue = false) := by
  and_intros <;> first | rfl | decide

def forStuckLines1 : State :=
  with0 fun c => { c with meters := { c.meters with stuckClock := pastTimer } }

def forStuckLines2 : State :=
  with0 fun c => { c with
      meters := { c.meters with cIdle := dueTimer }, health := { c.health with stuckC := true } }

def forStuckLines3 : State :=
  with0 fun c => { c with meters := { c.meters with stuckD := dueTimer } }

def forStuckLines4 : State :=
  with0 fun c => { c with meters := { c.meters with stuckD := pastTimer } }

def forStuckLines5 : State :=
  { live with
      ch0 := { chanIn .active with meters := { Meters.stopped with stuckD := pastTimer } }
      engine := ⟨[], some (job .write .write .chunk), none, [], []⟩ }

def forStuckLines6 : State :=
  with0 fun c => { c with
      phase := .grantWait, grantLimitTaken := true, exch := some (exchange .write .forwarded)
      meters := { c.meters with stuckD := pastTimer } }

def forStuckLines7 : State :=
  with0 fun c => { c with
      meters := { c.meters with dClear := dueTimer }, health := { c.health with stuckD := true } }

def forStuckLines8 : State :=
  with0 fun c => { c with
      phase := .held, exch := some { exchange .write .forwarded with disposition := none }
      hold := some (held .park .forward none)
      health := { c.health with stuckD := true, busClear := some ⟨3, c.plan, true, 0⟩ }
      meters := { c.meters with dClear := dueTimer } }

theorem test_witness_StuckLines :
    (forStuckLines1.inReset = false ∧ (forStuckLines1.chan .c0).meters.stuckClock = some ⟨6, 5⟩ ∧ 5 < 6
        ∧ (forStuckLines1.chan .c0).health.stuckC = false ∧ (forStuckLines1.chan .c0).hold = none
        ∧ (forStuckLines1.chan .c0).mode ≠ .isolated)
    ∧ (forStuckLines2.inReset = false ∧ (forStuckLines2.chan .c0).meters.cIdle = some ⟨5, 5⟩
        ∧ (forStuckLines2.chan .c0).health.stuckC = true)
    ∧ (forStuckLines3.inReset = false ∧ (forStuckLines3.chan .c0).meters.stuckD = some ⟨5, 5⟩ ∧ 5 ≤ 5
        ∧ (forStuckLines3.chan .c0).meters.stuckClock = none ∧ (forStuckLines3.chan .c0).meters.stuckData = none)
    ∧ (forStuckLines4.inReset = false ∧ (forStuckLines4.chan .c0).meters.stuckD = some ⟨6, 5⟩ ∧ 5 < 6
        ∧ (forStuckLines4.chan .c0).health.stuckD = false ∧ forStuckLines4.dClockLow .c0 = false
        ∧ (forStuckLines4.chan .c0).arb.holder = .none ∧ (forStuckLines4.chan .c0).health.busClear = none)
    ∧ (forStuckLines5.inReset = false ∧ (forStuckLines5.chan .c0).meters.stuckD = some ⟨6, 5⟩ ∧ 5 < 6
        ∧ (forStuckLines5.chan .c0).health.stuckD = false
        ∧ forStuckLines5.engine.job = some (job .write .write .chunk) ∧ (job .write .write .chunk).chan = .c0)
    ∧ (forStuckLines6.inReset = false ∧ (forStuckLines6.chan .c0).meters.stuckD = some ⟨6, 5⟩ ∧ 5 < 6
        ∧ (forStuckLines6.chan .c0).health.stuckD = false ∧ forStuckLines6.jobOn .c0 = false
        ∧ (forStuckLines6.chan .c0).phase = .grantWait ∧ (forStuckLines6.chan .c0).grantLimitTaken = true
        ∧ (forStuckLines6.chan .c0).exch = some (exchange .write .forwarded))
    ∧ (forStuckLines7.inReset = false ∧ (forStuckLines7.chan .c0).meters.dClear = some ⟨5, 5⟩
        ∧ (forStuckLines7.chan .c0).health.stuckD = true)
    ∧ (forStuckLines8.inReset = false ∧ (forStuckLines8.chan .c0).meters.dClear = some ⟨5, 5⟩
        ∧ (forStuckLines8.chan .c0).health.stuckD = true ∧ (forStuckLines8.chan .c0).hold.isSome = true
        ∧ (forStuckLines8.chan .c0).exch.isSome = true) := by
  and_intros <;> first | rfl | decide

def forBusClearRuns1 : State :=
  with0 fun c => { c with health := { c.health with busClear := some ⟨0, c.plan, false, 0⟩ } }

def forBusClearRuns2 : State :=
  with0 fun c => { c with health := { c.health with busClear := some ⟨7, c.plan, false, 0⟩ } }

def forBusClearRuns3 : State :=
  with0 fun c => { c with health := { c.health with busClear := some ⟨8, c.plan, false, 0⟩ } }

def forBusClearRuns4 : State :=
  with0 fun c => { c with health := { c.health with busClear := some ⟨8, c.plan, true, 0⟩ } }

def forBusClearRuns5 : State :=
  with0 fun c => { c with health := { c.health with busClear := some ⟨9, c.plan, true, 0⟩ } }

theorem test_witness_BusClearRuns :
    (Ready live ∧ (live.chan .c0).mode = .active ∧ (live.chan .c0).arb.holder = .none
        ∧ (live.chan .c0).health.busClear = none ∧ live.dClockLow .c0 = false)
    ∧ (Ready live ∧ (live.chan .c1).mode ≠ .active)
    ∧ (Ready forBusClearRuns1 ∧ (forBusClearRuns1.chan .c0).mode = .active
        ∧ (forBusClearRuns1.chan .c0).health.busClear.isSome = true)
    ∧ (2 ≤ (2#8).toNat)
    ∧ (forBusClearRuns2.inReset = false
        ∧ (forBusClearRuns2.chan .c0).health.busClear = some ⟨7, ⟨240, 240⟩, false, 0⟩ ∧ 7 < 8)
    ∧ (forBusClearRuns3.inReset = false
        ∧ (forBusClearRuns3.chan .c0).health.busClear = some ⟨8, ⟨240, 240⟩, false, 0⟩ ∧ 8 ≤ 8)
    ∧ (forBusClearRuns4.inReset = false
        ∧ (forBusClearRuns4.chan .c0).health.busClear = some ⟨8, ⟨240, 240⟩, true, 0⟩ ∧ 8 < 9)
    ∧ (forBusClearRuns5.inReset = false
        ∧ (forBusClearRuns5.chan .c0).health.busClear = some ⟨9, ⟨240, 240⟩, true, 0⟩ ∧ 9 ≤ 9)
    ∧ (forStuckLines8.inReset = false ∧ (forStuckLines8.chan .c0).health.busClear = some ⟨3, ⟨240, 240⟩, true, 0⟩
        ∧ (forStuckLines8.chan .c0).health.stuckD = true ∧ (forStuckLines8.chan .c0).hold.isSome = true
        ∧ (forStuckLines8.chan .c0).exch.isSome = true) := by
  and_intros <;> first | rfl | decide

def forStagingRequests1 : State :=
  working (job .read .read .burst)

theorem test_witness_StagingRequests :
    (Ready live ∧ memWf live.engine.staging = true ∧ ([1] : List Byte) ≠ []
        ∧ (4095#16).toNat + ([1] : List Byte).length ≤ 4096)
    ∧ (Ready live ∧ memWf live.engine.staging = true ∧ ¬ ((4096#16).toNat + ([1] : List Byte).length ≤ 4096))
    ∧ (Ready forStagingRequests1 ∧ memWf forStagingRequests1.engine.staging = true
        ∧ forStagingRequests1.engine.job = some (job .read .read .burst)
        ∧ (job .read .read .burst).staging = some 1024 ∧ (1063#16).toNat < 1024 + 40
        ∧ 1024 < (1063#16).toNat + ([1] : List Byte).length)
    ∧ (Ready live ∧ memWf live.engine.staging = true ∧ (1#16 : Half) ≠ 0 ∧ (1#16).toNat ≤ 480
        ∧ (4095#16).toNat + (1#16).toNat ≤ 4096)
    ∧ (Ready live ∧ memWf live.engine.staging = true ∧ 480 < (481#16).toNat)
    ∧ (Ready live ∧ memWf live.engine.staging = true ∧ 4096 < (4095#16).toNat + (2#16).toNat) := by
  and_intros <;> first | rfl | decide

theorem test_witness_StageCheck :
    (Ready live ∧ (4096#16 : Half) ≠ 0 ∧ (4096#16).toNat ≤ 4096 ∧ (0#16).toNat + (4096#16).toNat ≤ 4096)
    ∧ (4096 < (4097#16).toNat)
    ∧ (4096 < (1#16).toNat + (4096#16).toNat)
    ∧ ((job .check .check .burst).kind = .check ∧ (job .check .check .burst).sumA = 1
        ∧ (job .check .check .burst).sumB = 0) := by
  and_intros <;> first | rfl | decide

def forJobRequests1 : State :=
  with0 fun c => { c with seenFree := false }

def forJobRequests2 : State :=
  working (job .read .ending .burst)

theorem test_witness_JobRequests :
    (Ready live ∧ (256#16).toNat ∈ [1, 2, 4, 8, 16, 32, 64, 128, 256]
        ∧ (61440#16).toNat + (4096#16).toNat ≤ 65536 ∧ (live.chan .c0).mode = .active
        ∧ live.supply.state ≠ .stopping ∧ live.engine.job = none ∧ (live.chan .c0).grantable = true
        ∧ (live.chan .c0).arb.relayWaits = false)
    ∧ (Ready live ∧ live.engine.job = none ∧ (live.chan .c1).mode ≠ .active)
    ∧ (Ready live ∧ ¬ ((65535#16).toNat + (2#16).toNat ≤ 65536))
    ∧ (Ready forJobRequests1 ∧ forJobRequests1.engine.job = none ∧ (forJobRequests1.chan .c0).mode = .active
        ∧ (forJobRequests1.chan .c0).grantable = false)
    ∧ (Ready forStagingRequests1 ∧ forStagingRequests1.engine.job = some (job .read .read .burst)
        ∧ (job .read .read .burst).phase ≠ .ending ∧ (forStagingRequests1.chan .c0).arb.holder = .engine)
    ∧ (Ready forJobRequests2 ∧ forJobRequests2.jobEnding = true) := by
  and_intros <;> first | rfl | decide

/-- A polling job in the STOP of a NACKed probe, and one whose limit is up. -/
def probeNacked : Job := { job .write .poll .probe with probeAck := some .nack }
def pollDue : Job := { job .write .poll .probe with pollTimer := some ⟨10000, 10000⟩ }

def forUnitsEnd1 : State :=
  working (job .write .ending .chunk)

def forUnitsEnd2 : State :=
  working (job .write .poll .probe)

def forUnitsEnd3 : State :=
  working probeNacked

def forUnitsEnd4 : State :=
  working (job .write .verify .burst)

def forUnitsEnd5 : State :=
  working (job .check .check .burst)

def forUnitsEnd6 : State :=
  working pollDue

def forUnitsEnd7 : State :=
  { live with engine := ⟨[], some pollDue, none, [], []⟩ }

theorem test_witness_UnitsEnd :
    (forUnitsEnd1.inReset = false ∧ forUnitsEnd1.engine.job = some (job .write .ending .chunk)
        ∧ (forUnitsEnd1.chan .c0).arb.holder = .engine ∧ (job .write .ending .chunk).phase = .ending
        ∧ (job .write .ending .chunk).unit = .chunk ∧ (job .write .ending .chunk).probeAck = none)
    ∧ (forSetChannel1.inReset = false ∧ forSetChannel1.engine.job = some (job .write .write .chunk)
        ∧ (forSetChannel1.chan .c0).arb.holder = .engine ∧ (job .write .write .chunk).phase ≠ .ending
        ∧ (job .write .write .chunk).endingCause = none ∧ (job .write .write .chunk).unit = .chunk
        ∧ (job .write .write .chunk).probeAck = none)
    ∧ (forUnitsEnd2.inReset = false ∧ forUnitsEnd2.engine.job = some (job .write .poll .probe)
        ∧ (forUnitsEnd2.chan .c0).arb.holder = .engine ∧ (job .write .poll .probe).unit = .probe
        ∧ (job .write .poll .probe).probeAck = none)
    ∧ (forUnitsEnd3.inReset = false ∧ forUnitsEnd3.engine.job = some probeNacked
        ∧ (forUnitsEnd3.chan .c0).arb.holder = .engine ∧ probeNacked.phase ≠ .ending
        ∧ probeNacked.endingCause = none ∧ probeNacked.probeAck = some .nack)
    ∧ (forUnitsEnd4.inReset = false ∧ forUnitsEnd4.engine.job = some (job .write .verify .burst)
        ∧ (forUnitsEnd4.chan .c0).arb.holder = .engine ∧ (job .write .verify .burst).phase ≠ .ending
        ∧ (job .write .verify .burst).endingCause = none ∧ (job .write .verify .burst).unit = .burst
        ∧ (job .write .verify .burst).probeAck = none ∧ (job .write .verify .burst).kind = .write
        ∧ (List.replicate 16 (0xFF : Byte)).length = (job .write .verify .burst).unitLength)
    ∧ (forStagingRequests1.inReset = false ∧ forStagingRequests1.engine.job = some (job .read .read .burst)
        ∧ (forStagingRequests1.chan .c0).arb.holder = .engine ∧ (job .read .read .burst).phase ≠ .ending
        ∧ (job .read .read .burst).endingCause = none ∧ (job .read .read .burst).unit = .burst
        ∧ (job .read .read .burst).kind = .read)
    ∧ (forUnitsEnd5.inReset = false ∧ forUnitsEnd5.engine.job = some (job .check .check .burst)
        ∧ (forUnitsEnd5.chan .c0).arb.holder = .engine ∧ (job .check .check .burst).phase ≠ .ending
        ∧ (job .check .check .burst).endingCause = none ∧ (job .check .check .burst).unit = .burst
        ∧ (job .check .check .burst).kind = .check)
    ∧ (forUnitsEnd6.inReset = false ∧ forUnitsEnd6.engine.job = some pollDue ∧ pollDue.phase = .poll
        ∧ pollDue.endingCause = none ∧ pollDue.pollTimer = some ⟨10000, 10000⟩
        ∧ (forUnitsEnd6.chan .c0).arb.holder = .engine)
    ∧ (forUnitsEnd7.inReset = false ∧ forUnitsEnd7.engine.job = some pollDue
        ∧ (forUnitsEnd7.chan .c0).arb.holder ≠ .engine) := by
  and_intros <;> first | rfl | decide

def forSupplyRequests1 : State :=
  { live with supply := { live.supply with state := .stopping } }

def forSupplyRequests2 : State :=
  { live with supply := { live.supply with state := .tripped, ocsense := true } }

def forSupplyRequests3 : State :=
  { live with supply := { live.supply with state := .tripped } }

def forSupplyRequests4 : State :=
  { live with supply := { live.supply with state := .ramping, settleTimer := some ⟨50000, 50000⟩ } }

theorem test_witness_SupplyRequests :
    (Ready live ∧ ([(1, 1024), (5, 65535)] : List (Byte × Half)) ≠ []
        ∧ (([(1, 1024), (5, 65535)] : List (Byte × Half)).map Prod.fst).Nodup
        ∧ (1024#16).toNat ∈ [16, 64, 256, 1024])
    ∧ ((32#16).toNat ∉ [16, 64, 256, 1024])
    ∧ (Ready State.reset ∧ State.reset.supply.state = .off)
    ∧ (Ready live ∧ live.supply.state = .on)
    ∧ (Ready forSupplyRequests1 ∧ forSupplyRequests1.supply.state = .stopping)
    ∧ (Ready forSupplyRequests2 ∧ forSupplyRequests2.supply.state = .tripped
        ∧ forSupplyRequests2.supply.ocsense = true)
    ∧ (Ready forSupplyRequests3 ∧ forSupplyRequests3.supply.state = .tripped
        ∧ forSupplyRequests3.supply.ocsense = false)
    ∧ (Ready forSupplyRequests4 ∧ forSupplyRequests4.supply.state = .ramping
        ∧ forSupplyRequests4.supply.settleTimer = some ⟨50000, 50000⟩) := by
  and_intros <;> first | rfl | decide

def forStoppingAndTrips1 : State :=
  { live with
      supply := { live.supply with state := .stopping, quiesceTimer := some ⟨50000, 50000⟩, filterTimer := some ⟨63, 64⟩, ocsense := true } }

def forStoppingAndTrips2 : State :=
  { live with
      supply := { live.supply with state := .stopping, quiesceTimer := some ⟨49999, 50000⟩, filterTimer := some ⟨64, 64⟩, ocsense := true } }

theorem test_witness_StoppingAndTrips :
    (Ready live ∧ live.supply.state = .on ∧ (live.chan .c0).exch = none ∧ (live.chan .c0).arb.holder ≠ .relay
        ∧ (live.chan .c1).exch = none ∧ (live.chan .c1).arb.holder ≠ .relay ∧ live.engine.job = none)
    ∧ (Ready forHoldRequests1 ∧ forHoldRequests1.supply.state = .on
        ∧ (forHoldRequests1.chan .c0).hold = some (held .park (.emulate 2) (some 100))
        ∧ (forHoldRequests1.chan .c0).exch = some { exchange .write .forwarded with disposition := none })
    ∧ (Ready forSetChannel1 ∧ forSetChannel1.supply.state = .on
        ∧ forSetChannel1.engine.job = some (job .write .write .chunk) ∧ (job .write .write .chunk).phase ≠ .ending
        ∧ (forSetChannel1.chan .c0).arb.holder = .engine)
    ∧ (forStoppingAndTrips1.inReset = false ∧ forStoppingAndTrips1.supply.state = .stopping
        ∧ forStoppingAndTrips1.engine.job = none ∧ (forStoppingAndTrips1.chan .c0).exch = none
        ∧ (forStoppingAndTrips1.chan .c0).arb.holder ≠ .relay ∧ (forStoppingAndTrips1.chan .c1).exch = none
        ∧ (forStoppingAndTrips1.chan .c1).arb.holder ≠ .relay)
    ∧ (live.supply.state ≠ .stopping ∨ live.engine.job.isSome = true)
    ∧ (forStoppingAndTrips1.supply.quiesceTimer = some ⟨50000, 50000⟩
        ∧ forStoppingAndTrips1.supply.filterTimer = some ⟨63, 64⟩ ∧ 63 < 64)
    ∧ (forStoppingAndTrips2.inReset = false ∧ forStoppingAndTrips2.supply.state = .stopping
        ∧ forStoppingAndTrips2.supply.quiesceTimer = some ⟨49999, 50000⟩
        ∧ forStoppingAndTrips2.supply.filterTimer = some ⟨64, 64⟩)
    ∧ (Ready forSupplyRequests3 ∧ forSupplyRequests3.supply.state = .tripped) := by
  and_intros <;> first | rfl | decide

def forResetLine1 : State :=
  { live with
      supply := { live.supply with claims := ⟨false, true, false, false⟩, pulseTimer := some ⟨10000, 10000⟩ } }

theorem test_witness_ResetLine :
    (Ready live)
    ∧ (forResetLine1.inReset = false ∧ forResetLine1.supply.pulseTimer = some ⟨10000, 10000⟩) := by
  and_intros <;> first | rfl | decide

/-- A write to image 2 that stored a byte. -/
def storing : Exchange := { exchange .write .emulated with onImage := some 2, count := 3, stored := true }

def forExchangeEnds1 : State :=
  inPhase .relayWrite (exchange .write .forwarded)

def forExchangeEnds2 : State :=
  with0 fun c => { c with
      exch := some (exchange .write .forwarded)
      health := { c.health with degraded := true, cleanRun := 63 } }

def forExchangeEnds3 : State :=
  emulating 17 3 0

def forExchangeEnds4 : State :=
  { emulating 17 3 0 with
      images := live.images.set 2 { image2 17 with busyUntil := some 6000 }
      ch0 := { (emulating 17 3 0).ch0 with exch := some storing } }

theorem test_witness_ExchangeEnds :
    ((forExchangeEnds1.chan .c0).exch = some (exchange .write .forwarded) ∧ (EndKind.stop ≠ .aborted
        ∧ (exchange .write .forwarded).misframe = false) ∧ (forExchangeEnds1.chan .c0).health.degraded = false)
    ∧ ((forExchangeEnds2.chan .c0).exch = some (exchange .write .forwarded)
        ∧ (forExchangeEnds2.chan .c0).health.degraded = true ∧ forExchangeEnds2.monitor.recover ≤ 63)
    ∧ ((forExchangeEnds3.chan .c0).exch = some { exchange .write .emulated with onImage := some 2, count := 3 }
        ∧ forExchangeEnds3.images[(2 : Fin 4).val]? = some (image2 17) ∧ (image2 17).writeTime ≠ 0
        ∧ (image2 17).busyUntil = none)
    ∧ ((forExchangeEnds4.chan .c0).exch = some storing ∧ storing.onImage = some 2 ∧ storing.stored = true
        ∧ forExchangeEnds4.images[(2 : Fin 4).val]? = some { image2 17 with busyUntil := some 6000 }
        ∧ 2147483648 ≤ (forExchangeEnds4.tick - 6000).toNat) := by
  and_intros <;> first | rfl | decide

def forConditionsOnTheCSide1 : State :=
  relaying .relayWrite (exchange .write .forwarded) .writeByte

def forConditionsOnTheCSide2 : State :=
  with0 fun c => { c with
      phase := .decide, byteOpen := true, highPhase := true, pull := ⟨⟨true, false⟩, ⟨false, false⟩⟩
      exch := some (exchange .write .forwarded) }

def forConditionsOnTheCSide3 : State :=
  with0 fun c => { c with sync := .unknown }

def forConditionsOnTheCSide4 : State :=
  with0 fun c => { c with dOp := .readAck, phase := .refused }

def forConditionsOnTheCSide5 : State :=
  with0 fun c => { c with
      dOp := .readAck, phase := .refused, arb := ⟨.relay, .relay, false, false⟩
      deferred := [.cond .start false 3], exch := some (exchange .write .forwarded) }

def forConditionsOnTheCSide6 : State :=
  with0 fun c => { c with health := { c.health with stuckC := true }, byteOpen := true }

def forConditionsOnTheCSide7 : State :=
  with0 fun c => { c with
      dOp := .readAck, phase := .refused, arb := ⟨.relay, .relay, false, false⟩, byteOpen := true
      deferred := [.cond .start false 3], exch := some (exchange .write .forwarded) }

def forConditionsOnTheCSide8 : State :=
  with0 fun c => { c with
      phase := .relayWrite, arb := ⟨.relay, .relay, false, false⟩
      exch := some (exchange .write .forwarded), cFree := false }

theorem test_witness_ConditionsOnTheCSide :
    (State.reset.inReset = true ∨ (State.reset.chan .c0).mode = .isolated)
    ∧ (forConditionsOnTheCSide1.inReset = false ∧ (forConditionsOnTheCSide1.chan .c0).mode ≠ .isolated
        ∧ (forConditionsOnTheCSide1.chan .c0).pull.c.clock = true
        ∧ (forConditionsOnTheCSide1.chan .c0).highPhase = false)
    ∧ (forConditionsOnTheCSide2.inReset = false ∧ (forConditionsOnTheCSide2.chan .c0).mode ≠ .isolated
        ∧ (forConditionsOnTheCSide2.chan .c0).highPhase = true ∧ (forConditionsOnTheCSide2.chan .c0).hold = none
        ∧ (forConditionsOnTheCSide2.chan .c0).sync = .synced
        ∧ (forConditionsOnTheCSide2.chan .c0).health.stuckC = false
        ∧ (forConditionsOnTheCSide2.chan .c0).deferred = [] ∧ (forConditionsOnTheCSide2.chan .c0).byteOpen = true)
    ∧ (forConditionsOnTheCSide3.inReset = false ∧ (forConditionsOnTheCSide3.chan .c0).mode ≠ .isolated
        ∧ (forConditionsOnTheCSide3.chan .c0).pull.c.clock = false
        ∧ (forConditionsOnTheCSide3.chan .c0).sync ≠ .synced)
    ∧ (forConditionsOnTheCSide4.inReset = false ∧ (forConditionsOnTheCSide4.chan .c0).mode ≠ .isolated
        ∧ (forConditionsOnTheCSide4.chan .c0).pull.c.clock = false
        ∧ (forConditionsOnTheCSide4.chan .c0).sync = .synced
        ∧ (forConditionsOnTheCSide4.chan .c0).health.stuckC = false
        ∧ (forConditionsOnTheCSide4.chan .c0).dOp = .readAck ∧ (forConditionsOnTheCSide4.chan .c0).byteOpen = false)
    ∧ (forConditionsOnTheCSide5.inReset = false ∧ (forConditionsOnTheCSide5.chan .c0).mode ≠ .isolated
        ∧ (forConditionsOnTheCSide5.chan .c0).pull.c.clock = false
        ∧ (forConditionsOnTheCSide5.chan .c0).sync = .synced
        ∧ (forConditionsOnTheCSide5.chan .c0).health.stuckC = false
        ∧ (forConditionsOnTheCSide5.chan .c0).deferred ≠ [])
    ∧ (live.inReset = false ∧ (live.chan .c0).mode ≠ .isolated ∧ (live.chan .c0).pull.c.clock = false
        ∧ (live.chan .c0).sync = .synced ∧ (live.chan .c0).health.stuckC = false ∧ (live.chan .c0).deferred = []
        ∧ (live.chan .c0).dOp ≠ .readAck)
    ∧ (forConditionsOnTheCSide6.inReset = false ∧ (forConditionsOnTheCSide6.chan .c0).mode ≠ .isolated
        ∧ (forConditionsOnTheCSide6.chan .c0).pull.c.clock = false
        ∧ (forConditionsOnTheCSide6.chan .c0).sync = .synced
        ∧ (forConditionsOnTheCSide6.chan .c0).health.stuckC = true
        ∧ (forConditionsOnTheCSide6.chan .c0).byteOpen = true)
    ∧ (forConditionsOnTheCSide7.inReset = false ∧ (forConditionsOnTheCSide7.chan .c0).mode ≠ .isolated
        ∧ (forConditionsOnTheCSide7.chan .c0).pull.c.clock = false
        ∧ (forConditionsOnTheCSide7.chan .c0).sync = .synced
        ∧ (forConditionsOnTheCSide7.chan .c0).health.stuckC = false
        ∧ (forConditionsOnTheCSide7.chan .c0).deferred ≠ [] ∧ (forConditionsOnTheCSide7.chan .c0).byteOpen = true)
    ∧ (forConditionsOnTheCSide8.inReset = false ∧ (forConditionsOnTheCSide8.chan .c0).mode ≠ .isolated
        ∧ (forConditionsOnTheCSide8.chan .c0).pull.c.clock = false
        ∧ (forConditionsOnTheCSide8.chan .c0).sync = .synced
        ∧ (forConditionsOnTheCSide8.chan .c0).health.stuckC = false
        ∧ (forConditionsOnTheCSide8.chan .c0).deferred = [] ∧ (forConditionsOnTheCSide8.chan .c0).dOp = .idle
        ∧ (forConditionsOnTheCSide8.chan .c0).relayOpen = true
        ∧ (forConditionsOnTheCSide8.chan .c0).byteOpen = false ∧ (forConditionsOnTheCSide8.chan .c0).cFree = false) := by
  and_intros <;> first | rfl | decide

def forAddressByteDecided1 : State :=
  with0 fun c => { c with
      phase := .address, dOp := .closing true, arb := ⟨.relay, .relay, false, false⟩
      settings := { c.settings with defaultAction := .deny } }

def forAddressByteDecided2 : State :=
  with0 fun c => { c with phase := .address }

def forAddressByteDecided3 : State :=
  with0 fun c => { c with phase := .address, arb := ⟨.relay, .relay, false, false⟩, park := true }

def forAddressByteDecided4 : State :=
  { live with
      ch0 := { chanIn .active with phase := .address }, supply := { live.supply with state := .stopping } }

def forAddressByteDecided5 : State :=
  { live with ch0 := { chanIn .monitor with phase := .observing } }

def forAddressByteDecided6 : State :=
  { live with ch0 := { chanIn .active with phase := .address }, rules := [⟨holdEntry, none, 0, 0, 0⟩] }

def forAddressByteDecided7 : State :=
  with0 fun c => { c with health := { c.health with stuckC := true } }

theorem test_witness_AddressByteDecided :
    (forConditionsOnTheCSide5.inReset = false ∧ (forConditionsOnTheCSide5.chan .c0).sync = .synced
        ∧ (forConditionsOnTheCSide5.chan .c0).health.stuckC = false
        ∧ (forConditionsOnTheCSide5.chan .c0).byteOpen = false ∧ (forConditionsOnTheCSide5.chan .c0).mode = .active
        ∧ (forConditionsOnTheCSide5.chan .c0).deferred = [] ++ [.cond .start false 3])
    ∧ (forAddressByteDecided1.inReset = false ∧ (forAddressByteDecided1.chan .c0).sync = .synced
        ∧ (forAddressByteDecided1.chan .c0).health.stuckC = false
        ∧ (forAddressByteDecided1.chan .c0).byteOpen = false ∧ (forAddressByteDecided1.chan .c0).exch = none
        ∧ (forAddressByteDecided1.chan .c0).deferred = [] ∧ (forAddressByteDecided1.chan .c0).mode = .active
        ∧ (forAddressByteDecided1.chan .c0).phase = .address ∧ forAddressByteDecided1.supply.state ≠ .stopping
        ∧ (forAddressByteDecided1.chan .c0).dOp = .closing true
        ∧ (forAddressByteDecided1.chan .c0).settings.defaultAction = .deny)
    ∧ (forAddressByteDecided2.inReset = false ∧ (forAddressByteDecided2.chan .c0).sync = .synced
        ∧ (forAddressByteDecided2.chan .c0).health.stuckC = false
        ∧ (forAddressByteDecided2.chan .c0).byteOpen = false ∧ (forAddressByteDecided2.chan .c0).exch = none
        ∧ (forAddressByteDecided2.chan .c0).deferred = [] ∧ (forAddressByteDecided2.chan .c0).mode = .active
        ∧ (forAddressByteDecided2.chan .c0).phase = .address ∧ forAddressByteDecided2.supply.state ≠ .stopping
        ∧ (forAddressByteDecided2.chan .c0).relayOpen = false)
    ∧ (forAddressByteDecided3.inReset = false ∧ (forAddressByteDecided3.chan .c0).sync = .synced
        ∧ (forAddressByteDecided3.chan .c0).health.stuckC = false
        ∧ (forAddressByteDecided3.chan .c0).byteOpen = false ∧ (forAddressByteDecided3.chan .c0).exch = none
        ∧ (forAddressByteDecided3.chan .c0).deferred = [] ∧ (forAddressByteDecided3.chan .c0).mode = .active
        ∧ (forAddressByteDecided3.chan .c0).phase = .address ∧ forAddressByteDecided3.supply.state ≠ .stopping
        ∧ (forAddressByteDecided3.chan .c0).relayOpen = true ∧ (forAddressByteDecided3.chan .c0).park = true)
    ∧ (forAddressByteDecided4.inReset = false ∧ (forAddressByteDecided4.chan .c0).sync = .synced
        ∧ (forAddressByteDecided4.chan .c0).health.stuckC = false
        ∧ (forAddressByteDecided4.chan .c0).byteOpen = false ∧ (forAddressByteDecided4.chan .c0).exch = none
        ∧ (forAddressByteDecided4.chan .c0).deferred = [] ∧ (forAddressByteDecided4.chan .c0).mode = .active
        ∧ (forAddressByteDecided4.chan .c0).phase = .address ∧ forAddressByteDecided4.supply.state = .stopping)
    ∧ (forAddressByteDecided5.inReset = false ∧ (forAddressByteDecided5.chan .c0).sync = .synced
        ∧ (forAddressByteDecided5.chan .c0).health.stuckC = false
        ∧ (forAddressByteDecided5.chan .c0).byteOpen = false ∧ (forAddressByteDecided5.chan .c0).exch = none
        ∧ (forAddressByteDecided5.chan .c0).deferred = [] ∧ (forAddressByteDecided5.chan .c0).mode = .monitor
        ∧ (forAddressByteDecided5.chan .c0).phase = .observing)
    ∧ (forAddressByteDecided6.inReset = false ∧ (forAddressByteDecided6.chan .c0).sync = .synced
        ∧ (forAddressByteDecided6.chan .c0).health.stuckC = false
        ∧ (forAddressByteDecided6.chan .c0).byteOpen = false ∧ (forAddressByteDecided6.chan .c0).exch = none
        ∧ (forAddressByteDecided6.chan .c0).deferred = [] ∧ (forAddressByteDecided6.chan .c0).mode = .active
        ∧ (forAddressByteDecided6.chan .c0).phase = .address ∧ forAddressByteDecided6.supply.state ≠ .stopping
        ∧ (forAddressByteDecided6.chan .c0).relayOpen = false
        ∧ (scanFrom (addressCandidate .c0 80 .write) 0 forAddressByteDecided6.rules).winner = some (0, holdEntry)
        ∧ (holdEntry.head.map fun h => h.trigger) = some false)
    ∧ (forAddressByteDecided7.inReset = false ∧ (forAddressByteDecided7.chan .c0).sync = .synced
        ∧ (forAddressByteDecided7.chan .c0).byteOpen = false
        ∧ (forAddressByteDecided7.chan .c0).health.stuckC = true
        ∧ (forAddressByteDecided7.chan .c0).mode ≠ .isolated
        ∧ (forAddressByteDecided7.chan .c0).pull.c.clock = false) := by
  and_intros <;> first | rfl | decide

def forRelayOperations1 : State :=
  with0 fun c => { c with
      phase := .grantWait, grantWait := some ⟨35000, 35000⟩, exch := some (exchange .write .forwarded)
      seenFree := false }

def forRelayOperations2 : State :=
  with0 fun c => { c with arb := ⟨.none, .engine, true, false⟩ }

def forRelayOperations3 : State :=
  { working (job .write .write .chunk) with ch0 := { chanIn .active with arb := ⟨.none, .relay, true, true⟩ } }

def forRelayOperations4 : State :=
  relaying .dAddress (exchange .write .forwarded) .address

def forRelayOperations5 : State :=
  relaying .relayRead (exchange .read .forwarded) .readByte

def forRelayOperations6 : State :=
  relaying .relayRead (exchange .read .forwarded) .readAck

def forRelayOperations7 : State :=
  with0 fun c => { c with
      dOp := .readAck, arb := ⟨.relay, .relay, false, false⟩, deferred := [.cond .stop false 3]
      exch := some (exchange .write .forwarded) }

def forRelayOperations8 : State :=
  with0 fun c => { c with
      dOp := .readAck, phase := .refused, arb := ⟨.relay, .relay, false, false⟩
      deferred := [.cond .start false 3, .cond .stop true 4], exch := some (exchange .write .forwarded) }

def forRelayOperations9 : State :=
  with0 fun c => { c with
      dOp := .readAck, phase := .refused, arb := ⟨.relay, .relay, false, false⟩
      deferred := [.cond .start false 3, .address 0x90], byteOpen := true
      exch := some (exchange .write .forwarded) }

theorem test_witness_RelayOperations :
    (forRelayOperations1.inReset = false ∧ (forRelayOperations1.chan .c0).phase = .grantWait
        ∧ (forRelayOperations1.chan .c0).grantWait = some ⟨35000, 35000⟩
        ∧ (forRelayOperations1.chan .c0).grantLimitTaken = false
        ∧ (forRelayOperations1.chan .c0).exch = some (exchange .write .forwarded))
    ∧ (forRelayOperations2.inReset = false ∧ (forRelayOperations2.chan .c0).grantable = true
        ∧ (forRelayOperations2.chan .c0).arb.relayWaits = true
        ∧ (forRelayOperations2.chan .c0).arb.engineWaits = false)
    ∧ (forRelayOperations3.inReset = false ∧ (forRelayOperations3.chan .c0).grantable = true
        ∧ (forRelayOperations3.chan .c0).arb.engineWaits = true ∧ (forRelayOperations3.chan .c0).arb.last = .relay
        ∧ forRelayOperations3.engine.job = some (job .write .write .chunk))
    ∧ (live.inReset = false ∧ (live.chan .c0).grantable = true ∧ (live.chan .c0).arb.relayWaits = false
        ∧ (live.chan .c0).arb.engineWaits = false)
    ∧ (State.reset.inReset = false ∧ (State.reset.chan .c0).grantable = false)
    ∧ (forRelayOperations4.inReset = false
        ∧ (forRelayOperations4.chan .c0).exch = some (exchange .write .forwarded)
        ∧ (forRelayOperations4.chan .c0).arb.holder = .relay ∧ (forRelayOperations4.chan .c0).dOp = .address)
    ∧ (forConditionsOnTheCSide1.inReset = false ∧ (forConditionsOnTheCSide1.chan .c0).arb.holder = .relay
        ∧ (forConditionsOnTheCSide1.chan .c0).dOp = .writeByte)
    ∧ (forRelayOperations5.inReset = false ∧ (forRelayOperations5.chan .c0).arb.holder = .relay
        ∧ (forRelayOperations5.chan .c0).dOp = .readByte)
    ∧ (forRelayOperations6.inReset = false ∧ (forRelayOperations6.chan .c0).arb.holder = .relay
        ∧ (forRelayOperations6.chan .c0).dOp = .readAck ∧ (forRelayOperations6.chan .c0).deferred = [])
    ∧ (forRelayOperations7.inReset = false ∧ (forRelayOperations7.chan .c0).arb.holder = .relay
        ∧ (forRelayOperations7.chan .c0).dOp = .readAck
        ∧ (forRelayOperations7.chan .c0).deferred = [.cond .stop false 3])
    ∧ (forRelayOperations8.inReset = false ∧ (forRelayOperations8.chan .c0).arb.holder = .relay
        ∧ (forRelayOperations8.chan .c0).dOp = .readAck
        ∧ (forRelayOperations8.chan .c0).deferred = [.cond .start false 3, .cond .stop true 4])
    ∧ (forRelayOperations9.inReset = false ∧ (forRelayOperations9.chan .c0).arb.holder = .relay
        ∧ (forRelayOperations9.chan .c0).dOp = .readAck
        ∧ (forRelayOperations9.chan .c0).deferred = [.cond .start false 3, .address 0x90]) := by
  and_intros <;> rfl

/-- An exchange past its first byte. -/
def later : Exchange := { exchange .write .forwarded with count := 1 }

/-- A write observed under CONSOLE, past its first byte. -/
def text : Exchange := { exchange .write .observed with action := some .console, count := 1 }

def forDataBytes1 : State :=
  with0 fun c => { c with phase := .refused }

def forDataBytes2 : State :=
  with0 fun c => { c with phase := .refused, ext := ⟨⟨true, true⟩, ⟨false, false⟩⟩ }

def forDataBytes3 : State :=
  with0 fun c => { c with phase := .refused, ext := ⟨⟨true, true⟩, ⟨false, false⟩⟩, dataTold := true }

def forDataBytes4 : State :=
  inPhase .relayRead (exchange .read .forwarded)

def forDataBytes5 : State :=
  { live with ch0 := { chanIn .monitor with phase := .observing, exch := some (exchange .write .forwarded) } }

def forDataBytes6 : State :=
  inPhase .relayWrite later

def forDataBytes7 : State :=
  { inPhase .relayWrite (exchange .write .forwarded) with rules := [⟨indexEntry, none, 0, 0, 0⟩] }

def forDataBytes8 : State :=
  { inPhase .relayWrite (exchange .write .forwarded) with rules := [⟨denyEntry, none, 0, 0, 0⟩] }

def forDataBytes9 : State :=
  inPhase .localAnswer later

theorem test_witness_DataBytes :
    (forDataBytes1.inReset = false ∧ (forDataBytes1.chan .c0).sync = .synced
        ∧ (forDataBytes1.chan .c0).health.stuckC = false ∧ (forDataBytes1.chan .c0).mode ≠ .isolated
        ∧ (forDataBytes1.chan .c0).byteOpen = false ∧ (forDataBytes1.chan .c0).pull.c.clock = false
        ∧ (forDataBytes1.chan .c0).deferred = [] ∧ (forDataBytes1.chan .c0).phase = .refused
        ∧ (forDataBytes1.chan .c0).exch = none)
    ∧ (forDataBytes2.inReset = false ∧ (forDataBytes2.chan .c0).sync = .synced
        ∧ (forDataBytes2.chan .c0).health.stuckC = false ∧ (forDataBytes2.chan .c0).mode ≠ .isolated
        ∧ (forDataBytes2.chan .c0).byteOpen = false ∧ (forDataBytes2.chan .c0).pull.c.clock = false
        ∧ (forDataBytes2.chan .c0).deferred = [] ∧ (forDataBytes2.chan .c0).phase = .refused
        ∧ (forDataBytes2.chan .c0).exch = none ∧ ((0 : Byte) &&& (forDataBytes2.chan .c0).giving.getD 0xFF) = 0
        ∧ (forDataBytes2.chan .c0).giving = none ∧ (forDataBytes2.chan .c0).pull.c.data = false
        ∧ (forDataBytes2.chan .c0).ext.c.data = true ∧ (forDataBytes2.chan .c0).hold = none)
    ∧ (forDataBytes3.inReset = false ∧ (forDataBytes3.chan .c0).sync = .synced
        ∧ (forDataBytes3.chan .c0).health.stuckC = false ∧ (forDataBytes3.chan .c0).mode ≠ .isolated
        ∧ (forDataBytes3.chan .c0).byteOpen = false ∧ (forDataBytes3.chan .c0).pull.c.clock = false
        ∧ (forDataBytes3.chan .c0).deferred = [] ∧ (forDataBytes3.chan .c0).phase = .refused
        ∧ (forDataBytes3.chan .c0).exch = none ∧ (forDataBytes3.chan .c0).dataTold = true
        ∧ ((0x80 : Byte) &&& (forDataBytes3.chan .c0).giving.getD 0xFF).getLsbD 0 = false
        ∧ (forDataBytes3.chan .c0).giving = none ∧ (forDataBytes3.chan .c0).pull.c.data = false
        ∧ (forDataBytes3.chan .c0).ext.c.data = true ∧ (forDataBytes3.chan .c0).hold = none)
    ∧ (forExchangeEnds1.inReset = false ∧ (forExchangeEnds1.chan .c0).sync = .synced
        ∧ (forExchangeEnds1.chan .c0).health.stuckC = false ∧ (forExchangeEnds1.chan .c0).mode ≠ .isolated
        ∧ (forExchangeEnds1.chan .c0).byteOpen = false ∧ (forExchangeEnds1.chan .c0).pull.c.clock = false
        ∧ (forExchangeEnds1.chan .c0).deferred = []
        ∧ (forExchangeEnds1.chan .c0).exch = some (exchange .write .forwarded)
        ∧ (forExchangeEnds1.chan .c0).phase = .relayWrite ∧ (exchange .write .forwarded).count = 0)
    ∧ (forDataBytes4.inReset = false ∧ (forDataBytes4.chan .c0).sync = .synced
        ∧ (forDataBytes4.chan .c0).health.stuckC = false ∧ (forDataBytes4.chan .c0).mode ≠ .isolated
        ∧ (forDataBytes4.chan .c0).byteOpen = false ∧ (forDataBytes4.chan .c0).pull.c.clock = false
        ∧ (forDataBytes4.chan .c0).deferred = [] ∧ (forDataBytes4.chan .c0).exch = some (exchange .read .forwarded)
        ∧ (forDataBytes4.chan .c0).phase = .relayRead)
    ∧ (forDataBytes5.inReset = false ∧ (forDataBytes5.chan .c0).sync = .synced
        ∧ (forDataBytes5.chan .c0).health.stuckC = false ∧ (forDataBytes5.chan .c0).mode ≠ .isolated
        ∧ (forDataBytes5.chan .c0).byteOpen = false ∧ (forDataBytes5.chan .c0).pull.c.clock = false
        ∧ (forDataBytes5.chan .c0).deferred = [] ∧ (forDataBytes5.chan .c0).exch = some (exchange .write .forwarded)
        ∧ (forDataBytes5.chan .c0).phase = .observing ∧ (exchange .write .forwarded).count = 0
        ∧ (exchange .write .forwarded).direction = .write ∧ (exchange .write .forwarded).action = some .forward)
    ∧ (forDataBytes6.inReset = false ∧ (forDataBytes6.chan .c0).sync = .synced
        ∧ (forDataBytes6.chan .c0).health.stuckC = false ∧ (forDataBytes6.chan .c0).mode ≠ .isolated
        ∧ (forDataBytes6.chan .c0).byteOpen = false ∧ (forDataBytes6.chan .c0).pull.c.clock = false
        ∧ (forDataBytes6.chan .c0).deferred = [] ∧ (forDataBytes6.chan .c0).exch = some later
        ∧ (forDataBytes6.chan .c0).phase = .relayWrite ∧ later.count ≠ 0)
    ∧ (forDataBytes7.inReset = false ∧ (forDataBytes7.chan .c0).sync = .synced
        ∧ (forDataBytes7.chan .c0).health.stuckC = false ∧ (forDataBytes7.chan .c0).mode ≠ .isolated
        ∧ (forDataBytes7.chan .c0).byteOpen = false ∧ (forDataBytes7.chan .c0).pull.c.clock = false
        ∧ (forDataBytes7.chan .c0).deferred = [] ∧ (forDataBytes7.chan .c0).exch = some (exchange .write .forwarded)
        ∧ (forDataBytes7.chan .c0).phase = .relayWrite ∧ (exchange .write .forwarded).count = 0
        ∧ (scanFrom (indexCandidate .c0 80 0x20) 0 forDataBytes7.rules).winner = some (0, indexEntry))
    ∧ (forDataBytes8.inReset = false ∧ (forDataBytes8.chan .c0).sync = .synced
        ∧ (forDataBytes8.chan .c0).health.stuckC = false ∧ (forDataBytes8.chan .c0).mode ≠ .isolated
        ∧ (forDataBytes8.chan .c0).byteOpen = false ∧ (forDataBytes8.chan .c0).pull.c.clock = false
        ∧ (forDataBytes8.chan .c0).deferred = [] ∧ (forDataBytes8.chan .c0).exch = some (exchange .write .forwarded)
        ∧ (forDataBytes8.chan .c0).phase = .relayWrite ∧ (exchange .write .forwarded).count = 0
        ∧ (scanFrom (indexCandidate .c0 80 0x20) 0 forDataBytes8.rules).winner = some (0, denyEntry)
        ∧ (denyEntry.head.map fun h => h.trigger) = some false)
    ∧ (forDataBytes9.inReset = false ∧ (forDataBytes9.chan .c0).sync = .synced
        ∧ (forDataBytes9.chan .c0).health.stuckC = false ∧ (forDataBytes9.chan .c0).mode ≠ .isolated
        ∧ (forDataBytes9.chan .c0).byteOpen = false ∧ (forDataBytes9.chan .c0).pull.c.clock = false
        ∧ (forDataBytes9.chan .c0).deferred = [] ∧ (forDataBytes9.chan .c0).exch = some later
        ∧ (forDataBytes9.chan .c0).phase = .localAnswer ∧ later.direction = .write ∧ later.count ≠ 0) := by
  and_intros <;> first | rfl | decide

def forAcknowledgeBits1 : State :=
  with0 fun c => { c with phase := .refused, byteOpen := true, ext := ⟨⟨true, true⟩, ⟨false, false⟩⟩ }

def forAcknowledgeBits2 : State :=
  with0 fun c => { c with phase := .refused, byteOpen := true }

def forAcknowledgeBits3 : State :=
  emulating 17 2 0xA2

def forAcknowledgeBits4 : State :=
  emulating 18 2 0xA3

def forAcknowledgeBits5 : State :=
  with0 fun c => { c with phase := .relayRead, exch := some (exchange .read .forwarded), byteOpen := true }

def forAcknowledgeBits6 : State :=
  with0 fun c => { c with phase := .observing, exch := some later, byteOpen := true }

def forAcknowledgeBits7 : State :=
  with0 fun c => { c with phase := .observing, exch := some text, byteOpen := true, curByte := 0x0A }

def forAcknowledgeBits8 : State :=
  with0 fun c => { c with phase := .relayWrite, exch := some later, byteOpen := true }

theorem test_witness_AcknowledgeBits :
    (forAcknowledgeBits1.inReset = false ∧ (forAcknowledgeBits1.chan .c0).sync = .synced
        ∧ (forAcknowledgeBits1.chan .c0).health.stuckC = false ∧ (forAcknowledgeBits1.chan .c0).mode ≠ .isolated
        ∧ (forAcknowledgeBits1.chan .c0).byteOpen = true ∧ (forAcknowledgeBits1.chan .c0).pull.c.clock = false
        ∧ (forAcknowledgeBits1.chan .c0).exch = none ∧ (forAcknowledgeBits1.chan .c0).pull.c.data = false
        ∧ (forAcknowledgeBits1.chan .c0).ext.c.data = true ∧ (forAcknowledgeBits1.chan .c0).hold = none)
    ∧ (forAcknowledgeBits2.inReset = false ∧ (forAcknowledgeBits2.chan .c0).sync = .synced
        ∧ (forAcknowledgeBits2.chan .c0).health.stuckC = false ∧ (forAcknowledgeBits2.chan .c0).mode ≠ .isolated
        ∧ (forAcknowledgeBits2.chan .c0).byteOpen = true ∧ (forAcknowledgeBits2.chan .c0).pull.c.clock = false
        ∧ (forAcknowledgeBits2.chan .c0).exch = none)
    ∧ (forAcknowledgeBits3.inReset = false ∧ (forAcknowledgeBits3.chan .c0).sync = .synced
        ∧ (forAcknowledgeBits3.chan .c0).health.stuckC = false ∧ (forAcknowledgeBits3.chan .c0).mode ≠ .isolated
        ∧ (forAcknowledgeBits3.chan .c0).byteOpen = true ∧ (forAcknowledgeBits3.chan .c0).pull.c.clock = false
        ∧ (forAcknowledgeBits3.chan .c0).exch = some { exchange .write .emulated with onImage := some 2, count := 2 }
        ∧ forAcknowledgeBits3.images[(2 : Fin 4).val]? = some (image2 17)
        ∧ (forAcknowledgeBits3.chan .c0).phase = .localAnswer
        ∧ (image2 17).protect.getLsbD (image2 17).pointer = false)
    ∧ (forAcknowledgeBits4.inReset = false ∧ (forAcknowledgeBits4.chan .c0).sync = .synced
        ∧ (forAcknowledgeBits4.chan .c0).health.stuckC = false ∧ (forAcknowledgeBits4.chan .c0).mode ≠ .isolated
        ∧ (forAcknowledgeBits4.chan .c0).byteOpen = true ∧ (forAcknowledgeBits4.chan .c0).pull.c.clock = false
        ∧ (forAcknowledgeBits4.chan .c0).exch = some { exchange .write .emulated with onImage := some 2, count := 2 }
        ∧ forAcknowledgeBits4.images[(2 : Fin 4).val]? = some (image2 18)
        ∧ (forAcknowledgeBits4.chan .c0).phase = .localAnswer
        ∧ (image2 18).protect.getLsbD (image2 18).pointer = true)
    ∧ (forAcknowledgeBits5.inReset = false ∧ (forAcknowledgeBits5.chan .c0).sync = .synced
        ∧ (forAcknowledgeBits5.chan .c0).health.stuckC = false ∧ (forAcknowledgeBits5.chan .c0).mode ≠ .isolated
        ∧ (forAcknowledgeBits5.chan .c0).byteOpen = true ∧ (forAcknowledgeBits5.chan .c0).pull.c.clock = false
        ∧ (forAcknowledgeBits5.chan .c0).exch = some (exchange .read .forwarded)
        ∧ (exchange .read .forwarded).count = 0 ∧ (forAcknowledgeBits5.chan .c0).phase = .relayRead)
    ∧ (forAcknowledgeBits6.inReset = false ∧ (forAcknowledgeBits6.chan .c0).sync = .synced
        ∧ (forAcknowledgeBits6.chan .c0).health.stuckC = false ∧ (forAcknowledgeBits6.chan .c0).mode ≠ .isolated
        ∧ (forAcknowledgeBits6.chan .c0).byteOpen = true ∧ (forAcknowledgeBits6.chan .c0).pull.c.clock = false
        ∧ (forAcknowledgeBits6.chan .c0).exch = some later ∧ later.count ≠ 0
        ∧ (forAcknowledgeBits6.chan .c0).phase = .observing ∧ (forAcknowledgeBits6.chan .c0).noted = false)
    ∧ (forAcknowledgeBits7.inReset = false ∧ (forAcknowledgeBits7.chan .c0).sync = .synced
        ∧ (forAcknowledgeBits7.chan .c0).health.stuckC = false ∧ (forAcknowledgeBits7.chan .c0).mode ≠ .isolated
        ∧ (forAcknowledgeBits7.chan .c0).byteOpen = true ∧ (forAcknowledgeBits7.chan .c0).pull.c.clock = false
        ∧ (forAcknowledgeBits7.chan .c0).exch = some text ∧ text.count ≠ 0
        ∧ (forAcknowledgeBits7.chan .c0).phase = .observing ∧ text.action = some .console ∧ text.direction = .write
        ∧ (forAcknowledgeBits7.chan .c0).curByte = 0x0A)
    ∧ (forAcknowledgeBits8.inReset = false ∧ (forAcknowledgeBits8.chan .c0).sync = .synced
        ∧ (forAcknowledgeBits8.chan .c0).health.stuckC = false ∧ (forAcknowledgeBits8.chan .c0).mode ≠ .isolated
        ∧ (forAcknowledgeBits8.chan .c0).byteOpen = true ∧ (forAcknowledgeBits8.chan .c0).pull.c.clock = false
        ∧ (forAcknowledgeBits8.chan .c0).exch = some later ∧ later.count ≠ 0
        ∧ (forAcknowledgeBits8.chan .c0).phase = .relayWrite) := by
  and_intros <;> first | rfl | decide

def forDSideFails1 : State :=
  with0 fun c => { c with
      dOp := .stop true, arb := ⟨.relay, .relay, false, false⟩, nextAct := some (.apply (.emulate 1))
      exch := some (exchange .write .forwarded) }

def forDSideFails2 : State :=
  with0 fun c => { c with
      dOp := .stop true, arb := ⟨.relay, .relay, false, false⟩
      nextAct := some (.hold .park .forward .planned), exch := some (exchange .write .forwarded)
      pull := ⟨⟨true, false⟩, ⟨false, false⟩⟩ }

def forDSideFails3 : State :=
  with0 fun c => { c with
      dOp := .closing true, arb := ⟨.relay, .relay, false, false⟩, nextAct := some (.apply (.emulate 1))
      exch := some (exchange .write .forwarded) }

def forDSideFails4 : State :=
  with0 fun c => { c with
      dOp := .closing true, arb := ⟨.relay, .relay, false, false⟩
      nextAct := some (.hold .park .forward .planned), exch := some (exchange .write .forwarded)
      pull := ⟨⟨true, false⟩, ⟨false, false⟩⟩ }

def forDSideFails5 : State :=
  with0 fun c => { c with
      phase := .grantWait, grantLimitTaken := true, dOp := .closing true
      arb := ⟨.relay, .relay, false, false⟩, exch := some (exchange .write .forwarded) }

def forDSideFails6 : State :=
  relaying .refused (exchange .write .forwarded) (.closing false)

def forDSideFails7 : State :=
  with0 fun c => { c with
      phase := .decide, dOp := .closing true, arb := ⟨.relay, .relay, false, false⟩
      exch := some (exchange .write .forwarded) }

def forDSideFails8 : State :=
  relaying .localAnswer (exchange .write .console) (.stop false)

def forDSideFails9 : State :=
  { working probeNacked with ch0 := { (working probeNacked).ch0 with dOp := .closing false } }

def forDSideFails10 : State :=
  { working (job .write .ending .chunk) with
      ch0 := { (working (job .write .ending .chunk)).ch0 with meters := { Meters.stopped with dStretch := dueTimer }, health := { Health.reset with stuckD := true } } }

def forDSideFails11 : State :=
  { working (job .write .write .chunk) with
      ch0 := { (working (job .write .write .chunk)).ch0 with meters := { Meters.stopped with dStretch := dueTimer } } }

def forDSideFails12 : State :=
  with0 fun c => { c with
      health := { c.health with busClear := some ⟨3, c.plan, false, 0⟩ }
      meters := { c.meters with dStretch := dueTimer } }

def forDSideFails13 : State :=
  with0 fun c => { c with
      dOp := .writeByte, arb := ⟨.relay, .relay, false, false⟩, exch := some (exchange .write .forwarded)
      meters := { c.meters with dStretch := dueTimer } }

theorem test_witness_DSideFails :
    (forDSideFails1.inReset = false ∧ (forDSideFails1.chan .c0).arb.holder = .relay
        ∧ (forDSideFails1.chan .c0).dOp = .stop true
        ∧ (forDSideFails1.chan .c0).exch = some (exchange .write .forwarded)
        ∧ (forDSideFails1.chan .c0).nextAct = some (.apply (.emulate 1)) ∧ Planned.emulate 1 ≠ .forward)
    ∧ (forDSideFails2.inReset = false ∧ (forDSideFails2.chan .c0).arb.holder = .relay
        ∧ (forDSideFails2.chan .c0).dOp = .stop true
        ∧ (forDSideFails2.chan .c0).exch = some (exchange .write .forwarded)
        ∧ (forDSideFails2.chan .c0).nextAct = some (.hold .park .forward .planned) ∧ HoldOrigin.park.atIndex = false
        ∧ (forDSideFails2.chan .c0).pull.c = ⟨true, false⟩)
    ∧ (forDSideFails3.inReset = false ∧ (forDSideFails3.chan .c0).arb.holder = .relay
        ∧ (forDSideFails3.chan .c0).dOp = .closing true
        ∧ (forDSideFails3.chan .c0).exch = some (exchange .write .forwarded)
        ∧ (forDSideFails3.chan .c0).nextAct = some (.apply (.emulate 1)) ∧ Planned.emulate 1 ≠ .forward)
    ∧ (forDSideFails4.inReset = false ∧ (forDSideFails4.chan .c0).arb.holder = .relay
        ∧ (forDSideFails4.chan .c0).dOp = .closing true
        ∧ (forDSideFails4.chan .c0).exch = some (exchange .write .forwarded)
        ∧ (forDSideFails4.chan .c0).nextAct = some (.hold .park .forward .planned) ∧ HoldOrigin.park.atIndex = false
        ∧ (forDSideFails4.chan .c0).pull.c = ⟨true, false⟩)
    ∧ (forDSideFails5.inReset = false ∧ (forDSideFails5.chan .c0).arb.holder = .relay
        ∧ (forDSideFails5.chan .c0).dOp = .closing true ∧ (forDSideFails5.chan .c0).nextAct = none
        ∧ (forDSideFails5.chan .c0).phase = .grantWait ∧ (forDSideFails5.chan .c0).grantLimitTaken = true
        ∧ (forDSideFails5.chan .c0).exch = some (exchange .write .forwarded))
    ∧ (forConditionsOnTheCSide5.inReset = false ∧ (forConditionsOnTheCSide5.chan .c0).arb.holder = .relay
        ∧ (forConditionsOnTheCSide5.chan .c0).dOp ≠ .idle ∧ (forConditionsOnTheCSide5.chan .c0).deferred ≠ [])
    ∧ (forDSideFails6.inReset = false ∧ (forDSideFails6.chan .c0).arb.holder = .relay
        ∧ (forDSideFails6.chan .c0).dOp = .closing false ∧ (forDSideFails6.chan .c0).nextAct = none
        ∧ (forDSideFails6.chan .c0).phase ≠ .grantWait)
    ∧ (forConditionsOnTheCSide1.inReset = false ∧ (forConditionsOnTheCSide1.chan .c0).arb.holder = .relay
        ∧ (forConditionsOnTheCSide1.chan .c0).dOp = .writeByte
        ∧ (forConditionsOnTheCSide1.chan .c0).exch = some (exchange .write .forwarded)
        ∧ (forConditionsOnTheCSide1.chan .c0).deferred = [])
    ∧ (forDSideFails7.inReset = false ∧ (forDSideFails7.chan .c0).arb.holder = .relay
        ∧ (forDSideFails7.chan .c0).dOp = .closing true
        ∧ (forDSideFails7.chan .c0).exch = some (exchange .write .forwarded)
        ∧ (forDSideFails7.chan .c0).deferred = [])
    ∧ (forDSideFails8.inReset = false ∧ (forDSideFails8.chan .c0).arb.holder = .relay
        ∧ (forDSideFails8.chan .c0).dOp = .stop false ∧ (forDSideFails8.chan .c0).nextAct = none
        ∧ (forDSideFails8.chan .c0).deferred = [] ∧ (forDSideFails8.chan .c0).phase ≠ .grantWait)
    ∧ (forDSideFails9.inReset = false ∧ (forDSideFails9.chan .c0).arb.holder = .engine
        ∧ (forDSideFails9.chan .c0).dOp = .closing false ∧ forDSideFails9.engine.job = some probeNacked
        ∧ probeNacked.chan = .c0 ∧ probeNacked.endingCause = none ∧ (forDSideFails9.chan .c0).phase ≠ .grantWait)
    ∧ (forDSideFails10.inReset = false ∧ (forDSideFails10.chan .c0).meters.dStretch = some ⟨5, 5⟩
        ∧ (forDSideFails10.chan .c0).dOp ≠ .idle ∧ (forDSideFails10.chan .c0).health.stuckD = true
        ∧ (forDSideFails10.chan .c0).health.busClear = none ∧ (forDSideFails10.chan .c0).arb.holder = .engine
        ∧ forDSideFails10.engine.job = some (job .write .ending .chunk))
    ∧ (forSetChannel1.inReset = false ∧ (forSetChannel1.chan .c0).arb.holder = .engine
        ∧ (forSetChannel1.chan .c0).dOp ≠ .idle ∧ forSetChannel1.engine.job = some (job .write .write .chunk)
        ∧ (job .write .write .chunk).chan = .c0 ∧ (job .write .write .chunk).phase ≠ .ending
        ∧ (job .write .write .chunk).endingCause = none ∧ (forSetChannel1.chan .c0).phase ≠ .grantWait)
    ∧ (forDSideFails11.inReset = false ∧ (forDSideFails11.chan .c0).meters.dStretch = some ⟨5, 5⟩
        ∧ (forDSideFails11.chan .c0).dOp ≠ .idle ∧ (forDSideFails11.chan .c0).health.stuckD = false
        ∧ (forDSideFails11.chan .c0).health.busClear = none ∧ (forDSideFails11.chan .c0).arb.holder = .engine
        ∧ forDSideFails11.engine.job = some (job .write .write .chunk))
    ∧ (forDSideFails12.inReset = false ∧ (forDSideFails12.chan .c0).meters.dStretch = some ⟨5, 5⟩
        ∧ (forDSideFails12.chan .c0).health.busClear.isSome = true
        ∧ (forDSideFails12.chan .c0).health.stuckD = false)
    ∧ (forDSideFails13.inReset = false ∧ (forDSideFails13.chan .c0).meters.dStretch = some ⟨5, 5⟩
        ∧ (forDSideFails13.chan .c0).dOp = .writeByte ∧ (forDSideFails13.chan .c0).health.busClear = none
        ∧ (forDSideFails13.chan .c0).arb.holder = .relay
        ∧ (forDSideFails13.chan .c0).exch = some (exchange .write .forwarded)
        ∧ (forDSideFails13.chan .c0).deferred = []) := by
  and_intros <;> first | rfl | decide

def forBusFreeAndModes1 : State :=
  with0 fun c => { c with meters := { c.meters with cIdle := dueTimer }, cFree := false }

def forBusFreeAndModes2 : State :=
  with0 fun c => { c with meters := { c.meters with dIdle := dueTimer }, dFree := false }

def forBusFreeAndModes3 : State :=
  { live with
      ch1 := { chanIn .monitor with settings := { ChanSettings.default with requested := .active }, freePoint := true } }

def forBusFreeAndModes4 : State :=
  { live with ch1 := { chanIn .active with settings := { ChanSettings.default with requested := .monitor } } }

def forBusFreeAndModes5 : State :=
  { live with
      ch1 := { chanIn .isolated with settings := { ChanSettings.default with requested := .active }, meters := { Meters.stopped with cIdle := dueTimer } } }

def forBusFreeAndModes6 : State :=
  { live with
      ch1 := { chanIn .isolated with settings := { ChanSettings.default with requested := .monitor }, meters := { Meters.stopped with cIdle := dueTimer, dIdle := dueTimer } } }

theorem test_witness_BusFreeAndModes :
    (forBusFreeAndModes1.inReset = false ∧ (forBusFreeAndModes1.chan .c0).meters.cIdle = some ⟨5, 5⟩
        ∧ (forBusFreeAndModes1.chan .c0).cFree = false)
    ∧ (forBusFreeAndModes2.inReset = false ∧ (forBusFreeAndModes2.chan .c0).meters.dIdle = some ⟨5, 5⟩
        ∧ (forBusFreeAndModes2.chan .c0).dFree = false)
    ∧ (forBusFreeAndModes3.inReset = false ∧ (forBusFreeAndModes3.chan .c1).exch = none
        ∧ (forBusFreeAndModes3.chan .c1).mode = .monitor ∧ forBusFreeAndModes3.target .c1 = .active
        ∧ (forBusFreeAndModes3.chan .c1).freePoint = true)
    ∧ (forBusFreeAndModes4.inReset = false ∧ (forBusFreeAndModes4.chan .c1).mode = .active
        ∧ forBusFreeAndModes4.target .c1 = .monitor ∧ (forBusFreeAndModes4.chan .c1).cFree = true
        ∧ (forBusFreeAndModes4.chan .c1).dFree = true ∧ (forBusFreeAndModes4.chan .c1).arb.holder ≠ .relay
        ∧ forBusFreeAndModes4.jobOn .c1 = false ∧ (forBusFreeAndModes4.chan .c1).health.busClear = none
        ∧ (forBusFreeAndModes4.chan .c1).hold = none)
    ∧ (forHoldRequests1.inReset = false ∧ (forHoldRequests1.chan .c0).mode = .active
        ∧ (forHoldRequests1.chan .c0).hold.isSome = true)
    ∧ (forBusFreeAndModes5.inReset = false ∧ (forBusFreeAndModes5.chan .c1).mode = .isolated
        ∧ forBusFreeAndModes5.target .c1 = .active ∧ (forBusFreeAndModes5.chan .c1).meters.cIdle = some ⟨5, 5⟩)
    ∧ (forBusFreeAndModes6.inReset = false ∧ (forBusFreeAndModes6.chan .c1).mode = .isolated
        ∧ forBusFreeAndModes6.target .c1 = .monitor ∧ (forBusFreeAndModes6.chan .c1).meters.cIdle = some ⟨5, 5⟩
        ∧ (forBusFreeAndModes6.chan .c1).meters.dIdle = some ⟨5, 5⟩)
    ∧ (live.inReset = false ∧ live.target .c0 = (live.chan .c0).mode)
    ∧ (live.inReset = false ∧ (live.chan .c0).mode = .active ∧ (live.chan .c0).arb.holder = .none)
    ∧ (live.inReset = false ∧ (live.chan .c1).mode ≠ .active) := by
  and_intros <;> first | rfl | decide

/-- The live state meets every invariant the steps keep, and a step from it gives a next state. -/
theorem test_witness_StepKeeps :
    live.TableOk ∧ live.ImagesOk ∧ live.LogOk ∧ live.LinkOk ∧ live.IsolationOk ∧ live.SettingsOk ∧ live.HealthOk
      ∧ live.SupplyOk ∧ live.EngineOk ∧ live.TriggersOk ∧ step live = .next live := by
  refine ⟨⟨rfl, ?_⟩, ⟨rfl, ?_⟩, ⟨by decide, ?_, ?_⟩, ⟨by decide, by decide⟩, ?_, ?_, ⟨by decide, by decide, by decide, ?_⟩,
    ⟨by decide, by decide, by decide, by decide, rfl⟩, ⟨rfl, ?_, ?_, rfl⟩, ⟨?_, by decide, by decide, rfl, ?_⟩, rfl⟩
  · intro e he
    obtain rfl : e = Entry.reset := List.eq_of_mem_replicate (show e ∈ List.replicate 32 Entry.reset from he)
    exact ⟨by decide, fun _ => rfl⟩
  · intro i hi
    obtain rfl : i = Image.reset := List.eq_of_mem_replicate (show i ∈ List.replicate 4 Image.reset from hi)
    exact ⟨by decide, by decide, by decide, by decide, by decide, rfl, by intro p hp; cases hp⟩
  · intro r hr; cases hr
  · intro ch; cases ch <;> exact ⟨by decide, by intro x hx; cases hx⟩
  · intro ch h; cases ch <;> cases h
  · intro ch
    cases ch <;> exact ⟨⟨by decide, by decide, by decide, by decide, by decide, by decide, by decide, by decide,
      by decide, by decide, by decide⟩, rfl⟩
  · intro ch; cases ch <;> exact ⟨by decide, by decide, fun _ => rfl⟩
  · intro p hp; cases hp
  · intro j hj; cases hj
  · intro slot; cases slot <;> exact ⟨by decide, by decide, by decide, by decide⟩
  · intro r hr
    obtain rfl : r = Route.reset := List.eq_of_mem_replicate (show r ∈ List.replicate 8 Route.reset from hr)
    decide

end Sys2Proof.Tests
end

section
/-! SUPPORT. What the invariants of modes and settings depend on (R8, R15, R35), and that the operations the blocks share
leave it as it was. -/

namespace Sys2Proof.Machine

/-- What of a channel a mode it must be in and its settings depend on. -/
structure Channel.Outline where
  settings : ChanSettings
  mode : Mode
  plan : Plan

def Channel.outline (c : Channel) : Channel.Outline := ⟨c.settings, c.mode, c.plan⟩

/-- What of the state the target modes and the settings depend on (R8). -/
structure Outline where
  supply : SupplyState
  follow : Bool
  ch0 : Channel.Outline
  ch1 : Channel.Outline

def State.outline (s : State) : Outline :=
  ⟨s.supply.state, s.supply.settings.follow, s.ch0.outline, s.ch1.outline⟩

variable (s : State) (ch : Chan)

@[simp] theorem Channel.outline_with (c : Channel) {fallback sync phase seenFree cFree dFree freePoint byteOpen curByte
    noted highPhase highData dataTold ext pull meters grantWait grantLimitTaken latched dOp dSpan arb deferred nextAct
    startTick exch giving bitsOut console hold park health} :
    (Channel.mk c.settings c.mode fallback sync phase seenFree cFree dFree freePoint byteOpen curByte noted highPhase
      highData dataTold ext pull meters grantWait grantLimitTaken c.plan latched dOp dSpan arb deferred nextAct startTick
      exch giving bitsOut console hold park health).outline = c.outline := rfl

@[simp] theorem State.outline_with
    {rules images log tick cmpA cmpB trigIn trigOut routes monitor engine link inReset freeIx pending} :
    (State.mk s.ch0 s.ch1 rules images log tick cmpA cmpB trigIn trigOut routes monitor engine s.supply link inReset
      freeIx pending).outline = s.outline := rfl

@[simp] theorem Channel.outline_ite (p : Prop) [Decidable p] (c d : Channel) :
    (if p then c else d).outline = if p then c.outline else d.outline := apply_ite ..

@[simp] theorem State.outline_ite (p : Prop) [Decidable p] (s t : State) :
    (if p then s else t).outline = if p then s.outline else t.outline := apply_ite ..

/-- A change of a channel that leaves its outline alone. -/
def KeepsOutline (f : Channel → Channel) : Prop := ∀ c, (f c).outline = c.outline

@[simp] theorem keepsOutline_iff (f : Channel → Channel) : KeepsOutline f ↔ ∀ c, (f c).outline = c.outline := .rfl

@[simp] theorem State.outline_onChan (f : Channel → Channel) (h : KeepsOutline f) :
    (s.onChan ch f).outline = s.outline := by
  cases ch <;> simp [State.onChan, State.setChan, State.outline, h _]

/-! ### The operations of a channel -/

@[simp] theorem Channel.outline_trafficC (c : Channel) (a : Bool) (b : Bool) : (c.trafficC a b).outline = c.outline := by
  simp [Channel.trafficC]
@[simp] theorem Channel.outline_sampleC (c : Channel) (a : Bool) : (c.sampleC a).outline = c.outline := by
  simp [Channel.sampleC]
@[simp] theorem Channel.outline_sampleByte (c : Channel) (b : Byte) : (c.sampleByte b).outline = c.outline := by
  simp [Channel.sampleByte]
@[simp] theorem Channel.outline_answer (c : Channel) (b : AckBit) : (c.answer b).outline = c.outline := by
  simp [Channel.answer]
@[simp] theorem Channel.outline_stretch (c : Channel) : (c.stretch).outline = c.outline := by simp [Channel.stretch]
@[simp] theorem Channel.outline_restC (c : Channel) : (c.restC).outline = c.outline := by simp [Channel.restC]
@[simp] theorem Channel.outline_releaseC (c : Channel) : (c.releaseC).outline = c.outline := by
  simp [Channel.releaseC]
@[simp] theorem Channel.outline_releaseD (c : Channel) : (c.releaseD).outline = c.outline := by
  simp [Channel.releaseD]
@[simp] theorem Channel.outline_beginD (c : Channel) (o : DOp) (n : Nat) : (c.beginD o n).outline = c.outline := by
  simp [Channel.beginD]
@[simp] theorem Channel.outline_restD (c : Channel) : (c.restD).outline = c.outline := by simp [Channel.restD]
@[simp] theorem Channel.outline_cFreePoint (c : Channel) : (c.cFreePoint).outline = c.outline := by
  simp [Channel.cFreePoint]
@[simp] theorem Channel.outline_dFreePoint (c : Channel) : (c.dFreePoint).outline = c.outline := by
  simp [Channel.dFreePoint]
@[simp] theorem Channel.outline_grantRelay (c : Channel) : (c.grantRelay).outline = c.outline := by
  simp [Channel.grantRelay]
@[simp] theorem Channel.outline_grantEngine (c : Channel) (m : Nat) (n : Nat) : (c.grantEngine m n).outline =
    c.outline := by simp [Channel.grantEngine]
@[simp] theorem Channel.outline_giveUp (c : Channel) : (c.giveUp).outline = c.outline := by simp [Channel.giveUp]
@[simp] theorem Channel.outline_stopMade (c : Channel) : (c.stopMade).outline = c.outline := by
  simp [Channel.stopMade]
@[simp] theorem Channel.outline_dropGrant (c : Channel) : (c.dropGrant).outline = c.outline := by
  simp [Channel.dropGrant]
@[simp] theorem Channel.outline_beginStop (c : Channel) (b : Bool) : (c.beginStop b).outline = c.outline := by
  simp [Channel.beginStop]
@[simp] theorem Channel.outline_closeD (c : Channel) (b : Bool) : (c.closeD b).outline = c.outline := by
  simp [Channel.closeD]
@[simp] theorem Channel.outline_pass (c : Channel) (n : Nat) : (c.pass n).outline = c.outline := by
  simp [Channel.pass]
@[simp] theorem Channel.outline_shift (c : Channel) (d : Tick) : (c.shift d).outline = c.outline := by
  simp [Channel.shift]
@[simp] theorem Channel.outline_dropEngine (c : Channel) : (c.dropEngine).outline = c.outline := by
  simp [Channel.dropEngine]
@[simp] theorem Channel.outline_clearExchange (c : Channel) : (c.clearExchange).outline = c.outline := by
  simp [Channel.clearExchange]
@[simp] theorem Channel.outline_askRelay (c : Channel) : (c.askRelay).outline = c.outline := by
  simp [Channel.askRelay]
@[simp] theorem Channel.outline_restartRelay (c : Channel) : (c.restartRelay).outline = c.outline := by
  simp [Channel.restartRelay]
@[simp] theorem Channel.outline_relayByte (c : Channel) : (c.relayByte).outline = c.outline := by
  simp [Channel.relayByte]
@[simp] theorem Channel.outline_give (c : Channel) (b : Byte) : (c.give b).outline = c.outline := by
  simp [Channel.give]
@[simp] theorem Channel.outline_shiftOut (c : Channel) : (c.shiftOut).outline = c.outline := by
  unfold Channel.shiftOut; dsimp only; (repeat' split) <;> simp
@[simp] theorem Channel.outline_beginAddress (c : Channel) (t : Tick) : (c.beginAddress t).outline = c.outline := by
  simp [Channel.beginAddress]
@[simp] theorem Channel.outline_endTransaction (c : Channel) : (c.endTransaction).outline = c.outline := by
  simp [Channel.endTransaction]
@[simp] theorem Channel.outline_stopD (c : Channel) : (c.stopD).outline = c.outline := by simp [Channel.stopD]
@[simp] theorem Channel.outline_condLines (c : Channel) (k : Cond) : (c.condLines k).outline = c.outline := by
  unfold Channel.condLines; (repeat' split) <;> simp
@[simp] theorem Channel.outline_plainCond (c : Channel) (k : Cond) : (c.plainCond k).outline = c.outline := by
  unfold Channel.plainCond; (repeat' split) <;> simp
@[simp] theorem Channel.outline_keepCond (c : Channel) (k : Cond) (n : Nat) (t : Tick) : (c.keepCond k n t).outline =
    c.outline := by simp [Channel.keepCond]
@[simp] theorem Channel.outline_followByte (c : Channel) (b : Byte) : (c.followByte b).outline = c.outline := by
  simp [Channel.followByte]
@[simp] theorem Channel.outline_openExchange (c : Channel) (b : Byte) : (c.openExchange b).outline = c.outline := by
  simp [Channel.openExchange]
@[simp] theorem Channel.outline_keepAddress (c : Channel) (b : Byte) : (c.keepAddress b).outline = c.outline := by
  simp [Channel.keepAddress]
@[simp] theorem Channel.outline_openByte (c : Channel) (b : Byte) : (c.openByte b).outline = c.outline := by
  simp [Channel.openByte]
@[simp] theorem Channel.outline_fetch (c : Channel) (n : Nat) : (c.fetch n).outline = c.outline := by
  simp [Channel.fetch]
@[simp] theorem Channel.outline_driveAck (c : Channel) (b : AckBit) : (c.driveAck b).outline = c.outline := by
  simp [Channel.driveAck]
@[simp] theorem Channel.outline_sampleAck (c : Channel) (b : AckBit) : (c.sampleAck b).outline = c.outline := by
  simp [Channel.sampleAck]
@[simp] theorem Channel.outline_settleKept (c : Channel) : (c.settleKept).outline = c.outline := by
  unfold Channel.settleKept; (repeat' split) <;> simp
@[simp] theorem Channel.outline_breakClear (c : Channel) : (c.breakClear).outline = c.outline := by
  simp [Channel.breakClear]
@[simp] theorem Channel.outline_clearPhase (c : Channel) (n : Nat) (p : Plan) (b : Bool) : (c.clearPhase n p
    b).outline = c.outline := by simp [Channel.clearPhase]
@[simp] theorem Channel.outline_startClear (c : Channel) : (c.startClear).outline = c.outline := by
  simp [Channel.startClear]
@[simp] theorem Channel.outline_endClear (c : Channel) (r : ClearResult) : (c.endClear r).outline = c.outline := by
  simp [Channel.endClear]
@[simp] theorem Channel.outline_abandonClear (c : Channel) : (c.abandonClear).outline = c.outline := by
  unfold Channel.abandonClear; (repeat' split) <;> simp
@[simp] theorem Channel.outline_lastPulse (c : Channel) (b : BusClear) : (c.lastPulse b).outline = c.outline := by
  simp [Channel.lastPulse]
@[simp] theorem Channel.outline_afterPulse (c : Channel) (b : BusClear) (x : Bool) : (c.afterPulse b x).outline =
    c.outline := by simp [Channel.afterPulse]
@[simp] theorem Channel.outline_clearFailed (c : Channel) (b : BusClear) : (c.clearFailed b).outline = c.outline := by
  simp [Channel.clearFailed]
@[simp] theorem Channel.outline_stuckFree (c : Channel) : (c.stuckFree).outline = c.outline := by
  simp [Channel.stuckFree]
@[simp] theorem Channel.outline_outOfBus (c : Channel) : (c.outOfBus).outline = c.outline := by
  simp [Channel.outOfBus]
@[simp] theorem Channel.outline_cTimeFree (c : Channel) : (c.cTimeFree).outline = c.outline := by
  simp [Channel.cTimeFree]
@[simp] theorem Channel.outline_trafficD (c : Channel) (k : Cond) : (c.trafficD k).outline = c.outline := by
  simp [Channel.trafficD]
@[simp] theorem Channel.outline_dCond (c : Channel) (k : Cond) : (c.dCond k).outline = c.outline := by
  unfold Channel.dCond; dsimp only; (repeat' split) <;> simp
@[simp] theorem Channel.outline_clockFall (c : Channel) : (c.clockFall).outline = c.outline := by
  simp [Channel.clockFall]
@[simp] theorem Channel.outline_lineTold (c : Channel) (b : Bool) (x : Side) (l : Line) (y : Bool) : (c.lineTold b x l
    y).outline = c.outline := by simp [Channel.lineTold]
@[simp] theorem Channel.outline_afterReset (c : Channel) : (c.afterReset).outline = c.outline := by
  simp [Channel.afterReset]

/-! ### The operations of the state -/

@[simp] theorem State.outline_raise (n : Notice) : (s.raise n).outline = s.outline := by simp [State.raise]
@[simp] theorem State.outline_raiseIf (b : Bool) (n : Notice) : (s.raiseIf b n).outline = s.outline := by
  simp [State.raiseIf]
@[simp] theorem State.outline_hand (x : Option Chan) (b : Body) : (s.hand x b).outline = s.outline := by
  simp [State.hand]
@[simp] theorem State.outline_event (x : Option Chan) (e : Event) : (s.event x e).outline = s.outline := by
  simp [State.event]
@[simp] theorem State.outline_onExch (f : Exchange → Exchange) : (s.onExch ch f).outline = s.outline := by
  simp [State.onExch]
@[simp] theorem State.outline_onImage (k : Fin 4) (f : Image → Image) : (s.onImage k f).outline = s.outline := by
  simp [State.onImage]
@[simp] theorem State.outline_onHealth (f : Health → Health) : (s.onHealth ch f).outline = s.outline := by
  simp [State.onHealth]
@[simp] theorem State.outline_tally (f : Stats → Stats) : (s.tally ch f).outline = s.outline := by simp [State.tally]
@[simp] theorem State.outline_retime : (s.retime ch).outline = s.outline := by simp [State.retime]
@[simp] theorem State.outline_retimeAll : (s.retimeAll).outline = s.outline := by simp [State.retimeAll]
@[simp] theorem State.outline_snapshotNow : (s.snapshotNow).outline = s.outline := rfl
@[simp] theorem State.outline_setPark : (s.setPark ch).outline = s.outline := by simp [State.setPark]
@[simp] theorem State.outline_setCompare (slot : CompareSlot) (c : Compare) : (s.setCompare slot c).outline =
    s.outline := by cases slot <;> rfl
@[simp] theorem State.outline_act (a : Option RouteAction) : (s.act a).outline = s.outline := by
  unfold State.act
  (repeat' split) <;> first | rfl | simp
@[simp] theorem State.outline_occur (x : Source) (e : Option Nat) : (s.occur x e).outline = s.outline := by
  unfold State.occur
  dsimp only
  split
  · rfl
  · exact (foldl_keeps State.outline _ (fun t (r : Route) => State.outline_act t r.action) _ _).trans (by simp)
@[simp] theorem State.outline_ruleTrigger (w : Option (Nat × Copy)) : (s.ruleTrigger w).outline = s.outline := by
  unfold State.ruleTrigger; (repeat' split) <;> simp
@[simp] theorem State.outline_consoleFlush : (s.consoleFlush ch).outline = s.outline := by simp [State.consoleFlush]
@[simp] theorem State.outline_consoleTake (b : Byte) : (s.consoleTake ch b).outline = s.outline := by
  simp [State.consoleTake]
@[simp] theorem State.outline_declareDegraded : (s.declareDegraded ch).outline = s.outline := by
  simp [State.declareDegraded]
@[simp] theorem State.outline_clearDegraded : (s.clearDegraded ch).outline = s.outline := by
  simp [State.clearDegraded]
@[simp] theorem State.outline_takeMisframe : (s.takeMisframe ch).outline = s.outline := by simp [State.takeMisframe]
@[simp] theorem State.outline_takeClean : (s.takeClean ch).outline = s.outline := by simp [State.takeClean]
@[simp] theorem State.outline_misframe : (s.misframe ch).outline = s.outline := by simp [State.misframe]
@[simp] theorem State.outline_writeWindow (x : Exchange) : (s.writeWindow x).outline = s.outline := by
  unfold State.writeWindow; (repeat' split) <;> simp
@[simp] theorem State.outline_releaseRefs (x : Exchange) : (s.releaseRefs x).outline = s.outline := by
  simp [State.releaseRefs]
@[simp] theorem State.outline_endExchange (k : EndKind) : (s.endExchange ch k).outline = s.outline := by
  unfold State.endExchange; dsimp only; (repeat' split) <;> simp
@[simp] theorem State.outline_noteNack : (s.noteNack ch).outline = s.outline := by
  unfold State.noteNack; dsimp only; (repeat' split) <;> simp
@[simp] theorem State.outline_refuseAddress (d : Disposition) : (s.refuseAddress ch d).outline = s.outline := by
  simp [State.refuseAddress]
@[simp] theorem State.outline_answerLocal (d : Disposition) (i : Option (Fin 4)) : (s.answerLocal ch d i).outline =
    s.outline := by simp [State.answerLocal]
@[simp] theorem State.outline_applyForward : (s.applyForward ch).outline = s.outline := by simp [State.applyForward]
@[simp] theorem State.outline_applyEmulate (k : Fin 4) : (s.applyEmulate ch k).outline = s.outline := by
  simp [State.applyEmulate]
@[simp] theorem State.outline_applyConsole : (s.applyConsole ch).outline = s.outline := by simp [State.applyConsole]
@[simp] theorem State.outline_refuseByte : (s.refuseByte ch).outline = s.outline := by simp [State.refuseByte]
@[simp] theorem State.outline_useByte : (s.useByte ch).outline = s.outline := by
  refine State.outline_onChan s ch _ fun c => ?_
  split <;> simp
@[simp] theorem State.outline_apply (p : Planned) : (s.apply ch p).outline = s.outline := by
  unfold State.apply; (repeat' split) <;> simp
@[simp] theorem State.outline_storeByte (x : Exchange) (k : Fin 4) : (s.storeByte ch x k).outline = s.outline := by
  simp [State.storeByte]
@[simp] theorem State.outline_useLocal : (s.useLocal ch).outline = s.outline := by
  unfold State.useLocal; (repeat' split) <;> simp
@[simp] theorem State.outline_giveLocal : (s.giveLocal ch).outline = s.outline := by
  unfold State.giveLocal; (repeat' split) <;> simp
@[simp] theorem State.outline_beginHold (o : HoldOrigin) (p : Planned) (t : HoldTimeout) : (s.beginHold ch o p
    t).outline = s.outline := by
  unfold State.beginHold; dsimp only; (repeat' split) <;> simp
@[simp] theorem State.outline_endHold (a : Option Planned) (c : HoldCause) : (s.endHold ch a c).outline
    = s.outline := by
  unfold State.endHold; dsimp only; (repeat' split) <;> simp
@[simp] theorem State.outline_abandonHold : (s.abandonHold ch).outline = s.outline := by simp [State.abandonHold]
@[simp] theorem State.outline_applyHeld (b : Bool) (p : Planned) : (s.applyHeld ch b p).outline = s.outline := by
  simp [State.applyHeld]
@[simp] theorem State.outline_finishHold (b : Bool) (p : Planned) (c : HoldCause) : (s.finishHold ch b p c).outline =
    s.outline := by simp [State.finishHold]
@[simp] theorem State.outline_refuseHeld : (s.refuseHeld ch).outline = s.outline := by
  unfold State.refuseHeld; (repeat' split) <;> simp
@[simp] theorem State.outline_settleOwed : (s.settleOwed ch).outline = s.outline := by simp [State.settleOwed]
@[simp] theorem State.outline_grantUnit (j : Job) : (s.grantUnit ch j).outline = s.outline := by
  simp [State.grantUnit]
@[simp] theorem State.outline_engineAsk : (s.engineAsk).outline = s.outline := by
  unfold State.engineAsk; dsimp only; (repeat' split) <;> simp
@[simp] theorem State.outline_finishJob (c : JobCause) (a : Nat) : (s.finishJob c a).outline = s.outline := by
  unfold State.finishJob
  split
  · rfl
  · have claims : ∀ (b : Bool) (u : State) (q : Claims),
        (if b then { u with supply := { u.supply with claims := q } } else u).outline = u.outline := fun b _ _ => by
      cases b <;> rfl
    rw [State.outline_occur, State.outline_settleOwed]
    refine (claims _ _ _).trans ?_
    rw [State.outline_raise, State.outline_hand]
    exact s.outline_onChan _ _ Channel.outline_dropEngine
@[simp] theorem State.outline_endJob (c : JobCause) : (s.endJob c).outline = s.outline := by
  unfold State.endJob; (repeat' split) <;> simp
@[simp] theorem State.outline_endJobOn (c : JobCause) : (s.endJobOn ch c).outline = s.outline := by
  simp [State.endJobOn]
@[simp] theorem State.outline_onJob (f : Job → Job) : (s.onJob f).outline = s.outline := by simp [State.onJob]
@[simp] theorem State.outline_enterEnding (c : JobCause) : (s.enterEnding c).outline = s.outline := by
  unfold State.enterEnding; dsimp only; (repeat' split) <;> simp
@[simp] theorem State.outline_unitStop : (s.unitStop).outline = s.outline := by
  unfold State.unitStop; (repeat' split) <;> simp
@[simp] theorem State.outline_failAttempt (c : JobCause) : (s.failAttempt c).outline = s.outline := by
  unfold State.failAttempt; (repeat' split) <;> simp
@[simp] theorem State.outline_unitStops : (s.unitStops).outline = s.outline := by
  unfold State.unitStops; (repeat' split) <;> simp
@[simp] theorem State.outline_afterProbe : (s.afterProbe).outline = s.outline := by
  unfold State.afterProbe; dsimp only; (repeat' split) <;> simp
@[simp] theorem State.outline_keepBurst (l : List Byte) : (s.keepBurst l).outline = s.outline := by
  simp [State.keepBurst]
@[simp] theorem State.outline_burstUsed : (s.burstUsed).outline = s.outline := by
  unfold State.burstUsed; (repeat' split) <;> simp
@[simp] theorem State.outline_useBurst : (s.useBurst).outline = s.outline := by
  unfold State.useBurst; dsimp only; (repeat' split) <;> simp
@[simp] theorem State.outline_unitLost : (s.unitLost).outline = s.outline := by
  unfold State.unitLost; (repeat' split) <;> simp
@[simp] theorem State.outline_admitJob (j : Job) : (s.admitJob j).outline = s.outline := by
  simp only [State.admitJob, State.outline_retimeAll, State.outline_engineAsk]
  exact apply_ite_same State.outline _ _ _ _ rfl rfl
@[simp] theorem State.outline_cutFrame : (s.cutFrame ch).outline = s.outline := by simp [State.cutFrame]
@[simp] theorem State.outline_takeStart (b : Bool) (t : Tick) : (s.takeStart ch b t).outline = s.outline := by
  simp [State.takeStart]
@[simp] theorem State.outline_takeStop (b : Bool) : (s.takeStop ch b).outline = s.outline := by simp [State.takeStop]
@[simp] theorem State.outline_takeCond (b : Bool) (t : Tick) (k : Cond) : (s.takeCond ch b t k).outline
    = s.outline := by
  unfold State.takeCond; (repeat' split) <;> simp
@[simp] theorem State.outline_condMisframe (b : Bool) (n : Nat) : (s.condMisframe ch b n).outline = s.outline := by
  simp [State.condMisframe]
@[simp] theorem State.outline_cCondition (k : Cond) (n : Nat) : (s.cCondition ch k n).outline = s.outline := by
  simp [State.cCondition]
@[simp] theorem State.outline_takeNext (n : NextAct) : (s.takeNext ch n).outline = s.outline := by
  unfold State.takeNext; (repeat' split) <;> simp
@[simp] theorem State.outline_decided (n : NextAct) : (s.decided ch n).outline = s.outline := by simp [State.decided]
@[simp] theorem State.outline_addressScan (x : Exchange) : (s.addressScan ch x).1.outline = s.outline := by
  simp [State.addressScan]
@[simp] theorem State.outline_indexScan (x : Exchange) (b : Byte) : (s.indexScan ch x b).1.outline = s.outline := by
  simp [State.indexScan]
@[simp] theorem State.outline_addressStage (x : Exchange) : (s.addressStage ch x).outline = s.outline := by
  simp [State.addressStage]
@[simp] theorem State.outline_refuseStopping : (s.refuseStopping ch).outline = s.outline := by
  simp [State.refuseStopping]
@[simp] theorem State.outline_lookAddress (b : Byte) : (s.lookAddress ch b).outline = s.outline := by
  simp [State.lookAddress]
@[simp] theorem State.outline_takeAddress (b : Byte) : (s.takeAddress ch b).outline = s.outline := by
  simp [State.takeAddress]
@[simp] theorem State.outline_passAddress (b : Byte) : (s.passAddress ch b).outline = s.outline := by
  simp [State.passAddress]
@[simp] theorem State.outline_takeKept (l : List Kept) : (s.takeKept ch l).outline = s.outline := by
  induction l generalizing s with
  | nil => rfl
  | cons k rest ih => cases k <;> simp [State.takeKept, ih]
@[simp] theorem State.outline_indexAct (w : Option (Nat × Copy)) : (s.indexAct ch w).outline = s.outline := by
  unfold State.indexAct; (repeat' split) <;> simp
@[simp] theorem State.outline_indexStage (x : Exchange) (b : Byte) : (s.indexStage ch x b).outline = s.outline := by
  simp [State.indexStage]
@[simp] theorem State.outline_byteStage (x : Exchange) : (s.byteStage ch x).outline = s.outline := by
  unfold State.byteStage; dsimp only; (repeat' split) <;> simp
@[simp] theorem State.outline_addressAcked (b : AckBit) : (s.addressAcked ch b).outline = s.outline := by
  unfold State.addressAcked; (repeat' split) <;> simp
@[simp] theorem State.outline_readAcked (b : AckBit) : (s.readAcked ch b).outline = s.outline := by
  unfold State.readAcked; dsimp only; (repeat' split) <;> simp
@[simp] theorem State.outline_localReadAcked (b : AckBit) : (s.localReadAcked ch b).outline = s.outline := by
  unfold State.localReadAcked; (repeat' split) <;> simp
@[simp] theorem State.outline_observedAck (x : Exchange) (b : AckBit) : (s.observedAck ch x b).outline = s.outline := by
  simp [State.observedAck]
@[simp] theorem State.outline_dataAcked (x : Exchange) (b : AckBit) : (s.dataAcked ch x b).outline = s.outline := by
  unfold State.dataAcked; (repeat' split) <;> simp
@[simp] theorem State.outline_grantLost : (s.grantLost ch).outline = s.outline := by simp [State.grantLost]
@[simp] theorem State.outline_grantWaiter : (s.grantWaiter ch).outline = s.outline := by
  unfold State.grantWaiter; dsimp only; (repeat' split) <;> simp
@[simp] theorem State.outline_resumeNext : (s.resumeNext ch).outline = s.outline := by
  unfold State.resumeNext; (repeat' split) <;> simp
@[simp] theorem State.outline_flushDeferred : (s.flushDeferred ch).outline = s.outline := by
  simp [State.flushDeferred]
@[simp] theorem State.outline_setStuckD : (s.setStuckD ch).outline = s.outline := by simp [State.setStuckD]
@[simp] theorem State.outline_declareStuckD : (s.declareStuckD ch).outline = s.outline := by
  simp [State.declareStuckD]
@[simp] theorem State.outline_abortStuck : (s.abortStuck ch).outline = s.outline := by simp [State.abortStuck]
@[simp] theorem State.outline_clearStuckD : (s.clearStuckD ch).outline = s.outline := by simp [State.clearStuckD]
@[simp] theorem State.outline_clearMade : (s.clearMade ch).outline = s.outline := by simp [State.clearMade]
@[simp] theorem State.outline_declareStuckC : (s.declareStuckC ch).outline = s.outline := by
  simp [State.declareStuckC]
@[simp] theorem State.outline_clearStuckC : (s.clearStuckC ch).outline = s.outline := by simp [State.clearStuckC]
@[simp] theorem State.outline_failExchange : (s.failExchange ch).outline = s.outline := by
  unfold State.failExchange; dsimp only; (repeat' split) <;> simp
@[simp] theorem State.outline_relayMisframe (b : Bool) : (s.relayMisframe ch b).outline = s.outline := by
  simp [State.relayMisframe]
@[simp] theorem State.outline_relayLost (o : DOp) : (s.relayLost ch o).outline = s.outline := by
  simp [State.relayLost]
@[simp] theorem State.outline_loseD : (s.loseD ch).outline = s.outline := by simp [State.loseD]
@[simp] theorem State.outline_stretchOut : (s.stretchOut ch).outline = s.outline := by simp [State.stretchOut]
@[simp] theorem State.outline_closeFailed : (s.closeFailed ch).outline = s.outline := by simp [State.closeFailed]
@[simp] theorem State.outline_resetChannel : (s.resetChannel ch).outline = s.outline := by simp [State.resetChannel]
@[simp] theorem State.outline_onLink (f : Link → Link) : (s.onLink f).outline = s.outline := by simp [State.onLink]
@[simp] theorem State.outline_reply (t : Byte) (c : Byte) (a : Answer) : (s.reply t c a).outline = s.outline := by
  simp [State.reply]
@[simp] theorem State.outline_pass (n : Nat) : (s.pass n).outline = s.outline := rfl

end Sys2Proof.Machine
end

section
/-! SUPPORT. What a setting list of SET CHANNEL comes to (R15, R35): refused, or each setting it carries written in its
range. -/

namespace Sys2Proof.Machine

/-- What is asked of one setting of a SET CHANNEL (R15). -/
def PairAccepted (p : Byte × Half) : Prop :=
  p.1.toNat < 13 ∧ (p.1 = 0 → p.2.toNat < 3) ∧ (p.1.toNat ∈ [1, 2, 9, 10, 11, 12] → p.2.toNat < 2)

theorem noRepeat_iff (l : List (Byte × Half)) : noRepeat l = true ↔ (l.map Prod.fst).Nodup := by
  induction l with
  | nil => simp [noRepeat]
  | cons p l ih =>
    rw [List.map_cons, List.nodup_cons, ← ih, noRepeat, Bool.and_eq_true, List.all_eq_true]
    refine and_congr_left' ?_
    simp only [decide_eq_true_eq, List.mem_map, not_exists, not_and]

theorem settingsAccepted_iff (l : List (Byte × Half)) :
    SettingsAccepted l ↔ l ≠ [] ∧ noRepeat l = true ∧ ∀ p ∈ l, PairAccepted p := by
  unfold SettingsAccepted PairAccepted
  rw [noRepeat_iff]
  exact ⟨fun ⟨h1, h2, h3, h4, h5⟩ => ⟨h1, h2, fun p hp => ⟨h3 p hp, h4 p hp, h5 p hp⟩⟩,
    fun ⟨h1, h2, h3⟩ => ⟨h1, h2, fun p hp => (h3 p hp).1, fun p hp => (h3 p hp).2.1, fun p hp => (h3 p hp).2.2⟩⟩

/-- The value of a setting is outside the range of a numeric one (section 1.6). -/
def pairClamped (p : Byte × Half) : Bool :=
  ([(3, 10, 1200), (4, 25, 75), (5, 1, 255), (6, 1, 255), (7, 0, 60000), (8, 10, 1000)] : List (Nat × Nat × Nat)).any
    fun q => decide (p.1.toNat = q.1 ∧ ¬ (q.2.1 ≤ p.2.toNat ∧ p.2.toNat ≤ q.2.2))

theorem settingsClamped_iff (l : List (Byte × Half)) : SettingsClamped l ↔ l.any pairClamped = true := by
  simp only [SettingsClamped, pairClamped, List.any_eq_true, decide_eq_true_eq]

@[simp] theorem carriedValue_nil (k : Nat) : carriedValue [] k = none := rfl

theorem carriedValue_cons (p : Byte × Half) (l : List (Byte × Half)) (k : Nat) :
    carriedValue (p :: l) k = if p.1.toNat = k then some p.2.toNat else carriedValue l k := by
  by_cases h : p.1.toNat = k <;> simp [carriedValue, h]

theorem clamped_eq (lo hi v : Nat) (h : lo ≤ hi) :
    clamped lo hi v = (max lo (min hi v), decide ¬ (lo ≤ v ∧ v ≤ hi)) := by
  unfold clamped clampTo
  rw [Prod.mk.injEq, decide_eq_decide]
  exact ⟨rfl, by omega⟩

theorem yesNoOf_eq (v : Nat) : yesNoOf v = if v < 2 then some (decide (v = 1)) else none := by
  match v with
  | 0 => rfl
  | 1 => rfl
  | v + 2 => simp [yesNoOf]

theorem modeOf_eq (v : Nat) :
    modeOf v = if v < 3 then some (if v = 0 then .monitor else if v = 1 then .active else .isolated) else none := by
  match v with
  | 0 => rfl
  | 1 => rfl
  | 2 => rfl
  | v + 3 => simp [modeOf]

/-- One setting with nothing wrong in it is written in its range (R15). -/
theorem chanSetting_accepted (c : ChanSettings) (a : Bool) (p : Byte × Half) (h : PairAccepted p) :
    chanSetting (c, a) p = some (c.after [p], a || pairClamped p) := by
  obtain ⟨k, v⟩ := p
  obtain ⟨h13, h3, h2⟩ := h
  rw [← BitVec.toNat_inj] at h3
  dsimp only at h13 h3 h2
  generalize hk : k.toNat = n at *
  interval_cases n <;>
    simp_all [chanSetting, ChanSettings.after, carriedValue_cons, pairClamped, clamped_eq, yesNoOf_eq, modeOf_eq]

/-- One setting with something wrong in it is none (R15). -/
theorem chanSetting_refused (a : ChanSettings × Bool) (p : Byte × Half) (h : ¬ PairAccepted p) :
    chanSetting a p = none := by
  obtain ⟨k, v⟩ := p
  unfold PairAccepted at h
  rw [← BitVec.toNat_inj] at h
  dsimp only at h
  unfold chanSetting
  dsimp only
  generalize hk : k.toNat = n at *
  by_cases hn : n < 13
  · interval_cases n <;> simp_all [yesNoOf_eq, modeOf_eq]
  · split <;> first | rfl | omega

/-- A value carried by the rest of a list, and where it carries none that of its first setting. -/
theorem carriedValue_cons_getD {β : Type} (p : Byte × Half) (l : List (Byte × Half))
    (h : carriedValue l p.1.toNat = none) (k : Nat) (f : Nat → β) (old : β) :
    ((carriedValue l k).map f).getD (((carriedValue [p] k).map f).getD old)
      = ((carriedValue (p :: l) k).map f).getD old := by
  rw [carriedValue_cons, carriedValue_cons]
  by_cases hk : p.1.toNat = k
  · subst hk
    simp [h]
  · simp [hk]

theorem ChanSettings.after_cons (c : ChanSettings) (p : Byte × Half) (l : List (Byte × Half))
    (h : carriedValue l p.1.toNat = none) : (c.after [p]).after l = c.after (p :: l) := by
  simp only [ChanSettings.after, carriedValue_cons_getD p l h]

theorem carriedValue_none (l : List (Byte × Half)) (k : Nat) (h : ∀ p ∈ l, p.1.toNat ≠ k) : carriedValue l k
    = none := by
  simpa [carriedValue] using h

theorem carriedValue_isSome (l : List (Byte × Half)) (k : Nat) : (carriedValue l k).isSome = writesSetting l k := by
  induction l with
  | nil => rfl
  | cons p l ih => by_cases h : p.1.toNat = k <;> simp_all [carriedValue_cons, writesSetting]

/-- What a setting carries, where no setting comes twice. -/
theorem carriedValue_of_mem {l : List (Byte × Half)} (hl : noRepeat l = true) {p : Byte × Half} (hp : p ∈ l) :
    carriedValue l p.1.toNat = some p.2.toNat := by
  induction l with
  | nil => cases hp
  | cons q l ih =>
    rw [noRepeat, Bool.and_eq_true, List.all_eq_true] at hl
    rw [carriedValue_cons]
    rcases List.mem_cons.1 hp with rfl | hp
    · simp
    · have hq : p.1 ≠ q.1 := by simpa using hl.1 p hp
      rw [if_neg fun h => hq (BitVec.eq_of_toNat_eq h.symm), ih hl.2 hp]

/-- A list with nothing wrong in it writes each setting it carries in its range, keeps the others, and tells whether a
value was clamped (R15). -/
theorem applyAll_accepted (c : ChanSettings) (a : Bool) (l : List (Byte × Half)) (hl : noRepeat l = true)
    (h : ∀ p ∈ l, PairAccepted p) : applyAll chanSetting (c, a) l = some (c.after l, a || l.any pairClamped) := by
  induction l generalizing c a with
  | nil => simp [applyAll, ChanSettings.after]
  | cons p l ih =>
    rw [noRepeat, Bool.and_eq_true, List.all_eq_true] at hl
    have hp : carriedValue l p.1.toNat = none := carriedValue_none l _ fun q hq he => by
      simpa [BitVec.eq_of_toNat_eq he] using hl.1 q hq
    rw [applyAll, chanSetting_accepted c a p (h p (List.mem_cons_self ..))]
    dsimp only
    rw [ih _ _ hl.2 fun q hq => h q (List.mem_cons_of_mem _ hq), c.after_cons p l hp, List.any_cons, Bool.or_assoc]

/-- A list with something wrong in one of its settings is none (R15). -/
theorem applyAll_refused (a : ChanSettings × Bool) (l : List (Byte × Half)) (h : ¬ ∀ p ∈ l, PairAccepted p) :
    applyAll chanSetting a l = none := by
  induction l generalizing a with
  | nil => exact absurd (by simp) h
  | cons p l ih =>
    rw [applyAll]
    by_cases hp : PairAccepted p
    · rw [chanSetting_accepted a.1 a.2 p hp]
      exact ih _ fun hl => h (List.forall_mem_cons.2 ⟨hp, hl⟩)
    · rw [chanSetting_refused a p hp]

/-- Settings in range stay so through any list (section 1.6). -/
theorem ChanSettings.after_ok {c : ChanSettings} (h : c.Ok) (l : List (Byte × Half)) : (c.after l).Ok := by
  have num : ∀ (k lo hi old : Nat), lo ≤ hi → lo ≤ old ∧ old ≤ hi →
      lo ≤ ((carriedValue l k).map fun v => max lo (min hi v)).getD old
        ∧ ((carriedValue l k).map fun v => max lo (min hi v)).getD old ≤ hi := fun k lo hi old hh ho => by
    cases carriedValue l k with
    | none => exact ho
    | some v => simp only [Option.map_some, Option.getD_some]; omega
  obtain ⟨r1, r2, l1, l2, d1, d2, s1, s2, t2, b1, b2⟩ := h
  obtain ⟨hr1, hr2⟩ := num 3 10 1200 c.rate (by omega) ⟨r1, r2⟩
  obtain ⟨hl1, hl2⟩ := num 4 25 75 c.lowShare (by omega) ⟨l1, l2⟩
  obtain ⟨hd1, hd2⟩ := num 5 1 255 c.dStretchLimit (by omega) ⟨d1, d2⟩
  obtain ⟨hs1, hs2⟩ := num 6 1 255 c.stuckLimit (by omega) ⟨s1, s2⟩
  obtain ⟨-, ht2⟩ := num 7 0 60000 c.holdTimeout (by omega) ⟨Nat.zero_le _, t2⟩
  obtain ⟨hb1, hb2⟩ := num 8 10 1000 c.busFreeTime (by omega) ⟨b1, b2⟩
  exact ⟨hr1, hr2, hl1, hl2, hd1, hd2, hs1, hs2, ht2, hb1, hb2⟩

/-- A list that carries neither the rate nor the low share keeps both. -/
theorem ChanSettings.after_plan (c : ChanSettings) (l : List (Byte × Half))
    (h : (writesSetting l 3 || writesSetting l 4) = false) :
    (c.after l).rate = c.rate ∧ (c.after l).lowShare = c.lowShare := by
  rw [Bool.or_eq_false_iff, ← carriedValue_isSome, ← carriedValue_isSome, Option.isSome_eq_false_iff,
    Option.isSome_eq_false_iff, Option.isNone_iff_eq_none, Option.isNone_iff_eq_none] at h
  simp [ChanSettings.after, h.1, h.2]

end Sys2Proof.Machine
end

section
/-! The commands that move the supply, a mode or the settings keep the invariants of both (R8, R9, R15, R35). -/

namespace Sys2Proof.Machine

variable (s : State) (ch : Chan)

/-- A channel's outline. -/
def Outline.chan (o : Outline) : Chan → Channel.Outline
  | .c0 => o.ch0
  | .c1 => o.ch1

@[simp] theorem State.outline_chan : s.outline.chan ch = (s.chan ch).outline := by cases ch <;> rfl

/-- The target mode is ISOLATED (R8). -/
def Outline.mustBeOut (o : Outline) (ch : Chan) : Prop :=
  o.supply = .tripped ∨ o.follow = true ∧ (o.supply = .off ∨ o.supply = .ramping)
    ∨ (o.chan ch).settings.requested = .isolated

theorem State.target_isolated : s.target ch = .isolated ↔ s.outline.mustBeOut ch := by
  unfold State.target Outline.mustBeOut
  rw [s.outline_chan ch]
  by_cases h1 : s.supply.state = .tripped
  · simp [State.outline, h1]
  · by_cases h2 : s.supply.settings.follow = true ∧ (s.supply.state = .off ∨ s.supply.state = .ramping)
    · simp [State.outline, h2]
    · rw [if_neg h1, if_neg h2]
      cases hr : (s.chan ch).settings.requested <;> simp_all [State.outline, Channel.outline]
      all_goals split <;> simp_all

/-- What a command keeps: the invariants of modes and of settings. -/
def KeepsOrder (s t : State) : Prop := (s.IsolationOk → t.IsolationOk) ∧ (s.SettingsOk → t.SettingsOk)

theorem State.isolationOk_iff : s.IsolationOk ↔ ∀ ch, s.outline.mustBeOut ch → (s.outline.chan ch).mode
    = .isolated := by
  simp only [State.IsolationOk, s.target_isolated, State.outline_chan, Channel.outline]

/-- Settings in range with their plan (R35). -/
def Channel.Outline.settingsOk (c : Channel.Outline) : Prop :=
  c.settings.Ok ∧ c.plan = planOf c.settings.rate c.settings.lowShare

theorem State.settingsOk_iff : s.SettingsOk ↔ ∀ ch, (s.outline.chan ch).settingsOk := by
  simp only [State.SettingsOk, State.outline_chan, Channel.outline, Channel.Outline.settingsOk]

variable {s} in
theorem KeepsOrder.of_outline {t : State} (h : t.outline = s.outline) : KeepsOrder s t := by
  simp only [KeepsOrder, State.isolationOk_iff, State.settingsOk_iff, h, imp_self, and_self]

theorem KeepsOrder.trans {s t u : State} (h : KeepsOrder s t) (k : KeepsOrder t u) : KeepsOrder s u :=
  ⟨fun x => k.1 (h.1 x), fun x => k.2 (h.2 x)⟩

/-- A supply state that lets no more channels on a bus than before, the channels as they were, keeps both
invariants. -/
theorem KeepsOrder.of_supply {s t : State} (h0 : t.ch0.outline = s.ch0.outline) (h1 : t.ch1.outline = s.ch1.outline)
    (h : ∀ ch, t.outline.mustBeOut ch → s.outline.mustBeOut ch) : KeepsOrder s t := by
  have e : ∀ ch, t.outline.chan ch = s.outline.chan ch := fun ch => by cases ch <;> assumption
  simp only [KeepsOrder, State.isolationOk_iff, State.settingsOk_iff, e]
  exact ⟨fun k ch hm => k ch (h ch hm), id⟩

/-! ### The entry to ISOLATED -/

/-- Channel `ch` ISOLATED where `due`. -/
def Outline.isolateIf (o : Outline) (ch : Chan) (due : Bool) : Outline :=
  match ch, due with
  | _, false => o
  | .c0, true => { o with ch0 := { o.ch0 with mode := .isolated } }
  | .c1, true => { o with ch1 := { o.ch1 with mode := .isolated } }

theorem Outline.isolateIf_chan (o : Outline) (ch x : Chan) (due : Bool) :
    (o.isolateIf ch due).chan x = { o.chan x with mode := if due = true ∧ x = ch then .isolated else
        (o.chan x).mode } := by
  cases ch <;> cases x <;> cases due <;> rfl

@[simp] theorem Outline.isolateIf_mustBeOut (o : Outline) (ch x : Chan) (due : Bool) :
    (o.isolateIf ch due).mustBeOut x ↔ o.mustBeOut x := by
  cases ch <;> cases x <;> cases due <;> rfl

theorem Channel.outline_abandonClear_isolated (c : Channel) :
    ({ c.abandonClear with mode := .isolated, pull := .released } : Channel).outline
      = { c.outline with mode := .isolated } := by
  unfold Channel.abandonClear
  (repeat' split) <;> rfl

/-- Of the outline an entry to ISOLATED changes the mode alone (R9). -/
theorem State.outline_isolate (c : JobCause) : (s.isolate ch c).outline = s.outline.isolateIf ch true := by
  unfold State.isolate
  simp only [State.outline_event, State.outline_endJobOn]
  rw [State.outline_onChan _ _ Channel.outOfBus fun _ => rfl, State.outline_abandonHold,
    State.outline_onChan _ _ _ (by simp), State.outline_endExchange]
  cases ch <;> simp [State.onChan, State.setChan, State.outline, Channel.outline_abandonClear_isolated,
    Outline.isolateIf]

theorem State.outline_isolateIfDue (c : JobCause) (t : State) :
    (s.isolateIfDue c ch t).outline = t.outline.isolateIf ch (s.mustIsolate ch) := by
  unfold State.isolateIfDue
  cases s.mustIsolate ch
  · cases ch <;> rfl
  · exact t.outline_isolate ch c

/-- Both channels take the change where it is due, whichever comes first (R183). -/
theorem State.outline_isolateBoth (c : JobCause) :
    (s.isolateBoth c).outline
      = (s.outline.isolateIf .c0 (s.mustIsolate .c0)).isolateIf .c1 (s.mustIsolate .c1) := by
  unfold State.isolateBoth State.onBoth
  simp only [State.outline_retimeAll, State.outline_ite, State.outline_isolateIfDue, State.outline_with]
  cases s.mustIsolate .c0 <;> cases s.mustIsolate .c1 <;> simp [Outline.isolateIf]

theorem State.mustIsolate_iff :
    s.mustIsolate ch = true ↔ (s.chan ch).mode ≠ .isolated ∧ s.outline.mustBeOut ch := by
  simp [State.mustIsolate, s.target_isolated]

/-- After the entries to ISOLATED that are due no channel is on a bus it must be out of (R8, R9). -/
theorem State.isolateBoth_isolationOk (c : JobCause) : (s.isolateBoth c).IsolationOk := by
  rw [State.isolationOk_iff]
  intro ch h
  rw [State.outline_isolateBoth] at h ⊢
  simp only [Outline.isolateIf_mustBeOut] at h
  have h0 := s.mustIsolate_iff ch
  by_cases hm : (s.chan ch).mode = .isolated <;> cases ch <;>
    simp_all [Outline.isolateIf_chan, Channel.outline]

theorem State.isolateBoth_settingsOk (c : JobCause) : (s.isolateBoth c).SettingsOk ↔ s.SettingsOk := by
  simp only [State.settingsOk_iff, State.outline_isolateBoth, Outline.isolateIf_chan, Channel.Outline.settingsOk]

/-- The entries that are due after a change of the supply alone keep both invariants. -/
theorem State.isolateBoth_keepsOrder (u : State) (c : JobCause) (h : ∀ ch, (u.chan ch).outline =
    (s.chan ch).outline) :
    KeepsOrder s (u.isolateBoth c) :=
  ⟨fun _ => State.isolateBoth_isolationOk _ _, fun k => (State.isolateBoth_settingsOk _ _).2 <| by
    simpa only [State.settingsOk_iff, State.outline_chan, h] using k⟩

/-! ### The supply -/

@[simp] theorem State.onSupply_chan (f : Supply → Supply) : (s.onSupply f).chan ch = s.chan ch := by cases ch <;> rfl

@[simp] theorem State.outline_supplyEvent : s.supplyEvent.outline = s.outline := by simp [State.supplyEvent]

theorem State.outline_chan_supplyEvent : (s.supplyEvent.chan ch).outline = (s.chan ch).outline := by
  rw [← State.outline_chan, State.outline_supplyEvent, State.outline_chan]

/-- A supply state that lets no more channels be where they must not than before keeps both invariants. -/
theorem KeepsOrder.onSupply (f : Supply → Supply)
    (h : ∀ ch, (s.onSupply f).outline.mustBeOut ch → s.outline.mustBeOut ch) :
    KeepsOrder s (s.onSupply f).supplyEvent :=
  .of_supply (State.outline_chan_supplyEvent _ .c0) (State.outline_chan_supplyEvent _ .c1) (by simpa using h)

/-- A trip leaves both channels out of their buses (R183). -/
theorem State.trip_keepsOrder (c : TripCause) : KeepsOrder s (s.trip c) :=
  (s.isolateBoth_keepsOrder _ _ (by simp [State.outline_chan_supplyEvent])).trans
      (.of_outline (State.outline_occur ..))

/-- The entry to OFF from STOPPING (R181). -/
theorem State.endStopping_keepsOrder (r : StopResult) : KeepsOrder s (s.endStopping r) :=
  s.isolateBoth_keepsOrder _ _ (by simp [State.outline_chan_supplyEvent])

/-- The entry to STOPPING, which lets a channel stay on its bus (R180). -/
theorem State.enterStopping_keepsOrder : KeepsOrder s s.enterStopping := by
  have entry : KeepsOrder s (s.onSupply Supply.stop).supplyEvent := .onSupply s _ fun ch h => by
    simp_all [Outline.mustBeOut, State.outline, Supply.stop, State.onSupply, Outline.chan]
  have rest : ∀ (u : State) (b : Bool), KeepsOrder u
      ((u.onBoth b fun ch t => t.refuseHeld ch).enterEnding .supplyOff) := fun u b => .of_outline <| by
    simp [State.onBoth]
  unfold State.enterStopping
  dsimp only
  split
  · exact (entry.trans (rest _ _)).trans (State.endStopping_keepsOrder _ _)
  · exact (entry.trans (rest _ _)).trans (.of_outline (State.outline_retimeAll _))

theorem ownPowerOn_keepsOrder : KeepsOrder s (ownPowerOn s).1 := by
  unfold ownPowerOn
  split
  case h_1 h =>
    refine .onSupply s _ fun ch h' => ?_
    simp_all [Outline.mustBeOut, State.outline, Supply.ramp, State.onSupply, Outline.chan]
  all_goals exact .of_outline rfl

theorem ownPowerOff_keepsOrder : KeepsOrder s (ownPowerOff s).1 := by
  unfold ownPowerOff
  split
  case h_1 h =>
    refine .onSupply s _ fun ch h' => ?_
    simp_all [Outline.mustBeOut, State.outline, Supply.toOff, Supply.dropRamp, State.onSupply, Outline.chan]
  case h_2 => exact s.enterStopping_keepsOrder
  case h_3 => exact .of_outline rfl

theorem ownClearTrip_keepsOrder : KeepsOrder s (ownClearTrip s).1 := by
  unfold ownClearTrip
  split
  case h_1 h =>
    split
    · exact .of_outline rfl
    · exact .onSupply s _ fun ch _ => .inl h
  case h_2 => exact .of_outline rfl

theorem ownTripTest_keepsOrder : KeepsOrder s (ownTripTest s).1 := by
  unfold ownTripTest
  split
  · exact .of_outline rfl
  · exact s.trip_keepsOrder .test

theorem ownSupplyConfig_keepsOrder (l : List (Byte × Half)) : KeepsOrder s (ownSupplyConfig l s).1 := by
  unfold ownSupplyConfig
  (repeat' split) <;> try exact .of_outline rfl
  exact s.isolateBoth_keepsOrder _ _ (by simp)

/-! ### SET CHANNEL -/

/-- What a SET CHANNEL does: it is refused and changes nothing, or nothing is wrong with its list and each setting it
carries is written (R15). -/
theorem ownSetChannel_cases (chan : Byte) (l : List (Byte × Half)) :
    (ownSetChannel chan l s).1 = s ∨ ∃ ch, (ownSetChannel chan l s).1 =
      ((s.retimeAll.onChan ch fun c => c.setSettings l ((s.chan ch).settings.after l)).isolateIfDue .mode ch
        (s.retimeAll.onChan ch fun c => c.setSettings l ((s.chan ch).settings.after l))).retimeAll := by
  unfold ownSetChannel
  split
  · exact .inl rfl
  · rename_i ch _
    split
    · exact .inl rfl
    · rename_i hl
      have hr : noRepeat l = true := by
        by_contra h
        exact hl (.inr (eq_false_of_ne_true h))
      by_cases ha : ∀ p ∈ l, PairAccepted p
      · rw [applyAll_accepted _ _ _ hr ha]
        dsimp only
        split
        · exact .inl rfl
        · exact .inr ⟨ch, rfl⟩
      · rw [applyAll_refused _ _ ha]
        exact .inl rfl

/-- The settings written and the plan with them are in order (R15, R35). -/
theorem Channel.setSettings_ok (c : Channel) (l : List (Byte × Half)) (h : c.outline.settingsOk) :
    (c.setSettings l (c.settings.after l)).outline.settingsOk := by
  refine ⟨ChanSettings.after_ok h.1 l, ?_⟩
  simp only [Channel.outline, Channel.setSettings]
  split
  · rfl
  · rename_i hp
    obtain ⟨hr, hs⟩ := c.settings.after_plan l (eq_false_of_ne_true hp)
    rw [hr, hs]
    exact h.2

theorem ownSetChannel_keepsOrder (chan : Byte) (l : List (Byte × Half)) :
    KeepsOrder s (ownSetChannel chan l s).1 := by
  rcases ownSetChannel_cases s chan l with h | ⟨ch, h⟩
  · rw [h]
    exact .of_outline rfl
  rw [h]
  generalize hu : (s.retimeAll.onChan ch fun c => c.setSettings l ((s.chan ch).settings.after l)) = u
  have rest : (u.chan (other ch)).outline = (s.chan (other ch)).outline := by
    rw [← hu, State.chan_onChan_other, ← State.outline_chan, State.outline_retimeAll, State.outline_chan]
  have self : (s.chan ch).outline.settingsOk → (u.chan ch).outline.settingsOk := fun h => by
    rw [← hu, State.chan_onChan_same]
    have e : s.retimeAll.chan ch = { s.chan ch with meters := (s.retimeAll.chan ch).meters } :=
      s.sameChannel_retimeAll ch
    have := (s.retimeAll.chan ch).setSettings_ok l (by rw [e]; exact h)
    rwa [State.retimeAll_chan_settings] at this
  have must : u.outline.mustBeOut (other ch) → s.outline.mustBeOut (other ch) := fun h => by
    have hs : u.outline.supply = s.outline.supply ∧ u.outline.follow = s.outline.follow := by
      rw [← hu]; cases ch <;> exact ⟨rfl, rfl⟩
    simpa only [Outline.mustBeOut, hs, State.outline_chan, rest] using h
  have each : ∀ {p : Chan → Prop}, p ch → p (other ch) → ∀ x, p x := fun h k x => by
    cases ch <;> cases x <;> assumption
  simp only [KeepsOrder, State.isolationOk_iff, State.settingsOk_iff, State.outline_retimeAll,
    State.outline_isolateIfDue, Outline.isolateIf_mustBeOut, Outline.isolateIf_chan, State.outline_chan]
  refine ⟨fun k => each (fun h => ?_) (fun h => ?_), fun k => each (self (k ch)) ?_⟩
  · have := u.mustIsolate_iff ch
    by_cases hm : (u.chan ch).mode = .isolated <;> simp_all [Channel.outline]
  · rw [rest]
    simp [k _ (must h)]
  · have := k (other ch)
    rw [← rest] at this
    exact this

/-! ### The effective mode -/

theorem Channel.changeTo_outline (c : Channel) (m : Mode) : (c.changeTo m).outline = { c.outline with
    mode := m } := by
  unfold Channel.changeTo
  dsimp only
  split <;> rfl

/-- A change of effective mode takes the channel to its target (R10). -/
theorem State.modeChange_keepsOrder :
    KeepsOrder s ((s.onChan ch fun c => c.changeTo (s.target ch)).event (some ch) (.mode
        (s.target ch))).retimeAll := by
  refine KeepsOrder.trans ?_ (.of_outline ((State.outline_retimeAll _).trans (State.outline_event ..)))
  have each : ∀ {p : Chan → Prop}, p ch → p (other ch) → ∀ x, p x := fun h k x => by
    cases ch <;> cases x <;> assumption
  have must : ∀ x, (s.onChan ch fun c => c.changeTo (s.target ch)).outline.mustBeOut x ↔ s.outline.mustBeOut x := by
    refine each ?_ ?_ <;>
      simp [Outline.mustBeOut, Channel.changeTo_outline] <;> simp [State.outline]
  simp only [KeepsOrder, State.isolationOk_iff, State.settingsOk_iff, must, State.outline_chan]
  refine ⟨fun k => each (fun h => ?_) ?_, fun k => each ?_ ?_⟩
  · simpa [Channel.changeTo_outline] using (s.target_isolated ch).2 h
  · simpa using k (other ch)
  · simpa [Channel.changeTo_outline, Channel.Outline.settingsOk] using k ch
  · simpa using k (other ch)

/-! ### The two resets -/

theorem ChanSettings.default_ok : ChanSettings.default.Ok := by unfold ChanSettings.Ok; decide

theorem Channel.reset_settingsOk (m : Mode) (e : Lines) : (Channel.reset m e).outline.settingsOk :=
  ⟨ChanSettings.default_ok, (by decide : (⟨240, 240⟩ : Plan) = planOf 100 50)⟩

theorem State.powerOnReset_keepsOrder : KeepsOrder s s.powerOnReset := by
  simp only [KeepsOrder, State.isolationOk_iff, State.settingsOk_iff, State.outline_chan]
  exact ⟨fun _ ch _ => by cases ch <;> rfl, fun _ ch => by cases ch <;> exact Channel.reset_settingsOk ..⟩

/-- After a SOFT RESET each channel is in the mode its target gives (R19). -/
theorem State.softReset_keepsOrder : KeepsOrder s s.softReset := by
  simp only [KeepsOrder, State.isolationOk_iff, State.settingsOk_iff, State.outline_chan]
  refine ⟨fun _ ch h => ?_, fun _ ch => by cases ch <;> exact Channel.reset_settingsOk ..⟩
  have hm : (s.softReset.chan ch).outline.mode = s.supply.resetMode := by cases ch <;> rfl
  have hr : (s.softReset.outline.chan ch).settings.requested = .monitor := by cases ch <;> rfl
  rw [Outline.mustBeOut, hr] at h
  rw [hm, Supply.resetMode]
  rcases h with h | h | h
  · exact if_pos h
  · exact (ite_congr rfl (fun _ => rfl) fun _ => if_pos h).trans (ite_self _)
  · cases h

end Sys2Proof.Machine
end

section
/-! Every step keeps the invariants of modes and settings (O58). -/

namespace Sys2Proof.Machine

variable (s : State) (ch : Chan)

/-- Every next state a command ends in has the property. -/
def Leads (o : Host.Outcome State Fault Refusal) (p : State → Prop) : Prop := ∀ t, o = .next t → p t

@[simp] theorem leads_next (t : State) (p : State → Prop) : Leads (.next t) p ↔ p t :=
  ⟨fun h => h t rfl, fun h u e => by cases e; exact h⟩

@[simp] theorem leads_ite (c : Prop) [Decidable c] (a b : Host.Outcome State Fault Refusal) (p : State → Prop) :
    Leads (if c then a else b) p ↔ (c → Leads a p) ∧ (¬ c → Leads b p) := by split <;> simp_all

/-- A command that leads to a state with the same outline. -/
def SameOutline (t : State) : Prop := t.outline = s.outline

@[simp] theorem sameOutline_iff (t : State) : SameOutline s t ↔ t.outline = s.outline := .rfl

theorem requestOwner_keepsOrder {i : Instr} {p : Byte × (State → State × Answer)} (h : requestOwner i = some p) :
    KeepsOrder s (p.2 s).1 := by
  cases i <;> cases h
  case setChannel => exact ownSetChannel_keepsOrder s _ _
  case supplyConfig => exact ownSupplyConfig_keepsOrder s _
  case powerOn => exact ownPowerOn_keepsOrder s
  case powerOff => exact ownPowerOff_keepsOrder s
  case clearTrip => exact ownClearTrip_keepsOrder s
  case tripTest => exact ownTripTest_keepsOrder s
  all_goals refine .of_outline ?_
  all_goals try rfl
  all_goals
    simp only [ownChannelReset, ownWriteRule, ownEraseRule, ownReadRule, ownRearm, ownSetEnabled, ownImageConfig,
        ownImageWrite, ownImageRead, ownImageProtect, ownRelease, ownPark, ownHoldStatus, ownLogConfig,
        ownLogRead, ownLogClear, ownCompareConfig, ownCompareArm, ownCompareDisarm, ownTrigInConfig, ownTrigOut,
        ownRouteWrite, ownRouteRead, ownBusClear, ownHealthConfig, ownHealthStatus, ownStatsRead, ownStageWrite,
        ownStageRead, ownStageCheck, ownJobStart, ownJobAbort, ownGetChannel]
    (repeat' split) <;> simp

theorem State.outline_receive (b : Byte) : (s.receive b).outline = s.outline := by
  unfold State.receive State.headerDone State.judgeFrame State.acceptFrame State.discardFrame
  dsimp only
  (repeat' split) <;> simp

theorem State.outline_startFrame : s.startFrame.outline = s.outline := by
  unfold State.startFrame State.startReport
  (repeat' split) <;> simp

theorem Leads.keepsOrder {s : State} {o : Host.Outcome State Fault Refusal} (h : Leads o (SameOutline s)) :
    Leads o (KeepsOrder s) := fun t ht => .of_outline (h t ht)

theorem State.reply_keepsOrder (tag code : Byte) (a : Answer) : KeepsOrder s (s.reply tag code a) := .of_outline rfl

/-- A frame answered is the request's own action, or none (R191). -/
theorem State.answerFrame_keepsOrder (r : Request) : KeepsOrder s (s.answerFrame r) := by
  unfold State.answerFrame
  split
  · exact s.reply_keepsOrder ..
  · split
    · exact .of_outline rfl
    · rename_i h
      exact (requestOwner_keepsOrder s h).trans (State.reply_keepsOrder ..)

theorem execDispatch_keepsOrder : Leads (execDispatch s) (KeepsOrder s) := by
  unfold execDispatch
  split
  · exact (leads_next ..).2 (.of_outline rfl)
  · split
    · refine (leads_next ..).2 (KeepsOrder.trans ?_ (State.answerFrame_keepsOrder _ _))
      exact .of_outline rfl
    · exact (leads_next ..).2 (.of_outline rfl)

/-- The events that move the supply or a mode keep both invariants, and every other event leaves the outline as it
was. -/
theorem exec_event_keepsOrder {i : Instr} (h : requestOwner i = none) : Leads (exec i s) (KeepsOrder s) := by
  have same : KeepsOrder s s := .of_outline rfl
  cases i <;> simp only [requestOwner, reduceCtorEq] at h
  case softResetTaken =>
    simp only [exec, execSoftResetTaken, leads_ite, leads_next]
    exact ⟨fun _ => ⟨fun _ => s.softReset_keepsOrder.trans ((State.endStopping_keepsOrder _ _).trans
      (.of_outline (State.outline_retimeAll _))), fun _ => s.softReset_keepsOrder.trans
      (.of_outline (State.outline_retimeAll _))⟩, fun _ => same⟩
  case powerOnReset => exact (leads_next ..).2 s.powerOnReset_keepsOrder
  case powerOnResetEnd =>
    simp only [exec, execPowerOnResetEnd, leads_ite, leads_next]
    exact ⟨fun _ => .of_outline (State.outline_retimeAll _), fun _ => same⟩
  case dispatch => exact execDispatch_keepsOrder s
  case modeChange ch =>
    simp only [exec, execModeChange, leads_ite, leads_next]
    exact ⟨fun _ => s.modeChange_keepsOrder ch, fun _ => same⟩
  case settleTimeElapsed =>
    simp only [exec, execSettleTimeElapsed, leads_ite, leads_next]
    refine ⟨fun ⟨_, hr, _⟩ => KeepsOrder.trans (.onSupply s _ fun ch k => ?_) (.of_outline
        (State.outline_retimeAll _)),
      fun _ => same⟩
    simp_all [Outline.mustBeOut, State.outline, Supply.dropRamp, State.onSupply, Outline.chan]
  case stoppingQuiesced =>
    simp only [exec, execStoppingQuiesced, leads_ite, leads_next]
    exact ⟨fun _ => s.endStopping_keepsOrder _, fun _ => same⟩
  case quiesceLimitExpiry =>
    simp only [exec, execQuiesceLimitExpiry, leads_ite, leads_next]
    exact ⟨fun _ => s.endStopping_keepsOrder _, fun _ => same⟩
  case overcurrentFilterExpiry =>
    simp only [exec, execOvercurrentFilterExpiry, leads_ite, leads_next]
    exact ⟨fun _ => s.trip_keepsOrder _, fun _ => same⟩
  all_goals refine Leads.keepsOrder ?_
  case ocsenseChange => exact (leads_next ..).2 rfl
  case resetPulseEnd => exact (leads_ite ..).2 ⟨fun _ => (leads_next ..).2 rfl, fun _ => (leads_next ..).2 rfl⟩
  all_goals
    simp only [exec, execLrxByte, execReceiveTimeout, execTransmitStart, execFrameSent, execLholdChange,
        execNoticeIntervalExpiry, execTick, execCStart, execCStop, execBusFreeTimeElapsed,
        execAddressByteComplete, execDataByteComplete, execCAckComplete, execGrantWaitStuckLimit, execDSideGrant,
        execDAddressAck, execDWriteByteDone, execDReadByteDone, execDReadAckDone, execDStopComplete,
        execDStopFailed, execClosePulsesFailed, execArbitrationLoss, execDStretchTimeout, execHoldTimeout,
        execImageWindowExpiry, execCompareFire, execTriginEdge, execTrigOutPulseEnd, execStuckCDeclare,
        execStuckCClear, execStuckDLineTimeout, execStuckDClear, execBusClearPulseDone, execBusClearStopDone,
        execStatsPeriodExpiry, execChunkEnd, execProbeEnd, execBurstEnd, execPollLimitExpiry, execDSideCondition,
        execBusLineChange]
    (repeat' split) <;> simp [State.outline_receive, State.discardFrame, State.outline_startFrame]

/-- A request command is taken by its owner block (R191). -/
theorem exec_request {i : Instr} {p : Byte × (State → State × Answer)} (h : requestOwner i = some p) (s : State) :
    ∃ tag, exec i s = .next (s.serve tag p.1 p.2) := by
  cases i <;> cases h <;> exact ⟨_, rfl⟩

theorem exec_keepsOrder (i : Instr) : Leads (exec i s) (KeepsOrder s) := by
  cases h : requestOwner i with
  | none => exact exec_event_keepsOrder s h
  | some p =>
    obtain ⟨tag, e⟩ := exec_request h s
    rw [e, leads_next, State.serve]
    split
    · exact (requestOwner_keepsOrder s h).trans (State.reply_keepsOrder ..)
    · exact .of_outline rfl

/-- Settles O58: what the two invariants depend on is the outline of a state, and each command leaves it as it was or
moves it as R8, R9 and R15 let it. -/
theorem stepKeepsIsolationAndSettings : Obligations.StepKeepsIsolationAndSettings := by
  intro s t h
  unfold step at h
  split at h
  · cases h
    exact KeepsOrder.of_outline rfl
  · refine KeepsOrder.trans (.of_outline ?_) (exec_keepsOrder _ _ t h)
    rfl

end Sys2Proof.Machine
end

section
/-! GET CHANNEL (O14) and the state after power-on reset (O55). -/

namespace Sys2Proof.Machine

theorem ownGetChannel_code (s : State) (ch : Chan) :
    ownGetChannel (chanCode ch) s = (s, okWith ((s.chan ch).settings.bytes ++ le32 (s.chan ch).settings.plan.achieved
      ++ [(s.chan ch).mode.code, (s.target ch).code] ++ yesNo (s.chan ch).fallback
      ++ [(s.chan ch).sync.code, (s.chan ch).phase.code] ++ yesNo (s.chan ch).seenFree
      ++ yesNo (decide ((s.chan ch).arb.holder = .relay)))) := by
  rw [ownGetChannel, chanOf_code]

/-- Settles O14. -/
theorem getChannelReports : Obligations.GetChannelReports := by
  intro s tag hr
  refine ⟨fun ch => ?_, fun chan h => ?_⟩
  · rw [exec, execGetChannel, s.serve_of_ready hr, ownGetChannel_code]
    simp [okWith, ChanSettings.bytes, ChanSettings.plan]
  · rw [exec, execGetChannel, s.serve_of_ready hr, ownGetChannel, chanOf_none h]
    rfl

/-! ### Power-on reset -/

theorem Entry.reset_ok : Entry.reset.remaining ≤ Entry.reset.live.passCount
    ∧ (Entry.reset.live = .empty → Entry.reset.hits = 0) := by decide

theorem Image.reset_ok : Image.reset.Ok := ⟨by decide, by decide, by decide, by decide, by decide, rfl, by simp [reset]⟩

theorem State.reset_chan (ch : Chan) : State.reset.chan ch = .reset .isolated .released := by cases ch <;> rfl

theorem State.reset_compare (slot : CompareSlot) : State.reset.compare slot = .reset := by cases slot <;> rfl

/-- Settles O55, block by block. -/
theorem resetInOrder : Obligations.ResetInOrder := by
  have table : State.reset.TableOk := ⟨rfl, fun e he => by
    rw [List.eq_of_mem_replicate (show e ∈ List.replicate 32 Entry.reset from he)]
    exact Entry.reset_ok⟩
  have images : State.reset.ImagesOk := ⟨rfl, fun i hi => by
    rw [List.eq_of_mem_replicate (show i ∈ List.replicate 4 Image.reset from hi)]
    exact Image.reset_ok⟩
  have log : State.reset.LogOk := ⟨by decide, fun r hr => (List.not_mem_nil hr).elim, fun ch => by
    rw [State.reset_chan]
    exact ⟨by decide, fun x hx => (Option.some_ne_none x hx.symm).elim⟩⟩
  have link : State.reset.LinkOk := by unfold State.LinkOk; decide
  have modes : State.reset.IsolationOk := fun ch _ => by rw [State.reset_chan]; rfl
  have settings : State.reset.SettingsOk := (State.settingsOk_iff _).2 fun ch => by
    rw [State.outline_chan, State.reset_chan]
    exact Channel.reset_settingsOk ..
  have health : State.reset.HealthOk := ⟨by decide, by decide, by decide, fun ch => by
    rw [State.reset_chan]
    decide⟩
  have supply : State.reset.SupplyOk := by unfold State.SupplyOk; decide
  have engine : State.reset.EngineOk := ⟨rfl, fun p hp => (List.not_mem_nil hp).elim,
    fun j hj => (Option.some_ne_none j hj.symm).elim, rfl⟩
  have triggers : State.reset.TriggersOk := ⟨fun slot => by rw [State.reset_compare]; decide, by decide, by decide, rfl,
    fun r hr => by
      rw [List.eq_of_mem_replicate (show r ∈ List.replicate 8 Route.reset from hr)]
      decide⟩
  exact ⟨table, images, log, link, modes, settings, health, supply, engine, triggers⟩

end Sys2Proof.Machine
end

section
/-! SET CHANNEL accepted and refused (R15), and O12, which fails: a measurement of high D-side lines need not go on.
Where none of the modes a channel is in or waits for watches its D-side, a count left there is dropped, and a request
that makes MONITOR the target begins a new one (R5, R16). -/

namespace Sys2Proof.Machine

/-- A list asks for MONITOR exactly where it carries that value of the requested mode. -/
theorem asksMonitor_iff (l : List (Byte × Half)) : asksMonitor l = true ↔ (0, 0) ∈ l := by
  have e : ∀ p : Byte × Half, p.1.toNat = 0 ∧ p.2.toNat = 0 ↔ p = (0, 0) := fun p => by
    simp [Prod.ext_iff, ← BitVec.toNat_inj]
  simp [asksMonitor, Mode.code, e]

/-- The state of an accepted SET CHANNEL once the settings are written, before the entry to ISOLATED that may be due. -/
def State.withSettings (s : State) (ch : Chan) (l : List (Byte × Half)) : State :=
  s.retimeAll.onChan ch fun c => c.setSettings l ((s.chan ch).settings.after l)

/-- An accepted SET CHANNEL (R15). -/
theorem ownSetChannel_accepted (s : State) (ch : Chan) {l : List (Byte × Half)} (hl : SettingsAccepted l)
    (hj : s.jobOn ch = true → (0, 0) ∉ l) :
    ownSetChannel (chanCode ch) l s =
      (((s.withSettings ch l).isolateIfDue .mode ch (s.withSettings ch l)).retimeAll,
        okOrAdjusted (l.any pairClamped) (le32 ((s.chan ch).settings.after l).plan.achieved)) := by
  obtain ⟨hne, hr, ha⟩ := (settingsAccepted_iff l).1 hl
  rw [ownSetChannel, chanOf_code]
  dsimp only
  rw [if_neg (by simp [hne, hr]), applyAll_accepted _ _ _ hr ha]
  dsimp only
  rw [if_neg fun h => hj h.1 ((asksMonitor_iff l).1 h.2), Bool.false_or]
  rfl

/-- Channel 0 is ISOLATED and waits for ACTIVE, the supply ON, its bus-free measurement of the D-side left at 5 of 5. -/
def staleDIdle : State :=
  { State.reset with
    supply := { State.reset.supply with state := .on }
    ch0 := { State.reset.ch0 with
      settings := { ChanSettings.default with requested := .active }
      meters := { Meters.stopped with dIdle := some ⟨5, 5⟩ } } }

/-- The settings of the request that refutes: requested mode MONITOR. -/
def askMonitor : List (Byte × Half) := [(0, 0)]

theorem staleDIdle_ready : Ready staleDIdle := ⟨rfl, by decide, rfl⟩

theorem staleDIdle_isolationOk : staleDIdle.IsolationOk := fun ch h => by
  cases ch <;> exact absurd h (by decide)

theorem askMonitor_accepted : SettingsAccepted askMonitor :=
  (settingsAccepted_iff _).2 ⟨by decide, rfl, by simp [askMonitor, PairAccepted]⟩

/-- The request begins the measurement anew, with the bus-free time as its limit. -/
theorem staleDIdle_dIdle_after :
    ((ownSetChannel (chanCode .c0) askMonitor staleDIdle).1.chan .c0).meters.dIdle = some ⟨0, 100⟩ := by
  rw [ownSetChannel_accepted staleDIdle .c0 askMonitor_accepted fun h => by cases h]
  have stays : (staleDIdle.withSettings .c0 askMonitor).mustIsolate .c0 = false := rfl
  rw [State.isolateIfDue, stays]
  rfl

/-- Refutes O12: the D-side's bus-free measurement of `staleDIdle` stands at 5 of 5 before the request and at 0 of 100
after it. -/
theorem not_setChannel : ¬ Obligations.SetChannel := by
  intro h
  obtain ⟨u, st, hu, -, -, -, -, -, -, -, -, -, hkeeps⟩ := h.2 staleDIdle 0 .c0 askMonitor staleDIdle_ready
    staleDIdle_isolationOk askMonitor_accepted (fun hj => by cases hj) (.inr rfl)
  have hc : u.chan .c0 = (ownSetChannel (chanCode .c0) askMonitor staleDIdle).1.chan .c0 := by
    rw [exec, execSetChannel, staleDIdle.serve_of_ready staleDIdle_ready, Host.Outcome.next.injEq] at hu
    exact (congrArg (State.chan · .c0) hu).symm
  have := hkeeps ⟨5, 5⟩ ⟨0, 100⟩ (.inl ⟨rfl, by rw [hc, staleDIdle_dIdle_after]⟩)
  exact absurd this (by decide)

end Sys2Proof.Machine
end

section
/-! SUPPORT. What an ended hold, an exchange ended ABORTED, an occurrence and an ended job make of the channels and of
the notice word. -/

namespace Sys2Proof.Machine

variable (s : State) (ch : Chan)

/-! ### Channels through the operations that change none -/

@[simp] theorem State.hand_chan (x : Option Chan) (b : Body) (c : Chan) : (s.hand x b).chan c = s.chan c := by
  cases c <;> simp [State.chan]

@[simp] theorem State.event_chan (x : Option Chan) (e : Event) (c : Chan) : (s.event x e).chan c = s.chan c :=
  s.hand_chan x _ c

@[simp] theorem State.raise_chan (n : Notice) (c : Chan) : (s.raise n).chan c = s.chan c := by cases c <;> rfl

@[simp] theorem State.raiseIf_chan (b : Bool) (n : Notice) (c : Chan) : (s.raiseIf b n).chan c = s.chan c := by
  cases b <;> cases c <;> rfl

/-! ### Notices: one that is set stays set (R193) -/

/-- Of the link only the notice word changed, and every notice set before is set after. -/
structure NoticesStay (s t : State) : Prop where
  rest : t.link = { s.link with notices := t.link.notices }
  keep : ∀ n, s.link.noticed n = true → t.link.noticed n = true

theorem NoticesStay.of_link {s t : State} (h : t.link = s.link) : NoticesStay s t :=
    ⟨by rw [h], fun n hn => by rwa [h]⟩

theorem NoticesStay.trans {s t u : State} (h : NoticesStay s t) (k : NoticesStay t u) : NoticesStay s u :=
  ⟨by rw [k.rest, h.rest], fun n hn => k.keep n (h.keep n hn)⟩

theorem State.raise_stay (n : Notice) : NoticesStay s (s.raise n) :=
  ⟨rfl, fun m hm => by simp_all [State.raise, Link.noticed, raiseIn]⟩

theorem State.raise_noticed (n : Notice) : (s.raise n).link.noticed n = true := by
  cases n <;> simp [State.raise, Link.noticed, raiseIn, Notice.bit]

theorem State.raiseIf_stay (b : Bool) (n : Notice) : NoticesStay s (s.raiseIf b n) := by
  cases b
  · exact .of_link rfl
  · exact s.raise_stay n

theorem State.hand_stay (x : Option Chan) (b : Body) : NoticesStay s (s.hand x b) := by
  unfold State.hand
  generalize s.log.take s.tick x b = l
  have log : NoticesStay s { s with log := l.log } := .of_link rfl
  exact log.trans ((State.raiseIf_stay _ l.loss .logloss).trans (State.raiseIf_stay _ l.fill .logfill))

theorem State.snapshotNow_stay : NoticesStay s s.snapshotNow := by
  unfold State.snapshotNow
  dsimp only
  refine NoticesStay.trans ?_ (State.raise_stay _ _)
  exact .of_link rfl

theorem State.act_stay (a : Option RouteAction) : NoticesStay s (s.act a) := by
  unfold State.act
  split
  case h_8 => exact s.snapshotNow_stay
  all_goals exact .of_link (by simp)

theorem State.occur_stay (x : Source) (e : Option Nat) : NoticesStay s (s.occur x e) := by
  have acts : ∀ (l : List Route) (u : State), NoticesStay u (l.foldl (fun s r => s.act r.action) u) := fun l => by
    induction l with
    | nil => exact fun u => .of_link rfl
    | cons r l ih => exact fun u => (u.act_stay r.action).trans (ih _)
  unfold State.occur
  dsimp only
  split
  · exact .of_link rfl
  · refine (s.hand_stay none (.trigger x e)).trans ?_
    have fires : ∀ (u : State) (l : List Route), NoticesStay u { u with routes := l } := fun u l => .of_link rfl
    exact (fires _ _).trans (acts _ _)

/-! ### An occurrence (R140) -/

/-- What the actions of routes may change of a channel: the counters, by a snapshot, and outside ISOLATED the park
flag. -/
structure Routed (c d : Channel) : Prop where
  eq : d = { c with
    park := d.park, health := { c.health with running := d.health.running, snapshot := d.health.snapshot } }
  park : c.mode = .isolated → d.park = c.park

theorem Routed.refl (c : Channel) : Routed c c := ⟨rfl, fun _ => rfl⟩

theorem Routed.trans {c d e : Channel} (h : Routed c d) (k : Routed d e) : Routed c e := by
  have hm : d.mode = c.mode := by rw [h.eq]
  exact ⟨by rw [k.eq, h.eq], fun hc => (k.park (hm.trans hc)).trans (h.park hc)⟩

theorem State.act_routed (a : Option RouteAction) (c : Chan) : Routed (s.chan c) ((s.act a).chan c) := by
  have park : ∀ x, Routed (s.chan c) ((s.setPark x).chan c) := fun x => by
    unfold State.setPark
    split
    · exact .refl _
    · cases x <;> cases c <;> first | exact .refl _ | exact ⟨rfl, fun h => absurd h ‹_›⟩
  unfold State.act
  split
  case h_4 | h_5 => exact park _
  all_goals cases c <;> exact ⟨rfl, fun _ => rfl⟩

theorem State.occur_routed (x : Source) (e : Option Nat) (c : Chan) : Routed (s.chan c) ((s.occur x e).chan c) := by
  have acts : ∀ (l : List Route) (u : State), Routed (u.chan c) ((l.foldl (fun s r => s.act r.action) u).chan c) :=
    fun l => by
      induction l with
      | nil => exact fun u => .refl _
      | cons r l ih => exact fun u => (u.act_routed r.action c).trans (ih _)
  unfold State.occur
  dsimp only
  split
  · exact .refl _
  · refine Routed.trans ?_ (acts _ _)
    cases c <;> simp [State.chan] <;> exact .refl _

/-! ### A hold that ends (R95 to R101) -/

theorem State.endHold_chan (a : Option Planned) (c : HoldCause) :
    (s.endHold ch a c).chan ch = { s.chan ch with hold := none }
      ∧ (s.endHold ch a c).chan (other ch) = s.chan (other ch) := by
  unfold State.endHold
  have none_eq : ∀ d : Channel, d.hold = none → d = { d with hold := none } := fun d h => by rw [← h]
  split
  · exact ⟨none_eq _ ‹_›, rfl⟩
  · simp

theorem State.endHold_noticed (a : Option Planned) (c : HoldCause) :
    NoticesStay s (s.endHold ch a c)
      ∧ ((s.chan ch).hold.isSome = true → (s.endHold ch a c).link.noticed (holdNotice ch) = true) := by
  unfold State.endHold
  cases (s.chan ch).hold with
  | none => exact ⟨.of_link rfl, nofun⟩
  | some x =>
    have drop : NoticesStay s (s.onChan ch fun c => { c with hold := none }) := .of_link (by simp)
    exact ⟨drop.trans ((State.hand_stay _ _ _).trans (State.raise_stay _ _)), fun _ => State.raise_noticed _ _⟩

/-! ### An exchange that ends (R34) -/

@[simp] theorem State.writeWindow_chan (x : Exchange) (c : Chan) : (s.writeWindow x).chan c = s.chan c := by
  cases c <;> simp [State.chan]

@[simp] theorem State.releaseRefs_chan (x : Exchange) (c : Chan) : (s.releaseRefs x).chan c = s.chan c := by
  cases c <;> rfl

theorem State.consoleFlush_chan : (s.consoleFlush ch).chan ch = { s.chan ch with console := [] } := by
  unfold State.consoleFlush
  split
  · rename_i h
    rw [← h]
  · simp

/-- The records an ending exchange hands to the log, and what step 3 of R34 makes of the images. -/
def State.exchangeTold (s : State) (ch : Chan) (x : Exchange) (k : EndKind) : State :=
  let s1 := s.consoleFlush ch
  (if x.recordIt then s1.hand (some ch) (.exchange (x.body ((s.chan ch).addressAck x) k s.tick)) else
      s1).writeWindow x

theorem State.exchangeTold_chan (x : Exchange) (k : EndKind) :
    (s.exchangeTold ch x k).chan ch = { s.chan ch with console := [] } := by
  unfold State.exchangeTold
  split <;> simp [State.consoleFlush_chan]

/-- An exchange that ends ABORTED: no clean exchange, so of its channel's health the counters alone change (R34, R146,
R153). -/
theorem State.endExchange_aborted {x : Exchange} (hx : (s.chan ch).exch = some x) :
    s.endExchange ch .aborted
      = (((s.exchangeTold ch x .aborted).tally ch fun t =>
          t.ended x ((s.chan ch).addressAck x)).releaseRefs x).onChan ch
          Channel.clearExchange := by
  unfold State.endExchange State.exchangeTold
  rw [hx]
  simp

/-- What an exchange that ends ABORTED makes of its channel. -/
def Channel.exchangeAborted (c : Channel) : Channel :=
  match c.exch with
  | none => c
  | some x => { c.clearExchange with
      console := [], health := { c.health with running := c.health.running.ended x (c.addressAck x) } }

theorem State.endExchange_chan_aborted : (s.endExchange ch .aborted).chan ch = (s.chan ch).exchangeAborted := by
  unfold Channel.exchangeAborted
  split
  · rename_i hx
    simp [State.endExchange, hx]
  · rename_i x hx
    rw [s.endExchange_aborted ch hx, State.chan_onChan_same, State.releaseRefs_chan, State.tally, State.onHealth,
      State.chan_onChan_same, State.exchangeTold_chan]
    rfl

theorem State.exchangeTold_stay (x : Exchange) (k : EndKind) : NoticesStay s (s.exchangeTold ch x k) := by
  have flush : NoticesStay s (s.consoleFlush ch) := by
    unfold State.consoleFlush
    split
    · exact .of_link rfl
    · exact (s.hand_stay _ _).trans (.of_link (State.onChan_link _ _ _))
  have window : ∀ u : State, NoticesStay u (u.writeWindow x) := fun u => .of_link (by simp)
  unfold State.exchangeTold
  split
  · exact (flush.trans (State.hand_stay _ _ _)).trans (window _)
  · exact flush.trans (window _)

theorem State.endExchange_aborted_stay : NoticesStay s (s.endExchange ch .aborted) := by
  cases hx : (s.chan ch).exch with
  | none => exact .of_link (by simp [State.endExchange, hx])
  | some x =>
    rw [s.endExchange_aborted ch hx]
    exact (s.exchangeTold_stay ch x .aborted).trans (.of_link (by simp))

/-- The rule table after the end of an exchange (R60). -/
theorem State.endExchange_rules_eq (k : EndKind) : (s.endExchange ch k).rules = match (s.chan ch).exch with
    | none => s.rules
    | some x => (s.releaseRefs x).rules := by
  unfold State.endExchange
  cases (s.chan ch).exch with
  | none => rfl
  | some x =>
    dsimp only
    split <;> split <;> simp [State.releaseRefs]

theorem State.writeWindow_images_congr {t : State} (x : Exchange) (hi : t.images = s.images) (ht : t.tick = s.tick) :
    (t.writeWindow x).images = (s.writeWindow x).images := by
  unfold State.writeWindow
  cases x.onImage with
  | none => exact hi
  | some k =>
    dsimp only
    split
    · simp [State.onImage, hi, ht]
    · exact hi

/-- The images after the end of an exchange (R70). -/
theorem State.endExchange_images_eq (k : EndKind) : (s.endExchange ch k).images = match (s.chan ch).exch with
    | none => s.images
    | some x => (s.writeWindow x).images := by
  unfold State.endExchange
  cases (s.chan ch).exch with
  | none => rfl
  | some x =>
    dsimp only
    split <;> split <;> simp <;> exact s.writeWindow_images_congr x (by simp) (by simp)

theorem State.endExchange_rules_congr {t : State} (k : EndKind) (hr : t.rules = s.rules)
    (hx : (t.chan ch).exch = (s.chan ch).exch) : (t.endExchange ch k).rules = (s.endExchange ch k).rules := by
  rw [State.endExchange_rules_eq, State.endExchange_rules_eq, hx]
  cases (s.chan ch).exch with
  | none => exact hr
  | some x => simp [State.releaseRefs, hr]

theorem State.endExchange_images_congr {t : State} (k : EndKind) (hi : t.images = s.images) (ht : t.tick = s.tick)
    (hx : (t.chan ch).exch = (s.chan ch).exch) : (t.endExchange ch k).images = (s.endExchange ch k).images := by
  rw [State.endExchange_images_eq, State.endExchange_images_eq, hx]
  cases (s.chan ch).exch with
  | none => exact hi
  | some x => exact s.writeWindow_images_congr x hi ht

/-! ### A job that ends (R173) -/

/-- A fallback held back by the job, applied or dropped with it (R147). -/
def Channel.settleOwed (c : Channel) : Channel :=
  if c.health.owed then
    { c with health := { c.health with owed := false }, fallback := c.fallback || c.health.degraded }
  else c

theorem State.settleOwed_chan : (s.settleOwed ch).chan ch = (s.chan ch).settleOwed := by
  unfold State.settleOwed Channel.settleOwed State.onHealth
  split <;> simp

theorem State.settleOwed_chan_other : (s.settleOwed ch).chan (other ch) = s.chan (other ch) := by
  unfold State.settleOwed State.onHealth
  split <;> simp

/-- The JOB claim given up with a job that placed it (R173). -/
def State.dropClaim (s : State) (b : Bool) : State :=
  if b then { s with supply := { s.supply with claims := { s.supply.claims with job := false } } } else s

@[simp] theorem State.dropClaim_chan (b : Bool) (c : Chan) : (s.dropClaim b).chan c = s.chan c := by
  cases b <;> cases c <;> rfl

/-- The end of a job up to its JOB_END occurrence: the grant, the result, the record, the notice and the claim. -/
def State.jobOver (s : State) (j : Job) (r : JobResult) : State :=
  let s1 := s.onChan j.chan Channel.dropEngine
  let s2 := { s1 with engine := { s1.engine with job := none, last := some r, unit := [], burst := [] } }
  (((s2.hand (some j.chan) (.job r.id r.outcome r.cause r.done r.failing)).raise .job).dropClaim
      j.holdReset).settleOwed
    j.chan

theorem State.finishJob_eq {j : Job} (hj : s.engine.job = some j) (cause : JobCause) (a : Nat) :
    s.finishJob cause a = (s.jobOver j (j.result (j.endingCause.getD cause) a)).occur .jobEnd none := by
  unfold State.finishJob State.jobOver State.dropClaim
  rw [hj]

theorem State.jobOver_chan (j : Job) (r : JobResult) :
    (s.jobOver j r).chan j.chan = (s.chan j.chan).dropEngine.settleOwed
      ∧ (s.jobOver j r).chan (other j.chan) = s.chan (other j.chan) := by
  have engine : ∀ (u : State) (g : Engine) (c : Chan), ({ u with engine := g } : State).chan c = u.chan c :=
    fun u g c => by cases c <;> rfl
  unfold State.jobOver
  dsimp only
  rw [State.settleOwed_chan, State.settleOwed_chan_other]
  simp only [State.dropClaim_chan, State.raise_chan, State.hand_chan, engine, State.chan_onChan_same,
    State.chan_onChan_other, and_self]

theorem State.jobOver_engine (j : Job) (r : JobResult) : (s.jobOver j r).engine
    = { s.engine with job := none, last := some r, unit := [], burst := [] } := by
  unfold State.jobOver State.dropClaim
  dsimp only
  split <;> simp [State.raise]

theorem State.jobOver_noticed (j : Job) (r : JobResult) :
    NoticesStay s (s.jobOver j r) ∧ (s.jobOver j r).link.noticed .job = true := by
  have tail : ∀ u : State, ((u.dropClaim j.holdReset).settleOwed j.chan).link = u.link := fun u => by
    unfold State.dropClaim
    split <;> simp
  have engine : ∀ (u : State) (g : Engine), NoticesStay u { u with engine := g } := fun u g => .of_link rfl
  unfold State.jobOver
  dsimp only
  refine ⟨?_, ?_⟩
  · refine NoticesStay.trans ?_ (.of_link (tail _))
    have drop : NoticesStay s (s.onChan j.chan Channel.dropEngine) := .of_link (by simp)
    exact (drop.trans (engine _ _)).trans ((State.hand_stay _ _ _).trans (State.raise_stay _ _))
  · rw [tail]
    exact State.raise_noticed _ _

/-- What the end of a job on a channel leaves of the channels, but for what routes do at its JOB_END occurrence. -/
theorem State.endJobOn_routed (cause : JobCause) :
    Routed (if s.jobOn ch then (s.chan ch).dropEngine.settleOwed else s.chan ch) ((s.endJobOn ch cause).chan ch)
      ∧ Routed (s.chan (other ch)) ((s.endJobOn ch cause).chan (other ch)) := by
  unfold State.endJobOn State.jobOn State.endJob
  cases hj : s.engine.job with
  | none => exact ⟨.refl _, .refl _⟩
  | some j =>
    by_cases hc : j.chan = ch
    · subst hc
      simp only [decide_true, if_true]
      rw [s.finishJob_eq hj]
      have r := fun c => (s.jobOver j (j.result (j.endingCause.getD cause) j.unitAddress)).occur_routed .jobEnd none c
      obtain ⟨h1, h2⟩ := s.jobOver_chan j (j.result (j.endingCause.getD cause) j.unitAddress)
      exact ⟨h1 ▸ r j.chan, h2 ▸ r (other j.chan)⟩
    · simp only [hc, decide_false, if_false, Bool.false_eq_true]
      exact ⟨.refl _, .refl _⟩

/-- A job that ends on a channel leaves its result and the JOB notice (R173). -/
theorem State.endJobOn_result {j : Job} (hj : s.engine.job = some j) (cause : JobCause) :
    (s.endJobOn j.chan cause).engine.job = none
      ∧ (s.endJobOn j.chan cause).engine.last = some (j.result (j.endingCause.getD cause) j.unitAddress)
      ∧ (s.endJobOn j.chan cause).link.noticed .job = true := by
  have e : s.endJobOn j.chan cause
      = (s.jobOver j (j.result (j.endingCause.getD cause) j.unitAddress)).occur .jobEnd none := by
    simp only [State.endJobOn, State.jobOn, State.endJob, hj, decide_true, if_true]
    exact s.finishJob_eq hj _ _
  rw [e]
  refine ⟨?_, ?_, (State.occur_stay _ _ _).keep _ (s.jobOver_noticed _ _).2⟩ <;> simp [s.jobOver_engine]

theorem State.endJobOn_stay (cause : JobCause) : NoticesStay s (s.endJobOn ch cause) := by
  unfold State.endJobOn State.endJob
  split
  · split
    · exact .of_link rfl
    · rename_i j hj
      rw [s.finishJob_eq hj]
      exact (s.jobOver_noticed _ _).1.trans (State.occur_stay _ _ _)
  · exact .of_link rfl

end Sys2Proof.Machine
end

section
/-! Bus-free points by time, changes of effective mode, conditions of the D-side and told levels (R5, R10, R149):
O54. -/

namespace Sys2Proof.Machine

variable (s : State) (ch : Chan)

/-- A measurement is due when it runs and has come to its limit. -/
theorem timerDue_iff (o : Option Timer) : timerDue o = true ↔ ∃ m, o = some m ∧ m.limit ≤ m.elapsed := by
  cases o <;> simp [timerDue]

/-! ### Bus-free points by time (R5) -/

theorem State.exec_cSideFree (hr : s.inReset = false) (hd : timerDue (s.chan ch).meters.cIdle = true)
    (hf : (s.chan ch).cFree = false) :
    exec (.busFreeTimeElapsed ch .cSide) s = .next (s.onChan ch Channel.cTimeFree).retimeAll :=
  if_pos ⟨hr, hd, hf⟩

theorem State.exec_dSideFree (hr : s.inReset = false) (hd : timerDue (s.chan ch).meters.dIdle = true)
    (hf : (s.chan ch).dFree = false) :
    exec (.busFreeTimeElapsed ch .dSide) s = .next (s.onChan ch Channel.dFreePoint).retimeAll :=
  if_pos ⟨hr, hd, hf⟩

/-- A C-side point by time: an exchange in flight stays so, and without one the closing of its transaction belongs to
none (log entries 25 and 26). -/
theorem Channel.cTimeFree_eq (c : Channel) : c.cTimeFree = { c with
    cFree := true, freePoint := true, sync := if c.mode = .isolated then c.sync else .synced
    phase := if c.exch.isSome then c.phase else .free, byteOpen := c.byteOpen && c.exch.isSome
    dOp := match c.exch, c.dOp with
      | none, .stop _ => .stop false
      | none, .closing _ => .closing false
      | _, op => op } := by
  obtain ⟨⟩ := c
  unfold Channel.cTimeFree Channel.cFreePoint
  dsimp only
  (repeat' split) <;> simp_all [DOp.disown]

/-! ### Changes of effective mode (R10, R11) -/

/-- The state after a change of effective mode to `m`. -/
def State.changeMode (s : State) (ch : Chan) (m : Mode) : State :=
  ((s.onChan ch fun c => c.changeTo m).event (some ch) (.mode m)).retimeAll

theorem State.exec_modeChange (hr : s.inReset = false) {m : Mode} (ht : s.target ch = m)
    (hm : s.mayChange ch = true) : exec (.modeChange ch) s = .next (s.changeMode ch m) :=
  ht ▸ if_pos ⟨hr, hm⟩

theorem State.exec_modeChange_waits (hm : s.mayChange ch = false) : exec (.modeChange ch) s = .next s :=
  if_neg fun h => by simp [hm] at h

/-- Where a change is never due: no bus-free point or an exchange in flight in MONITOR; in ACTIVE a busy side, a relay
grant, a job, a bus clear or a hold; or a target mode that the channel has, or ISOLATED, which it enters otherwise. -/
theorem State.mayChange_eq_false
    (h : ((s.chan ch).mode = .monitor ∧ ((s.chan ch).exch.isSome = true ∨ (s.chan ch).freePoint = false))
      ∨ ((s.chan ch).mode = .active ∧ ((s.chan ch).cFree = false ∨ (s.chan ch).dFree = false
        ∨ (s.chan ch).arb.holder = .relay ∨ s.jobOn ch = true ∨ (s.chan ch).health.busClear.isSome = true
        ∨ (s.chan ch).hold.isSome = true))
      ∨ s.target ch = (s.chan ch).mode ∨ s.target ch = .isolated) : s.mayChange ch = false := by
  unfold State.mayChange
  dsimp only
  rcases h with ⟨hm, h⟩ | ⟨hm, h⟩ | h | h
  · rw [hm]
    cases s.target ch <;> rcases h with h | h <;> simp [h]
  · rw [hm]
    cases s.target ch <;> rcases h with h | h | h | h | h | h <;> simp [h]
    exact fun _ _ _ _ hb => absurd h (by simp [hb])
  · rw [h]
    cases (s.chan ch).mode <;> rfl
  · rw [h]
    cases (s.chan ch).mode <;> rfl

/-- What a change to `m` leaves of the channel, from any mode (R1, R10, R11). -/
theorem Channel.changeTo_keeps (c : Channel) (m : Mode) : (c.changeTo m).mode = m ∧ (c.changeTo m).pull = .released
    ∧ (c.changeTo m).phase = .free ∧ (c.changeTo m).exch = c.exch ∧ (c.changeTo m).settings = c.settings
    ∧ (c.changeTo m).freePoint = false ∧ (c.changeTo m).byteOpen = false ∧ (c.changeTo m).highData = false
    ∧ (c.changeTo m).health = c.health ∧ (c.changeTo m).hold = c.hold
    ∧ (c.changeTo m).arb = { c.arb with relayWaits := false } ∧ (c.changeTo m).giving = none
    ∧ (c.changeTo m).grantWait = none := by
  unfold Channel.changeTo
  split <;> exact ⟨rfl, rfl, rfl, rfl, rfl, rfl, rfl, rfl, rfl, rfl, rfl, rfl, rfl⟩

theorem State.changeMode_chan (m : Mode) : (s.changeMode ch m).chan ch
    = { (s.chan ch).changeTo m with meters := ((s.changeMode ch m).chan ch).meters } := by
  unfold State.changeMode State.event
  rw [State.hand_onChan, State.chan_onChan_retimeAll]
  cases ch <;> simp [State.chan]

/-- A change of effective mode as the statement of R10 and R11 lists it. -/
def Moves (ch : Chan) (m : Mode) (s t : State) : Prop :=
  (t.chan ch).mode = m ∧ (t.chan ch).pull = .released
    ∧ (t.chan ch).phase = .free ∧ (t.chan ch).exch = (s.chan ch).exch ∧ (t.chan ch).settings = (s.chan ch).settings
    ∧ (t.chan ch).freePoint = false ∧ (t.chan ch).byteOpen = false ∧ (t.chan ch).highData = false
    ∧ (t.chan ch).health = (s.chan ch).health ∧ (t.chan ch).hold = (s.chan ch).hold
    ∧ (t.chan ch).arb = { (s.chan ch).arb with relayWaits := false }
    ∧ (t.chan ch).giving = none ∧ (t.chan ch).grantWait = none
    ∧ t.log = (s.hand (some ch) (.event (.mode m))).log ∧ OnlyChannelsAndLog s t
    ∧ SameChannel (s.chan (other ch)) (t.chan (other ch))

theorem State.changeMode_moves (m : Mode) : Moves ch m s (s.changeMode ch m) := by
  obtain ⟨h1, h2, h3, h4, h5, h6, h7, h8, h9, h10, h11, h12, h13⟩ := (s.chan ch).changeTo_keeps m
  have frame : s.changeMode ch m = ((s.hand (some ch) (.event (.mode m))).onChan ch fun c =>
      c.changeTo m).retimeAll := by
    unfold State.changeMode State.event
    rw [State.hand_onChan]
  have rest : OnlyChannelsAndLog s (s.changeMode ch m)
      ∧ SameChannel (s.chan (other ch)) ((s.changeMode ch m).chan (other ch)) := by
    rw [frame, s.hand_frame]
    cases ch <;> exact ⟨rfl, rfl⟩
  have log : (s.changeMode ch m).log = (s.hand (some ch) (.event (.mode m))).log := by rw [frame]; simp
  unfold Moves
  rw [s.changeMode_chan ch m]
  exact ⟨h1, h2, h3, h4, h5, h6, h7, h8, h9, h10, h11, h12, h13, log, rest⟩

/-! ### Conditions of the D-side and told levels -/

theorem State.exec_dSideCondition (k : Cond) : exec (.dSideCondition ch k) s = .next (s.onChan ch fun c =>
    if s.inReset = false ∧ c.mode = .active ∧ c.arb.holder = .none then c.dCond k else c.trafficD k).retimeAll := by
  show execDSideCondition ch k s = _
  unfold execDSideCondition
  dsimp only
  split <;> rename_i h <;> simp [State.onChan, h]

/-- A condition of the D-side moves the levels (R3, R5), whatever it counts for. -/
theorem Channel.dCond_keeps (c : Channel) (k : Cond) (w : Prop) [Decidable w] :
    (if w then c.dCond k else c.trafficD k).ext = { c.ext with d := ⟨decide (k = .start), false⟩ }
      ∧ (if w then c.dCond k else c.trafficD k).exch = c.exch
      ∧ (if w then c.dCond k else c.trafficD k).phase = c.phase := by
  split
  · unfold Channel.dCond
    cases k <;> dsimp only
    · exact ⟨rfl, rfl, rfl⟩
    · split <;> exact ⟨rfl, rfl, rfl⟩
  · exact ⟨rfl, rfl, rfl⟩

/-- On a watched D-side a START makes it busy and a STOP free (R5, R6). -/
theorem Channel.dCond_counts (c : Channel) (k : Cond) (hm : c.mode = .active) :
    (k = .start → (c.dCond k).dFree = false ∧ (c.dCond k).seenFree = c.seenFree)
      ∧ (k = .stop → (c.dCond k).dFree = true ∧ (c.dFree = false → (c.dCond k).seenFree = true)) := by
  refine ⟨fun h => by subst h; exact ⟨rfl, rfl⟩, fun h => ?_⟩
  subst h
  have hm' : (c.trafficD .stop).mode = .active := hm
  cases hf : c.dFree <;> simp [Channel.dCond, hf, Channel.dFreePoint, hm']
  exact hf

/-- The lines as others pull them after one is told, with the clock-high of a sampled bit over where it falls. -/
theorem Lines.set_eq (e : Lines) (side : Side) (line : Line) (low : Bool) : e.set side line low
    = match side, line with
    | .cSide, .clock => { e with c := { e.c with clock := low } }
    | .cSide, .data => { e with c := { e.c with data := low } }
    | .dSide, .clock => { e with d := { e.d with clock := low } }
    | .dSide, .data => { e with d := { e.d with data := low } } := by
  cases side <;> cases line <;> rfl

/-- A falling edge of CnCK: it ends the clock-high of a sampled bit, or with the clock high till
    then it puts the next bit
of a byte the part gives on CnDA (R21, R28). -/
theorem Channel.clockFall_eq (c : Channel) :
    let shifts := !c.highPhase && !c.ext.c.clock && !c.pull.c.clock && c.giving.isSome && !c.byteOpen
      && decide (c.bitsOut < 8 ∧ c.mode = .active)
    c.clockFall = { c with
      ext := if c.highPhase then { c.ext with c := { c.ext.c with clock := false } } else c.ext
      highPhase := false
      bitsOut := if shifts then c.bitsOut + 1 else c.bitsOut
      pull := if shifts then { c.pull with c := ⟨false, !(c.giving.getD 0).getLsbD (7 - c.bitsOut)⟩ }
        else c.pull } := by
  intro shifts
  unfold Channel.clockFall
  rcases Bool.eq_false_or_eq_true c.highPhase with hh | hh
  · simp [shifts, hh, Lines.set, Pair.set]
  have same : c = { c with highPhase := false } := by rw [← hh]
  have stays (ns : shifts = false) : c = { c with
      ext := if c.highPhase then { c.ext with c := { c.ext.c with clock := false } } else c.ext
      highPhase := false
      bitsOut := if shifts then c.bitsOut + 1 else c.bitsOut
      pull := if shifts then { c.pull with c := ⟨false, !(c.giving.getD 0).getLsbD (7 - c.bitsOut)⟩ } else
          c.pull } := by
    simp only [hh, ns, if_false, Bool.false_eq_true]
    exact same
  rw [if_neg (by simp [hh])]
  split
  · rename_i hl
    refine stays ?_
    rcases Bool.or_eq_true_iff.1 hl with hl | hl <;> simp [shifts, hl]
  · rename_i hl
    unfold Channel.shiftOut
    split
    · rename_i hg
      exact stays (by simp [shifts, hg])
    · rename_i b hg
      split
      · rename_i hb
        obtain ⟨hm, ho, hb⟩ := hb
        simp only [Bool.or_eq_true, not_or, Bool.not_eq_true] at hl
        have fires : shifts = true := by simp [shifts, hh, hl, hg, ho, hb, hm]
        simp only [hh, fires, hg, if_true, if_false, Bool.false_eq_true, Option.getD_some]
      · rename_i hb
        refine stays (Bool.eq_false_iff.2 fun hs => hb ?_)
        simp only [shifts, Bool.and_eq_true, Bool.not_eq_true', decide_eq_true_eq] at hs
        obtain ⟨⟨-, ho⟩, hc, hm⟩ := hs
        exact ⟨hm, ho, hc⟩

/-- A level told, as the statement of R149 lists it. -/
theorem Channel.lineTold_eq (c : Channel) (here : Bool) (side : Side) (line : Line) (low : Bool) :
    let falls := here && decide (line = .clock) && low
    let shifts := falls && !c.highPhase && !c.ext.c.clock && !c.pull.c.clock && c.giving.isSome
      && !c.byteOpen && decide (c.bitsOut < 8 ∧ c.mode = .active)
    let e : Lines := if falls && c.highPhase then { c.ext with c := { c.ext.c with clock := false } } else c.ext
    ∀ joined, here = (joined || decide (side = .cSide)) → c.lineTold joined side line low = { c with
      ext := e.set side line low
      highPhase := c.highPhase && !falls
      dataTold := c.dataTold || (here && decide (line = .data) && low)
      bitsOut := if shifts then c.bitsOut + 1 else c.bitsOut
      pull := if shifts then { c.pull with c := ⟨false, !(c.giving.getD 0).getLsbD (7 - c.bitsOut)⟩ } else
          c.pull } := by
  intro falls shifts e joined hj
  unfold Channel.lineTold
  rw [← hj]
  rcases Bool.eq_false_or_eq_true falls with hf | hf
  · have hc : here = true ∧ line = .clock ∧ low = true := by simpa [falls, and_assoc] using hf
    obtain ⟨h1, h2, h3⟩ := hc
    simp only [h1, h2, h3, decide_true, Bool.and_self, if_true, c.clockFall_eq]
    simp [shifts, e, hf]
  · have hc : ((low && here) && decide (line = .clock)) = false := by
      rw [← hf]; cases low <;> cases here <;> simp [falls]
    have hd : (low && here && decide (line = .data)) = (here && decide (line = .data) && low) := by
      cases low <;> cases here <;> simp
    simp [hc, hf, e, shifts, hd]

/-- Settles O54: each event changes the channel alone, by an equation of its own; the changes of mode hand one record
more. -/
theorem busFreeAndModes : Obligations.BusFreeAndModes := by
  intro s ch
  have due : ∀ o : Option Timer, (∃ m, o = some m ∧ m.limit ≤ m.elapsed) → timerDue o = true :=
      fun o => (timerDue_iff o).2
  have changed : ∀ m, s.inReset = false → s.target ch = m → s.mayChange ch = true →
      ∃ t : State, exec (.modeChange ch) s = .next t ∧ Moves ch m s t
        ∧ t.chan ch = { (s.chan ch).changeTo m with meters := (t.chan ch).meters } := fun m hr ht hm =>
    ⟨_, s.exec_modeChange ch hr ht hm, s.changeMode_moves ch m, s.changeMode_chan ch m⟩
  refine ⟨fun hr hd hf => ?_, fun hr hd hf => ?_, fun hr hx hm ht hp => ?_, fun hr hm ht hc hd ha hj hb hh => ?_,
    fun hr hm ht hc => ?_, fun hr hm ht hc hd => ?_, fun h => s.exec_modeChange_waits ch (s.mayChange_eq_false ch h),
    fun k => ?_, fun side line low => ?_⟩
  · refine ⟨_, s.exec_cSideFree ch hr (due _ hd) hf, s.onlyChannel_onChan ch _, ?_⟩
    have point := s.chan_onChan_retimeAll ch Channel.cTimeFree
    rw [Channel.cTimeFree_eq] at point
    exact point
  · exact ⟨_, s.exec_dSideFree ch hr (due _ hd) hf, s.onlyChannel_onChan ch _, s.chan_onChan_retimeAll ch _⟩
  · obtain ⟨t, he, hv, hc⟩ := changed .active hr ht (by simp [State.mayChange, hm, ht, hp, hx])
    refine ⟨t, he, hv, ?_⟩
    rw [hc]
    simp [Channel.changeTo, hm]
  · obtain ⟨t, he, hv, hc⟩ := changed .monitor hr ht (by simp [State.mayChange, hm, ht, hc, hd, ha, hj, hb, hh])
    refine ⟨t, he, hv, ?_⟩
    rw [hc]
    simp [Channel.changeTo, hm]
  · obtain ⟨t, he, hv, hc⟩ := changed .active hr ht (by simp [State.mayChange, hm, ht, due _ hc])
    refine ⟨t, he, hv, ?_⟩
    rw [hc]
    simp [Channel.changeTo, hm]
  · obtain ⟨t, he, hv, hc⟩ := changed .monitor hr ht (by simp [State.mayChange, hm, ht, due _ hc, due _ hd])
    refine ⟨t, he, hv, ?_⟩
    rw [hc]
    simp [Channel.changeTo, hm]
  · refine ⟨_, s.exec_dSideCondition ch k, s.onlyChannel_onChan ch _, ?_⟩
    rw [s.chan_onChan_retimeAll]
    obtain ⟨h1, h2, h3⟩ := (s.chan ch).dCond_keeps k
      (s.inReset = false ∧ (s.chan ch).mode = .active ∧ (s.chan ch).arb.holder = .none)
    refine ⟨h1, h2, h3, fun hr hm ha => ?_, fun h => ?_⟩
    · rw [if_pos ⟨hr, hm, ha⟩]
      exact (s.chan ch).dCond_counts k hm
    · rw [if_neg fun w => h.elim (fun h => h w.2.1) fun h => h w.2.2]
      exact ⟨rfl, rfl⟩
  · refine ⟨_, rfl, s.onlyChannel_onChan ch _, ?_⟩
    have here : decide (side = .cSide ∨ (s.chan ch).mode = .monitor ∨ s.inReset = true)
        = (s.bypassClosed ch || decide (side = .cSide)) := by
      simp only [State.bypassClosed, Bool.decide_or, Bool.decide_eq_true]
      cases s.inReset <;> cases decide (side = .cSide) <;> simp
    rw [s.chan_onChan_retimeAll, (s.chan ch).lineTold_eq _ side line low _ here]
    exact ⟨rfl, Lines.set_eq _ _ _ _⟩

end Sys2Proof.Machine
end

section
/-! The entry to ISOLATED (R9) by SET CHANNEL: O13. -/

namespace Sys2Proof.Machine

variable (s : State) (ch : Chan)

/-! ### The channel of an entry to ISOLATED -/

/-- A channel out of its bus (R9). -/
structure OutOfBus (c : Channel) : Prop where
  mode : c.mode = .isolated
  pull : c.pull = .released
  exch : c.exch = none
  hold : c.hold = none
  park : c.park = false
  seenFree : c.seenFree = false
  sync : c.sync = .unknown
  phase : c.phase = .free
  busClear : c.health.busClear = none
  holder : c.arb.holder ≠ .relay

/-- What an entry to ISOLATED, and the end of a job with it, keep of a channel that owes no fallback. -/
structure KeptOut (c d : Channel) : Prop where
  settings : d.settings = c.settings
  plan : d.plan = c.plan
  fallback : d.fallback = c.fallback
  owed : d.health.owed = false
  console : d.console = c.console
  lastClear : d.health.lastClear = c.health.lastClear

theorem KeptOut.trans {c d e : Channel} (h : KeptOut c d) (k : KeptOut d e) : KeptOut c e :=
  ⟨k.settings.trans h.settings, k.plan.trans h.plan, k.fallback.trans h.fallback, k.owed, k.console.trans h.console,
    k.lastClear.trans h.lastClear⟩

theorem OutOfBus.routed {c d : Channel} (h : OutOfBus c) (r : Routed c d) : OutOfBus d := by
  have hp := r.park h.mode
  rw [r.eq]
  exact ⟨h.mode, h.pull, h.exch, h.hold, hp.trans h.park, h.seenFree, h.sync, h.phase, h.busClear, h.holder⟩

theorem KeptOut.routed {c d : Channel} (ho : c.health.owed = false) (r : Routed c d) : KeptOut c d := by
  rw [r.eq]
  exact ⟨rfl, rfl, rfl, ho, rfl, rfl⟩

theorem OutOfBus.dropEngine {c : Channel} (h : OutOfBus c) : OutOfBus c.dropEngine := by
  unfold Channel.dropEngine
  dsimp only
  split
  · have hp : c.releaseD.pull = .released := by simp [Channel.releaseD, h.pull, Lines.released]
    exact ⟨h.mode, hp, h.exch, h.hold, h.park, h.seenFree, h.sync, h.phase, h.busClear, by simp [Channel.giveUp]⟩
  · exact ⟨h.mode, h.pull, h.exch, h.hold, h.park, h.seenFree, h.sync, h.phase, h.busClear, h.holder⟩

theorem KeptOut.dropEngine {c : Channel} (ho : c.health.owed = false) : KeptOut c c.dropEngine := by
  unfold Channel.dropEngine
  dsimp only
  split <;> exact ⟨rfl, rfl, rfl, ho, rfl, rfl⟩

/-- With no fallback owed the end of a job settles none. -/
theorem Channel.settleOwed_none {c : Channel} (h : c.health.owed = false) : c.settleOwed = c := by
  simp [Channel.settleOwed, h]

/-- The first step of R9: the bus clear is stopped, and in ISOLATED the part pulls no line (R1). -/
def Channel.cutOff (c : Channel) : Channel := { c.abandonClear with mode := .isolated, pull := .released }

/-- The channel of an entry to ISOLATED before a job on it ends. -/
def Channel.leaveBus (c : Channel) : Channel :=
  let c1 := c.cutOff.exchangeAborted
  let c2 := if c1.arb.holder = .relay then c1.giveUp else c1
  { c2 with hold := none }.outOfBus

/-- A bus clear stopped where it stands (R151). -/
theorem Channel.abandonClear_eq (c : Channel) : c.abandonClear = { c with
    meters := c.abandonClear.meters
    pull := if c.health.busClear.isSome then { c.pull with d := ⟨false, false⟩ } else c.pull
    health := { c.health with
      busClear := none, lastClear := if c.health.busClear.isSome then .abandoned else c.health.lastClear } } := by
  obtain ⟨⟩ := c
  rename_i health
  obtain ⟨⟩ := health
  unfold Channel.abandonClear
  dsimp only
  split
  · rfl
  · split <;> rfl

theorem Channel.cutOff_eq (c : Channel) : c.cutOff = { c with
    mode := .isolated, pull := .released
    meters := c.abandonClear.meters
    health := { c.health with
      busClear := none, lastClear := if c.health.busClear.isSome then .abandoned else c.health.lastClear } } := by
  rw [Channel.cutOff, c.abandonClear_eq]

/-- An exchange ended ABORTED leaves what is no part of it. -/
theorem Channel.exchangeAborted_eq (c : Channel) : c.exchangeAborted = { c with
    exch := none, giving := c.exchangeAborted.giving, grantWait := c.exchangeAborted.grantWait
    grantLimitTaken := c.exchangeAborted.grantLimitTaken, nextAct := c.exchangeAborted.nextAct
    arb := { c.arb with relayWaits := c.exchangeAborted.arb.relayWaits }
    console := c.exchangeAborted.console
    health := { c.health with running := c.exchangeAborted.health.running } } := by
  obtain ⟨⟩ := c
  rename_i health
  obtain ⟨⟩ := health
  unfold Channel.exchangeAborted
  dsimp only
  split <;> rfl

theorem Channel.leaveBus_outOfBus (c : Channel) : OutOfBus c.leaveBus := by
  unfold Channel.leaveBus
  dsimp only
  rw [c.cutOff.exchangeAborted_eq, c.cutOff_eq]
  dsimp only
  split
  · exact ⟨rfl, rfl, rfl, rfl, rfl, rfl, rfl, rfl, rfl, nofun⟩
  · rename_i h
    exact ⟨rfl, rfl, rfl, rfl, rfl, rfl, rfl, rfl, rfl, h⟩

/-- Of its channel's settings and health an entry to ISOLATED changes that a running bus clear is ABANDONED. -/
theorem Channel.leaveBus_kept (c : Channel) (ho : c.health.owed = false) : KeptOut { c with
    console := c.exchangeAborted.console
    health := { c.health with
      lastClear := if c.health.busClear.isSome then .abandoned else c.health.lastClear } } c.leaveBus := by
  have console : c.cutOff.exchangeAborted.console = c.exchangeAborted.console := by
    have he : c.cutOff.exch = c.exch := by rw [c.cutOff_eq]
    have hc : c.cutOff.console = c.console := by rw [c.cutOff_eq]
    unfold Channel.exchangeAborted
    rw [he]
    cases c.exch with
    | none => exact hc
    | some x => rfl
  have out : ∀ d : Channel, d.health.owed = false →
      KeptOut d { (if d.arb.holder = Holder.relay then d.giveUp else d) with hold := none }.outOfBus := fun d hd => by
    split <;> exact ⟨rfl, rfl, rfl, hd, rfl, rfl⟩
  have ended : KeptOut { c with
      console := c.exchangeAborted.console
      health := { c.health with
        lastClear := if c.health.busClear.isSome then .abandoned else c.health.lastClear } }
      c.cutOff.exchangeAborted := by
    rw [c.cutOff.exchangeAborted_eq, console, c.cutOff_eq]
    exact ⟨rfl, rfl, rfl, ho, rfl, rfl⟩
  exact ended.trans (out _ ended.owed)

/-! ### The entry to ISOLATED -/

/-- The state of an entry to ISOLATED before a job on the channel ends. -/
def State.leaveBus (s : State) (ch : Chan) : State :=
  let s1 := s.onChan ch Channel.cutOff
  let s2 := (s1.endExchange ch .aborted).onChan ch fun c => if c.arb.holder = .relay then c.giveUp else c
  (s2.abandonHold ch).onChan ch Channel.outOfBus

theorem State.isolate_eq (cause : JobCause) :
    s.isolate ch cause = ((s.leaveBus ch).endJobOn ch cause).event (some ch) (.mode .isolated) := rfl

theorem State.leaveBus_chan : (s.leaveBus ch).chan ch = (s.chan ch).leaveBus
    ∧ (s.leaveBus ch).chan (other ch) = s.chan (other ch) := by
  unfold State.leaveBus State.abandonHold
  dsimp only
  obtain ⟨h1, h2⟩ := State.endHold_chan (((s.onChan ch Channel.cutOff).endExchange ch .aborted).onChan ch fun c =>
    if c.arb.holder = .relay then c.giveUp else c) ch none .abandoned
  rw [State.chan_onChan_same, State.chan_onChan_other, h1, h2, State.chan_onChan_same, State.chan_onChan_other,
    (State.endExchange_chans _ ch _).1, State.endExchange_chan_aborted, State.chan_onChan_same,
    State.chan_onChan_other]
  exact ⟨rfl, rfl⟩

theorem State.leaveBus_noticed : NoticesStay s (s.leaveBus ch)
    ∧ ((s.chan ch).hold.isSome = true → (s.leaveBus ch).link.noticed (holdNotice ch) = true) := by
  unfold State.leaveBus State.abandonHold
  dsimp only
  have on : ∀ (u : State) (f : Channel → Channel), NoticesStay u (u.onChan ch f) := fun u f => .of_link (by simp)
  have hold : ((((s.onChan ch Channel.cutOff).endExchange ch .aborted).onChan ch fun c =>
      if c.arb.holder = .relay then c.giveUp else c).chan ch).hold = (s.chan ch).hold := by
    have g : ∀ c : Channel, (if c.arb.holder = .relay then c.giveUp else c).hold = c.hold := fun c => by
      split <;> rfl
    rw [State.chan_onChan_same, g, State.endExchange_chan_aborted, State.chan_onChan_same,
      Channel.exchangeAborted_eq, Channel.cutOff_eq]
  obtain ⟨h1, h2⟩ := State.endHold_noticed (((s.onChan ch Channel.cutOff).endExchange ch .aborted).onChan ch fun c =>
    if c.arb.holder = .relay then c.giveUp else c) ch none .abandoned
  rw [hold] at h2
  exact ⟨(((on _ _).trans (State.endExchange_aborted_stay _ ch)).trans (on _ _)).trans (h1.trans (on _ _)),
    fun hh => (on _ _).keep _ (h2 hh)⟩

@[simp] theorem State.leaveBus_engine : (s.leaveBus ch).engine = s.engine := by
  simp [State.leaveBus, State.abandonHold]

/-- What an entry to ISOLATED makes of the channels and of the notice word (R9). -/
theorem State.isolate_chan (cause : JobCause) (ho : (s.chan ch).health.owed = false) :
    OutOfBus ((s.isolate ch cause).chan ch) ∧ KeptOut (s.chan ch).leaveBus ((s.isolate ch cause).chan ch)
      ∧ Routed (s.chan (other ch)) ((s.isolate ch cause).chan (other ch)) := by
  rw [s.isolate_eq]
  obtain ⟨h1, h2⟩ := s.leaveBus_chan ch
  obtain ⟨r1, r2⟩ := (s.leaveBus ch).endJobOn_routed ch cause
  rw [h1] at r1
  rw [h2] at r2
  have owed := ((s.chan ch).leaveBus_kept ho).owed
  have out := (s.chan ch).leaveBus_outOfBus
  simp only [State.event_chan]
  refine ⟨?_, ?_, r2⟩ <;> split at r1
  · rw [Channel.settleOwed_none (KeptOut.dropEngine owed).owed] at r1
    exact out.dropEngine.routed r1
  · exact out.routed r1
  · rw [Channel.settleOwed_none (KeptOut.dropEngine owed).owed] at r1
    exact (KeptOut.dropEngine owed).trans (.routed (KeptOut.dropEngine owed).owed r1)
  · exact .routed owed r1

theorem State.isolate_stay (cause : JobCause) : NoticesStay s (s.isolate ch cause)
    ∧ ((s.chan ch).hold.isSome = true → (s.isolate ch cause).link.noticed (holdNotice ch) = true) := by
  rw [s.isolate_eq]
  have tail := ((s.leaveBus ch).endJobOn_stay ch cause).trans
    (State.hand_stay _ (some ch) (.event (.mode .isolated)))
  obtain ⟨h1, h2⟩ := s.leaveBus_noticed ch
  exact ⟨h1.trans tail, fun hh => tail.keep _ (h2 hh)⟩

theorem State.isolate_result {j : Job} (hj : s.engine.job = some j) (cause : JobCause) :
    (s.isolate j.chan cause).engine.job = none
      ∧ (s.isolate j.chan cause).engine.last = some (j.result (j.endingCause.getD cause) j.unitAddress)
      ∧ (s.isolate j.chan cause).link.noticed .job = true := by
  rw [s.isolate_eq]
  obtain ⟨h1, h2, h3⟩ := (s.leaveBus j.chan).endJobOn_result (by simpa using hj) cause
  exact ⟨by simpa using h1, by simpa using h2, (State.hand_stay _ _ _).keep _ h3⟩

theorem State.isolate_noJob (cause : JobCause) (hj : s.jobOn ch = false) : (s.isolate ch cause).engine
    = s.engine := by
  rw [s.isolate_eq, State.event_engine, State.endJobOn, if_neg, State.leaveBus_engine]
  simp [State.jobOn_congr (s.leaveBus_engine ch), hj]

/-- The rule table and the images are left as the end of the exchange leaves them (R34, R60, R70). -/
theorem State.isolate_tables (cause : JobCause) : (s.isolate ch cause).rules = (s.endExchange ch .aborted).rules
    ∧ (s.isolate ch cause).images = (s.endExchange ch .aborted).images := by
  have hx : ((s.onChan ch Channel.cutOff).chan ch).exch = (s.chan ch).exch := by
    rw [State.chan_onChan_same, Channel.cutOff_eq]
  rw [s.isolate_eq]
  simp only [State.event_rules, State.event_images, State.endJobOn_rules, State.endJobOn_images, State.leaveBus,
    State.abandonHold, State.onChan_rules, State.onChan_images, State.endHold_rules, State.endHold_images]
  exact ⟨s.endExchange_rules_congr ch _ (by simp) hx, s.endExchange_images_congr ch _ (by simp) (by simp) hx⟩

/-! ### SET CHANNEL -/

theorem State.withSettings_chan (l : List (Byte × Half)) :
    (s.withSettings ch l).chan ch = (s.retimeAll.chan ch).setSettings l ((s.chan ch).settings.after l)
      ∧ (s.withSettings ch l).chan (other ch) = s.retimeAll.chan (other ch) :=
  ⟨State.chan_onChan_same _ _ _, State.chan_onChan_other _ _ _⟩

/-- What the settings written leave of the channel (R12, R15, R35). -/
theorem State.withSettings_keeps (l : List (Byte × Half)) : ToldAlike ((s.withSettings ch l).chan ch) (s.chan ch)
    ∧ ((s.withSettings ch l).chan ch).settings = (s.chan ch).settings.after l
    ∧ ((s.withSettings ch l).chan ch).plan = (s.chan ch).planAfter l
    ∧ ((s.withSettings ch l).chan ch).health = (if writesSetting l 0 then { (s.chan ch).health with owed := false }
        else (s.chan ch).health)
    ∧ (writesSetting l 0 = true → ((s.withSettings ch l).chan ch).fallback = false) := by
  rw [(s.withSettings_chan ch l).1]
  refine ⟨⟨by simp [Channel.setSettings], by simp [Channel.setSettings], by simp [Channel.setSettings],
    by simp [Channel.setSettings]⟩, rfl, ?_, by simp [Channel.setSettings], fun hw => by simp
        [Channel.setSettings, hw]⟩
  simp only [Channel.setSettings, Channel.planAfter, carriedValue_isSome, Bool.or_eq_true, State.retimeAll_chan_plan]
  rfl

theorem State.withSettings_blocks (l : List (Byte × Half)) :
    (s.withSettings ch l).engine = s.engine ∧ (s.withSettings ch l).rules = s.rules
      ∧ (s.withSettings ch l).images = s.images ∧ (s.withSettings ch l).tick = s.tick
      ∧ LogAlike (s.withSettings ch l) s := by
  unfold State.withSettings
  exact ⟨by simp, by simp, by simp, by simp, by simp, by simp, by simp⟩

/-- The console buffer an exchange that ends ABORTED leaves does not depend on more than what its records do. -/
theorem ToldAlike.console_aborted {c d : Channel} (h : ToldAlike c d) :
    c.exchangeAborted.console = d.exchangeAborted.console := by
  unfold Channel.exchangeAborted
  rw [h.exch]
  split
  · exact h.console
  · rfl

/-- A list that asks for ISOLATED, and so for no other mode (R15). -/
theorem requested_isolated {l : List (Byte × Half)} (c : ChanSettings) (hl : SettingsAccepted l) (h : (0, 2) ∈ l) :
    (c.after l).requested = .isolated ∧ writesSetting l 0 = true ∧ (0, 0) ∉ l := by
  have hr := ((settingsAccepted_iff l).1 hl).2.1
  have hv : carriedValue l 0 = some 2 := carriedValue_of_mem hr h
  refine ⟨by simp [ChanSettings.after, hv], by rw [← carriedValue_isSome, hv]; rfl, fun h0 => ?_⟩
  have hw : carriedValue l 0 = some 0 := carriedValue_of_mem hr h0
  rw [hv] at hw
  exact absurd hw (by decide)

/-- A request that asks for ISOLATED takes a channel out of its bus (R8, R9). -/
theorem State.withSettings_isolated {l : List (Byte × Half)} (hm : (s.chan ch).mode ≠ .isolated)
    (hq : ((s.chan ch).settings.after l).requested = .isolated) (cause : JobCause) :
    (s.withSettings ch l).isolateIfDue cause ch (s.withSettings ch l) = (s.withSettings ch l).isolate ch cause := by
  obtain ⟨h1, -⟩ := s.withSettings_chan ch l
  refine if_pos ((State.mustIsolate_iff _ _).2 ⟨?_, .inr (.inr ?_)⟩)
  · rw [h1]
    simpa [Channel.setSettings] using hm
  · rw [State.outline_chan, h1]
    exact hq

/-- Settles O13: the settings are written, the entry to ISOLATED follows, and each part of the statement is what one
of its lemmas says of the channel, the log, the tables or the notice word. -/
theorem entryToIsolated : Obligations.EntryToIsolated := by
  intro s tag ch l hr hm hl hi c set
  obtain ⟨hq, hw, h0⟩ := requested_isolated c.settings hl hi
  have hs := ownSetChannel_accepted s ch hl fun _ => h0
  rw [s.withSettings_isolated ch hm hq] at hs
  obtain ⟨told, settings, plan, health, fallback⟩ := s.withSettings_keeps ch l
  obtain ⟨engine, rules, images, tick, like⟩ := s.withSettings_blocks ch l
  have apart := (s.withSettings_chan ch l).2
  generalize s.withSettings ch l = u at hs told settings plan health fallback engine rules images tick like apart
  have he : exec (.setChannel tag (chanCode ch) l) s
      = .next ((u.isolate ch .mode).retimeAll.withReply
        ⟨tag, 0x10, (okOrAdjusted (l.any pairClamped) (le32 set.plan.achieved)).status, le32 set.plan.achieved⟩) := by
    show Host.Outcome.next (s.serve tag 0x10 (ownSetChannel (chanCode ch) l)) = _
    rw [State.serve_of_ready _ hr, hs]
    rfl
  rw [if_pos hw] at health
  obtain ⟨out, kept, rest⟩ := u.isolate_chan ch .mode (by rw [health])
  have left := ((u.chan ch).leaveBus_kept (by rw [health])).trans kept
  have console := told.console_aborted.trans (congrArg Channel.console (s.endExchange_chan_aborted ch)).symm
  have clear := left.lastClear
  dsimp only at clear
  rw [health] at clear
  have jobs : u.jobOn ch = s.jobOn ch := State.jobOn_congr engine ch
  obtain ⟨tabR, tabI⟩ := u.isolate_tables ch .mode
  obtain ⟨stay, hold⟩ := u.isolate_stay ch .mode
  refine ⟨_, _, he, fun h => ?_, fun h => ?_, ?_⟩
  · simp [(settingsClamped_iff l).1 h, okOrAdjusted]
  · rw [settingsClamped_iff] at h
    simp [h, okOrAdjusted]
  simp only [State.retimeAll_chan_settings, State.retimeAll_chan_plan, State.retimeAll_chan_fallback,
    State.retimeAll_chan_health, State.retimeAll_chan_mode, State.retimeAll_chan_pull, State.retimeAll_chan_exch,
    State.retimeAll_chan_hold, State.retimeAll_chan_park, State.retimeAll_chan_seenFree, State.retimeAll_chan_sync,
    State.retimeAll_chan_phase, State.retimeAll_chan_arb, State.retimeAll_chan_console, State.retimeAll_engine,
    State.retimeAll_log, State.retimeAll_link, State.retimeAll_rules, State.retimeAll_images]
  refine ⟨left.settings.trans settings, hq, left.plan.trans plan, left.fallback.trans (fallback hw),
      left.owed, out.mode,
    out.pull, out.exch, out.hold, out.park, out.seenFree, out.sync, out.phase, out.busClear, out.holder,
    fun j hj hc => ?_, fun hj => ?_, ?_, fun hh => hold (by rw [told.hold]; exact hh), fun hj => ?_,
    tabR.trans (s.endExchange_rules_congr ch _ rules told.exch),
    tabI.trans (s.endExchange_images_congr ch _ images tick told.exch),
    left.console.trans console, clear, ?_, ?_, ?_⟩
  · subst hc
    obtain ⟨h1, h2, -⟩ := u.isolate_result (engine ▸ hj) .mode
    exact ⟨h1, h2⟩
  · exact (u.isolate_noJob ch .mode (jobs.trans hj)).trans engine
  · exact ((u.isolate_told ch .mode).trans (like.isolationTold (by rw [engine]) told .mode)).log
  · unfold State.jobOn at hj
    cases hx : s.engine.job with
    | none => simp [hx] at hj
    | some j =>
      simp only [hx, decide_eq_true_eq] at hj
      subst hj
      exact (u.isolate_result (engine ▸ hx) .mode).2.2
  all_goals rw [rest.eq, apart]; simp

end Sys2Proof.Machine
end

section
/-! CHANNEL RESET (R18): O15. -/

namespace Sys2Proof.Machine

variable (s : State) (ch : Chan)

/-- The channel of a channel reset. -/
def Channel.resetHere (c : Channel) : Channel :=
  let c1 := ({ c with console := [] } : Channel).exchangeAborted.closeD false
  { c1 with hold := none }.afterReset

/-- The state of a channel reset before its last steps. -/
def State.endAll (s : State) (ch : Chan) : State :=
  ((((s.onChan ch fun c => { c with console := [] }).endExchange ch .aborted).onChan ch fun c =>
    c.closeD false).abandonHold ch)

theorem State.resetChannel_eq : s.resetChannel ch = ((s.endAll ch).onChan ch Channel.afterReset).retimeAll := rfl

theorem State.endAll_chan :
    (s.endAll ch).chan ch = { (({ s.chan ch with console := [] } : Channel).exchangeAborted.closeD false) with
        hold := none }
      ∧ (s.endAll ch).chan (other ch) = s.chan (other ch) := by
  unfold State.endAll State.abandonHold
  obtain ⟨h1, h2⟩ := State.endHold_chan
      (((s.onChan ch fun c => { c with console := [] }).endExchange ch .aborted).onChan
    ch fun c => c.closeD false) ch none .abandoned
  rw [h1, h2, State.chan_onChan_same, State.chan_onChan_other, (State.endExchange_chans _ ch _).1,
    State.endExchange_chan_aborted, State.chan_onChan_same, State.chan_onChan_other]
  exact ⟨rfl, rfl⟩

/-- Closing the D-side changes the grant's operation and the D-side lines alone (R14). -/
theorem Channel.closeD_eq (c : Channel) (same : Bool) : c.closeD same = { c with
    dOp := if c.relayOpen then .closing same else c.dOp, dSpan := (c.closeD same).dSpan
    pull := { c.pull with d := (c.closeD same).pull.d } } := by
  unfold Channel.closeD
  split <;> rfl

/-- What was kept to the end of a D-side bit is dropped (log entry 38). -/
theorem Channel.settleKept_eq (c : Channel) :
    c.settleKept = { c with deferred := [], cFree := c.settleKept.cFree } := by
  obtain ⟨⟩ := c
  rename_i deferred _ _ _ _ _ _ _ _ _ _
  unfold Channel.settleKept
  dsimp only
  split
  · rename_i h
    rw [List.getLast?_eq_none_iff.1 h]
  · rfl
  · rfl

/-- A channel reset hands the records of the exchange, its text dropped, and of the hold to the log (R18, R34,
R99). -/
theorem State.endAll_told : LogAlike (s.endAll ch) (s.handAll (some ch)
    (({ s.chan ch with console := [] } : Channel).abortedRecords s.tick ++ (s.chan ch).abandonedRecords)) := by
  have close : ∀ c : Channel, (c.closeD false).hold = c.hold := fun c => by rw [c.closeD_eq]
  have hold : ((((s.onChan ch fun c => { c with console := [] }).endExchange ch .aborted).onChan ch fun c =>
      c.closeD false).chan ch).hold = (s.chan ch).hold := by
    rw [State.chan_onChan_same, close, State.endExchange_chan_aborted, Channel.exchangeAborted_eq,
      State.chan_onChan_same]
  have ended := State.endExchange_told (s.onChan ch fun c => { c with console := [] }) ch
  rw [State.chan_onChan_same, State.onChan_tick] at ended
  have records : ∀ d : Channel, d.hold = (s.chan ch).hold → d.abandonedRecords = (s.chan ch).abandonedRecords :=
    fun d h => by simp [Channel.abandonedRecords, h]
  rw [State.handAll_append]
  unfold State.endAll
  refine (State.abandonHold_told _ ch).trans ?_
  rw [records _ hold]
  exact LogAlike.handAll ((LogAlike.onChan _ ch _).trans (ended.trans ((LogAlike.onChan s ch _).handAll _ _))) _ _

theorem State.endAll_stay : NoticesStay s (s.endAll ch) := by
  have on : ∀ (u : State) (f : Channel → Channel), NoticesStay u (u.onChan ch f) := fun u f => .of_link (by simp)
  exact (((on s _).trans (State.endExchange_aborted_stay _ ch)).trans (on _ _)).trans
      (State.endHold_noticed _ ch _ _).1

theorem State.endAll_tables : (s.endAll ch).rules = (s.endExchange ch .aborted).rules
    ∧ (s.endAll ch).images = (s.endExchange ch .aborted).images := by
  have hx : ((s.onChan ch fun c => { c with console := [] }).chan ch).exch = (s.chan ch).exch := by
    rw [State.chan_onChan_same]
  simp only [State.endAll, State.abandonHold, State.onChan_rules, State.onChan_images, State.endHold_rules,
    State.endHold_images]
  exact ⟨s.endExchange_rules_congr ch _ (by simp) hx, s.endExchange_images_congr ch _ (by simp) (by simp) hx⟩

theorem State.resetChannel_chan : SameChannel (s.chan ch).resetHere ((s.resetChannel ch).chan ch)
    ∧ SameChannel (s.chan (other ch)) ((s.resetChannel ch).chan (other ch)) := by
  obtain ⟨h1, h2⟩ := s.endAll_chan ch
  have same := ((s.endAll ch).onChan ch Channel.afterReset).sameChannel_retimeAll ch
  have apart := ((s.endAll ch).onChan ch Channel.afterReset).sameChannel_retimeAll (other ch)
  rw [State.chan_onChan_same, h1] at same
  rw [State.chan_onChan_other, h2] at apart
  exact ⟨same, apart⟩

/-- An exchange ended ABORTED with its console text dropped. -/
theorem Channel.exchangeAborted_noText (c : Channel) : ∃ giving wait taken act waits running,
    ({ c with console := [] } : Channel).exchangeAborted = { c with
      exch := none, giving := giving, grantWait := wait, grantLimitTaken := taken, nextAct := act
      arb := { c.arb with relayWaits := waits }, console := [], health := { c.health with running := running } } := by
  obtain ⟨⟩ := c
  rename_i exch _ _ _ _ _ health
  obtain ⟨⟩ := health
  cases exch <;> exact ⟨_, _, _, _, _, _, rfl⟩

/-- The channel of a channel reset, field by field. -/
structure ResetTo (c d : Channel) : Prop where
  exch : d.exch = none
  hold : d.hold = none
  console : d.console = []
  park : d.park = false
  fallback : d.fallback = false
  sync : d.sync = .unknown
  phase : d.phase = .free
  pull : d.pull.c = ⟨false, false⟩
  settings : d.settings = c.settings
  mode : d.mode = c.mode
  deferred : d.deferred = []
  byteOpen : d.byteOpen = false
  holder : d.arb.holder = c.arb.holder
  dOp : d.dOp = (if c.relayOpen then .closing false else c.dOp).disown
  health : d.health = { c.health with
    misframes := 0, cleanRun := 0, degraded := false, stuckC := false, stuckD := false, busClear := none
    lastClear := if c.health.busClear.isSome then .abandoned else c.health.lastClear, running := .zero }

theorem ResetTo.same {c d e : Channel} (h : ResetTo c d) (k : SameChannel d e) : ResetTo c e := by
  rw [k]
  obtain ⟨h1, h2, h3, h4, h5, h6, h7, h8, h9, h10, h11, h12, h13, h14, h15⟩ := h
  exact ⟨h1, h2, h3, h4, h5, h6, h7, h8, h9, h10, h11, h12, h13, h14, h15⟩

theorem Channel.resetHere_to (c : Channel) : ResetTo c c.resetHere := by
  obtain ⟨giving, wait, taken, act, waits, running, e⟩ := c.exchangeAborted_noText
  have last : ∀ d : Channel, d.exch = none → d.hold = none → d.console = [] → d.settings = c.settings →
      d.mode = c.mode →
      d.arb.holder = c.arb.holder → d.dOp = (if c.relayOpen then .closing false else c.dOp) →
      d.health = { c.health with running := d.health.running } → ResetTo c d.afterReset :=
    fun d h1 h2 h3 h4 h5 h6 h7 h8 => by
      unfold Channel.afterReset
      dsimp only
      rw [Channel.settleKept_eq, d.abandonClear_eq]
      exact ⟨h1, h2, h3, rfl, rfl, rfl, rfl, rfl, h4, h5, rfl, rfl, h6, congrArg DOp.disown h7, by
        rw [h8]; rfl⟩
  unfold Channel.resetHere
  rw [e, Channel.closeD_eq]
  exact last _ rfl rfl rfl rfl rfl rfl rfl rfl

/-- A grant being closed is none the relay may go on with (R14). -/
theorem ResetTo.relayOpen {c d : Channel} (h : ResetTo c d) : d.relayOpen = false := by
  unfold Channel.relayOpen
  rw [h.dOp, h.holder]
  by_cases ho : c.relayOpen = true
  · simp [ho, DOp.disown]
  · rw [if_neg ho]
    unfold Channel.relayOpen at ho
    cases hd : c.dOp <;> simp_all [DOp.disown]

/-- Settles O15: each part of the statement is what one lemma says of the channel, the log, the tables or the link. -/
theorem channelReset : Obligations.ChannelReset := by
  intro s tag ch hr
  have taken : ∀ chan : Byte, exec (.channelReset tag chan) s = .next ((ownChannelReset chan s).1.withReply
      ⟨tag, 0x12, (ownChannelReset chan s).2.status, (ownChannelReset chan s).2.results⟩) := fun chan =>
    congrArg Host.Outcome.next (s.serve_of_ready hr tag 0x12 (ownChannelReset chan))
  have own : ownChannelReset (chanCode ch) s
      = if s.jobOn ch then (s, refuse .busy) else (s.resetChannel ch, okWith []) := by
    simp [ownChannelReset]
  refine ⟨fun hj => ?_, fun hj => ?_, fun chan hc => ?_⟩
  · rw [taken, own, if_pos hj]
    rfl
  · obtain ⟨here, apart⟩ := s.resetChannel_chan ch
    have h := (s.chan ch).resetHere_to.same here
    obtain ⟨rules, images⟩ := s.endAll_tables ch
    refine ⟨_, by rw [taken, own, if_neg (by simp [hj])], ?_⟩
    have same : ∀ (u : State) (r : Reply) (c : Chan), (u.withReply r).chan c = u.chan c := fun u r c => by
      cases c <;> rfl
    obtain ⟨engine, supply, tick⟩ : (s.resetChannel ch).engine = s.engine ∧ (s.resetChannel ch).supply = s.supply
        ∧ (s.resetChannel ch).tick = s.tick := by
      simp [s.resetChannel_eq, State.endAll, State.abandonHold]
    have last : ∀ g : Channel → Channel, LogAlike ((s.endAll ch).onChan ch g).retimeAll (s.endAll ch) :=
      fun g => ⟨by simp, by simp, by simp⟩
    have replies : (s.resetChannel ch).link.replies = s.link.replies := by
      rw [s.resetChannel_eq, State.retimeAll_link, State.onChan_link, (s.endAll_stay ch).rest]
    have log := ((last Channel.afterReset).trans (s.endAll_told ch)).log
    rw [← s.resetChannel_eq] at log
    have tables : (s.resetChannel ch).rules = (s.endAll ch).rules
        ∧ (s.resetChannel ch).images = (s.endAll ch).images := by
      simp [s.resetChannel_eq]
    simp only [same]
    rw [h.health]
    exact ⟨congrArg (· ++ _) replies, h.exch, h.hold, h.console, h.park, rfl, rfl, rfl, rfl, rfl,
        h.fallback, rfl, rfl,
      h.sync, h.phase, h.pull, h.settings, h.mode, rfl, rfl, rfl, log, tables.1.trans rules, tables.2.trans images,
      h.deferred, h.byteOpen, fun hh => ⟨h.holder.trans hh, h.relayOpen⟩, apart, engine, supply, tick⟩
  · rw [taken, ownChannelReset, chanOf_none hc]
    rfl

end Sys2Proof.Machine
end

section
/-! Acknowledge bits on the C-side (R4, R28, R72, R82): O52. -/

namespace Sys2Proof.Machine

variable (s : State) (ch : Chan)

/-! ### What an acknowledge bit leaves alone, whatever it comes to -/

/-- What of a channel no acknowledge bit changes once its ninth bit is sampled. -/
def Channel.ackView (c : Channel) : Bool × Mode × Bool × Bool × Lines × Bool × Meters × Option Hold × ChanSettings :=
  (c.byteOpen, c.mode, c.highPhase, c.highData, c.ext, c.dataTold, c.meters, c.hold, c.settings)

/-- State `t` has what no acknowledge bit on channel `ch` changes as `s` has it. -/
structure AckKeeps (ch : Chan) (s t : State) : Prop where
  here : (t.chan ch).ackView = (s.chan ch).ackView
  other : t.chan (other ch) = s.chan (other ch)
  rules : t.rules = s.rules
  engine : t.engine = s.engine
  supply : t.supply = s.supply
  inReset : t.inReset = s.inReset

theorem AckKeeps.refl (s : State) : AckKeeps ch s s := ⟨rfl, rfl, rfl, rfl, rfl, rfl⟩

theorem AckKeeps.trans {ch : Chan} {s t u : State} (h : AckKeeps ch s t) (k : AckKeeps ch t u) : AckKeeps ch s u :=
  ⟨k.here.trans h.here, k.other.trans h.other, k.rules.trans h.rules, k.engine.trans h.engine,
      k.supply.trans h.supply,
    k.inReset.trans h.inReset⟩

theorem AckKeeps.onChan {f : Channel → Channel} (h : (f (s.chan ch)).ackView = (s.chan ch).ackView) :
    AckKeeps ch s (s.onChan ch f) :=
  ⟨by rw [State.chan_onChan_same, h], by simp, by simp, by simp, by simp, by simp⟩

theorem AckKeeps.hand (x : Option Chan) (b : Body) : AckKeeps ch s (s.hand x b) :=
  ⟨by simp, by simp, by simp, by simp, by simp, by simp⟩

theorem AckKeeps.onImage (k : Fin 4) (f : Image → Image) : AckKeeps ch s (s.onImage k f) := by
  cases ch <;> exact ⟨rfl, rfl, rfl, rfl, rfl, rfl⟩

/-! ### The NACK of a byte (R20, R154) -/

/-- A channel whose byte in hand, of exchange `x`, is NACKed. -/
def Channel.nackNoted (x : Exchange) (c : Channel) : Channel :=
  if c.noted then c
  else { c with
    noted := true
    exch := some { x with firstNack := some (x.firstNack.getD (x.count - 1)) }
    health := { c.health with running := { c.health.running with
      dataNacks := if c.settings.nackCounting = .byte ∨ x.firstNack = none then bump c.health.running.dataNacks
        else c.health.running.dataNacks } } }

theorem State.noteNack_eq {x : Exchange} (hx : (s.chan ch).exch = some x) :
    s.noteNack ch = s.onChan ch (Channel.nackNoted x) := by
  unfold State.noteNack
  dsimp only
  rw [hx]
  dsimp only
  split
  · rename_i hn
    have same : (s.chan ch).nackNoted x = s.chan ch := if_pos hn
    rw [State.onChan, same]
    cases ch <;> rfl
  · rename_i hn
    have noted : (s.chan ch).nackNoted x = _ := if_neg hn
    split
    · rename_i hb
      simp only [State.tally, State.onHealth, State.onChan_onChan]
      rw [State.onChan, State.onChan, noted, if_pos hb]
    · rename_i hb
      rw [State.onChan, State.onChan, noted, if_neg hb]

/-- A NACK taken for the first time (R154, log entry 20). -/
theorem Channel.nackNoted_fresh (x : Exchange) {c : Channel} (h : c.noted = false) :
    (c.nackNoted x).exch = some { x with firstNack := some (x.firstNack.getD (x.count - 1)) }
      ∧ (c.nackNoted x).health.running = { c.health.running with
        dataNacks := if c.settings.nackCounting = .byte ∨ x.firstNack = none
          then min 4294967295 (c.health.running.dataNacks + 1) else c.health.running.dataNacks } := by
  simp [Channel.nackNoted, h, bump, satAdd, max32]

/-- A NACK noted changes neither what the part pulls nor where the exchange is. -/
theorem Channel.nackNoted_keeps (x : Exchange) (c : Channel) : (c.nackNoted x).phase = c.phase
    ∧ (c.nackNoted x).pull = c.pull ∧ (c.nackNoted x).console = c.console ∧ (c.nackNoted x).dOp = c.dOp := by
  unfold Channel.nackNoted
  split <;> exact ⟨rfl, rfl, rfl, rfl⟩

theorem Channel.nackNoted_view (x : Exchange) (c : Channel) : (c.nackNoted x).ackView = c.ackView := by
  unfold Channel.nackNoted
  split <;> rfl

/-! ### The parts of an acknowledge bit that reach beyond the channel -/

/-- The next byte of an image given (R73). -/
theorem State.giveLocal_eq {x : Exchange} (hx : (s.chan ch).exch = some x) {k : Fin 4} (hk : x.onImage = some k) :
    s.giveLocal ch = (s.onImage k Image.advance).onChan ch fun c => c.give (s.image k).next := by
  simp [State.giveLocal, hx, hk]

theorem AckKeeps.giveLocal : AckKeeps ch s (s.giveLocal ch) := by
  unfold State.giveLocal
  split
  · exact .refl ch s
  · split
    · exact .refl ch s
    · exact (AckKeeps.onImage s ch _ _).trans (.onChan _ ch rfl)

theorem AckKeeps.consoleTake (b : Byte) : AckKeeps ch s (s.consoleTake ch b) := by
  unfold State.consoleTake State.consoleFlush
  dsimp only
  have join : AckKeeps ch s (s.onChan ch fun c => { c with console := c.console ++ [b] }) := .onChan s ch rfl
  (repeat' split)
  · exact join
  · exact join.trans ((AckKeeps.hand _ ch _ _).trans (.onChan _ ch rfl))
  · exact join

theorem AckKeeps.noteNack {x : Exchange} (hx : (s.chan ch).exch = some x) : AckKeeps ch s (s.noteNack ch) := by
  rw [s.noteNack_eq ch hx]
  exact .onChan s ch (Channel.nackNoted_view x _)

theorem AckKeeps.useLocal : AckKeeps ch s (s.useLocal ch) := by
  unfold State.useLocal State.storeByte
  dsimp only
  (repeat' split)
  · exact .refl ch s
  · exact .onImage s ch _ _
  · exact (AckKeeps.onImage s ch _ _).trans (.onChan _ ch rfl)
  · exact .consoleTake s ch _

/-- A byte of text that joins the console buffer (R82, R83). -/
theorem State.consoleTake_eq (b : Byte) : s.consoleTake ch b
    = if b = 0x0A ∨ 64 ≤ (s.chan ch).console.length + 1 then
        (s.hand (some ch) (.console ((s.chan ch).console ++ [b]))).onChan ch fun c => { c with console := [] }
      else s.onChan ch fun c => { c with console := c.console ++ [b] } := by
  unfold State.consoleTake State.consoleFlush
  dsimp only
  simp only [State.chan_onChan_same, List.length_append, List.length_singleton, Config.consoleSize]
  split
  · rw [if_neg (by simp), State.hand_onChan, State.onChan_onChan]
  · rfl

/-! ### What each acknowledge bit comes to -/

/-- The state after a sampled ninth bit `b` of exchange `x`. -/
def State.acked (s : State) (ch : Chan) (x : Exchange) (b : AckBit) : State :=
  if x.count = 0 then s.addressAcked ch b else s.dataAcked ch x b

theorem State.exec_cAckComplete {x : Exchange} (bit : AckBit) (ht : s.takesAck ch = true)
    (hx : (s.chan ch).exch = some x) : exec (.cAckComplete ch bit) s
      = .next ((s.onChan ch fun c => c.sampleAck bit).acked ch x ((s.chan ch).lineAck bit)).retimeAll := by
  show execCAckComplete ch bit s = _
  unfold execCAckComplete
  rw [if_pos ht]
  dsimp only
  rw [hx]
  rfl

/-- With no exchange in flight a bit changes the channel's lines alone. -/
theorem State.exec_cAckComplete_none (bit : AckBit) (ht : s.takesAck ch = true) (hx : (s.chan ch).exch = none) :
    exec (.cAckComplete ch bit) s = .next (s.onChan ch fun c => c.sampleAck bit).retimeAll := by
  show execCAckComplete ch bit s = _
  unfold execCAckComplete
  rw [if_pos ht]
  dsimp only
  rw [hx]

/-- The ninth bit sampled, as the statement of log entries 7, 8 and 33 lists it. -/
theorem Channel.sampleAck_eq (c : Channel) (bit : AckBit) :
    let low := decide (bit = .ack) || c.pull.c.data
    c.sampleAck bit = { c with
      ext := { c := ⟨true, c.ext.c.data && low⟩, d := if c.mode = .monitor then ⟨false, c.ext.d.data && low⟩
          else c.ext.d }
      dataTold := false, pull := { c.pull with c := ⟨false, false⟩ }, highPhase := true, highData := c.pull.c.data
      byteOpen := false, meters := (c.sampleAck bit).meters } := by
  intro low
  have carried : decide (c.lineAck bit = .ack) = low := by
    unfold Channel.lineAck
    cases hp : c.pull.c.data <;> simp [low, hp]
  unfold Channel.sampleAck
  rw [carried]
  rfl

/-! ### The measurements of stuck lines in the clock-high after the bit (R149) -/

/-- The measurements of stuck lines after the bit: none of CnCK, and over an ACK that of CnDA told low goes on. -/
theorem AckKeeps.measured {bit : AckBit} {r : State} (h : AckKeeps ch (s.onChan ch fun c => c.sampleAck bit) r)
    (hm : (s.chan ch).mode ≠ .isolated) : (r.retimeAll.chan ch).meters.stuckClock = none
      ∧ (bit = .ack → (s.chan ch).pull.c.data = false → (s.chan ch).ext.c.data = true → (s.chan ch).hold = none →
        (r.retimeAll.chan ch).meters.stuckData
          = some ((s.chan ch).meters.stuckData.getD ⟨0, (s.chan ch).settings.stuckLimit * 1000⟩)) := by
  have view := h.here
  rw [State.chan_onChan_same] at view
  have meters : ∃ u : State, (r.retimeAll.chan ch).meters = u.metersNow ch ∧ u.chan ch = r.chan ch
      ∧ u.inReset = r.inReset := by
    cases ch
    · exact ⟨r, rfl, rfl, rfl⟩
    · exact ⟨r.retime .c0, rfl, rfl, rfl⟩
  obtain ⟨u, hu, hc, hi⟩ := meters
  simp only [Channel.ackView, Prod.mk.injEq] at view
  obtain ⟨-, mode, highPhase, highData, ext, -, kept, hold, settings⟩ := view
  rw [Channel.sampleAck_eq] at mode highPhase highData ext hold settings
  dsimp only at mode highPhase highData ext hold settings
  rw [hu]
  refine ⟨by simp [State.metersNow, hc, highPhase, keepTimer], fun ha hp he hh => ?_⟩
  subst ha
  have goes : ((s.chan ch).sampleAck .ack).meters.stuckData = (s.chan ch).meters.stuckData := by
    simp [Channel.sampleAck, Channel.restC, Channel.sampleC, Channel.trafficC, Channel.lineAck, hp]
  simp [State.metersNow, hc, mode, hm, hold, hh, State.cDataLow, Channel.cSide, Channel.cPull, highPhase,
      highData, ext,
    he, hp, keepTimer, kept, goes, settings, ms]

/-- The controller's NACK of a relayed byte, driven on the D-side (R28, R29). -/
theorem State.readAcked_nack {x : Exchange} (hx : (s.chan ch).exch = some x) : s.readAcked ch .nack
    = s.onChan ch fun c => { (c.nackNoted x).driveAck .nack with phase := .refused } := by
  rw [State.readAcked, s.noteNack_eq ch hx, State.onChan_onChan]

/-- The controller's NACK of an emulated byte (R73). -/
theorem State.localReadAcked_nack {x : Exchange} (hx : (s.chan ch).exch = some x) : s.localReadAcked ch .nack
    = s.onChan ch fun c => { c.nackNoted x with giving := none, phase := .refused } := by
  rw [State.localReadAcked, s.noteNack_eq ch hx, State.onChan_onChan]

theorem Channel.fetch_view (c : Channel) (span : Nat) : (c.fetch span).ackView = c.ackView := rfl

theorem Channel.driveAck_view (c : Channel) (b : AckBit) : (c.driveAck b).ackView = c.ackView := rfl

theorem AckKeeps.addressAcked (b : AckBit) : AckKeeps ch s (s.addressAcked ch b) := by
  unfold State.addressAcked
  split
  · exact .onChan s ch rfl
  · exact .onChan s ch (Channel.fetch_view _ _)
  · split
    · exact .giveLocal s ch
    · exact .refl ch s
  · exact .refl ch s

theorem AckKeeps.observedAck {x : Exchange} (hx : (s.chan ch).exch = some x) (b : AckBit) :
    AckKeeps ch s (s.observedAck ch x b) := by
  unfold State.observedAck
  have noted : AckKeeps ch s (if b = .nack then s.noteNack ch else s) := by
    split
    · exact .noteNack s ch hx
    · exact .refl ch s
  dsimp only
  split
  · exact noted.trans (.consoleTake _ ch _)
  · exact noted

theorem AckKeeps.readAcked {x : Exchange} (hx : (s.chan ch).exch = some x) (b : AckBit) :
    AckKeeps ch s (s.readAcked ch b) := by
  cases b with
  | ack => exact .onChan s ch (f := fun c => c.stretch.driveAck .ack) (Channel.driveAck_view (s.chan ch).stretch .ack)
  | nack =>
    rw [s.readAcked_nack ch hx]
    exact .onChan s ch ((Channel.driveAck_view _ .nack).trans (Channel.nackNoted_view x _))

theorem AckKeeps.localReadAcked {x : Exchange} (hx : (s.chan ch).exch = some x) (b : AckBit) :
    AckKeeps ch s (s.localReadAcked ch b) := by
  cases b with
  | ack => exact .giveLocal s ch
  | nack =>
    rw [s.localReadAcked_nack ch hx]
    exact .onChan s ch (Channel.nackNoted_view x _)

/-- No acknowledge bit changes more than `AckKeeps` allows. -/
theorem AckKeeps.acked {x : Exchange} (hx : (s.chan ch).exch = some x) (b : AckBit) :
    AckKeeps ch s (s.acked ch x b) := by
  unfold State.acked State.dataAcked
  split
  · exact .addressAcked s ch b
  · split
    · exact .observedAck s ch hx b
    · exact .readAcked s ch hx b
    · split
      · exact .localReadAcked s ch hx b
      · exact .useLocal s ch
    · split
      · exact .noteNack s ch hx
      · exact .refl ch s
    · exact .refl ch s

theorem State.onlyChannel_twice (f g : Channel → Channel) :
    OnlyChannel ch s ((s.onChan ch f).onChan ch g).retimeAll := by
  rw [State.onChan_onChan]
  exact s.onlyChannel_onChan ch _

/-- An image that is there, changed. -/
theorem State.onImage_images (k : Fin 4) (f : Image → Image) {im : Image} (h : s.images[k.val]? = some im) :
    (s.onImage k f).images = s.images.set k.val (f im) := by
  refine List.ext_getElem? fun i => ?_
  simp only [State.onImage, List.getElem?_modify, List.getElem?_set]
  by_cases hi : k.val = i
  · subst hi
    obtain ⟨hl, rfl⟩ := List.getElem?_eq_some_iff.1 h
    simp [hl]
  · simp [hi]

@[simp] theorem State.onImage_chan (k : Fin 4) (f : Image → Image) (c : Chan) : (s.onImage k f).chan c
    = s.chan c := by
  cases c <;> rfl

/-- A byte taken in LOCAL, used at its acknowledge bit (R72, R82). -/
theorem State.acked_local {x : Exchange} (h0 : x.count ≠ 0) (b : AckBit) (hph : (s.chan ch).phase = .localAnswer)
    (hd : x.direction = .write) : s.acked ch x b = s.useLocal ch := by
  simp [State.acked, h0, State.dataAcked, hph, hd]

theorem State.useLocal_image {x : Exchange} (hx : (s.chan ch).exch = some x) {k : Fin 4} (hk : x.onImage = some k) :
    s.useLocal ch = s.storeByte ch x k := by
  simp [State.useLocal, hx, hk]

theorem State.useLocal_text {x : Exchange} (hx : (s.chan ch).exch = some x) (hk : x.onImage = none) :
    s.useLocal ch = s.consoleTake ch (s.chan ch).curByte := by
  simp [State.useLocal, hx, hk]

/-- A byte of text taken: where it stands then (R82, R83). -/
theorem State.consoleTake_text (b : Byte) : if b = 0x0A ∨ 64 ≤ (s.chan ch).console.length + 1 then
      ((s.consoleTake ch b).chan ch).console = []
        ∧ (s.consoleTake ch b).log = (s.hand (some ch) (.console ((s.chan ch).console ++ [b]))).log
    else ((s.consoleTake ch b).chan ch).console = (s.chan ch).console ++ [b] ∧ (s.consoleTake ch b).log = s.log := by
  rw [State.consoleTake_eq]
  split <;> simp

/-- Of its channel a byte of text taken changes the buffer alone. -/
theorem State.consoleTake_chan (b : Byte) : (s.consoleTake ch b).chan ch
    = { s.chan ch with console := ((s.consoleTake ch b).chan ch).console } := by
  rw [State.consoleTake_eq]
  split <;> simp

/-! ### The state after the ninth bit -/

/-- What state `u`, in which the ninth bit of exchange `x` has been sampled, has of state `s` before it. -/
structure NinthBit (ch : Chan) (x : Exchange) (s u : State) : Prop where
  one : OnlyChannel ch s u.retimeAll
  only : ∀ g, OnlyChannel ch s (u.onChan ch g).retimeAll
  handed : ∀ body, (u.hand (some ch) body).log = (s.hand (some ch) body).log
  images : u.images = s.images
  log : u.log = s.log
  exch : (u.chan ch).exch = some x
  phase : (u.chan ch).phase = (s.chan ch).phase
  curByte : (u.chan ch).curByte = (s.chan ch).curByte
  noted : (u.chan ch).noted = (s.chan ch).noted
  settings : (u.chan ch).settings = (s.chan ch).settings
  health : (u.chan ch).health = (s.chan ch).health
  console : (u.chan ch).console = (s.chan ch).console
  pull : (u.chan ch).pull = { (s.chan ch).pull with c := ⟨false, false⟩ }
  dOp : (u.chan ch).dOp = (s.chan ch).dOp

theorem State.ninthBit {x : Exchange} (hx : (s.chan ch).exch = some x) (bit : AckBit) :
    NinthBit ch x s (s.onChan ch fun c => c.sampleAck bit) := by
  have sampled : (s.onChan ch fun c => c.sampleAck bit).chan ch = _ :=
    (State.chan_onChan_same _ _ _).trans ((s.chan ch).sampleAck_eq bit)
  refine ⟨s.onlyChannel_onChan ch _, s.onlyChannel_twice ch _, fun body => by
      rw [State.hand_onChan, State.onChan_log],
    by simp, by simp, ?_, ?_, ?_, ?_, ?_, ?_, ?_, ?_, ?_⟩ <;> rw [sampled]
  exact hx

/-- The byte in hand of exchange `x` is NACKed for the first time, from state `s` to state `t` (R154). -/
def Nacked (ch : Chan) (x : Exchange) (s t : State) : Prop :=
  (s.chan ch).noted = false → (t.chan ch).exch = some { x with firstNack := some (x.firstNack.getD (x.count - 1)) }
    ∧ (t.chan ch).health.running = { (s.chan ch).health.running with
        dataNacks := if (s.chan ch).settings.nackCounting = .byte ∨ x.firstNack = none
          then min 4294967295 ((s.chan ch).health.running.dataNacks + 1) else (s.chan ch).health.running.dataNacks }

/-- The byte in hand is taken as text, from state `s` to state `t` (R82, R83). -/
def TextTaken (ch : Chan) (s t : State) : Prop :=
  if (s.chan ch).curByte = 0x0A ∨ 64 ≤ (s.chan ch).console.length + 1 then
    (t.chan ch).console = []
      ∧ t.log = (s.hand (some ch) (.console ((s.chan ch).console ++ [(s.chan ch).curByte]))).log
  else (t.chan ch).console = (s.chan ch).console ++ [(s.chan ch).curByte] ∧ t.log = s.log

section
variable {s ch} {x : Exchange} {u : State} (h : NinthBit ch x s u)
include h

/-- A NACK noted in state `u`, for a channel that ends with its exchange and its counters. -/
theorem NinthBit.nacked {t : State} (he : (t.chan ch).exch = ((u.chan ch).nackNoted x).exch)
    (hr : (t.chan ch).health.running = ((u.chan ch).nackNoted x).health.running) : Nacked ch x s t := fun hn => by
  obtain ⟨h1, h2⟩ := Channel.nackNoted_fresh x (h.noted.trans hn)
  rw [h.health, h.settings] at h2
  exact ⟨he.trans h1, hr.trans h2⟩

theorem NinthBit.imageSet {k : Fin 4} {im : Image} (hk : s.images[k.val]? = some im) :
    u.image k = im ∧ ∀ f, (u.onImage k f).images = s.images.set k.val (f im) :=
  ⟨by simp [State.image, h.images, hk], fun f => by rw [u.onImage_images k f (h.images ▸ hk), h.images]⟩

/-- After the address of an observed exchange, of a relayed read, and where a byte is to come (R24, R28, R43). -/
theorem NinthBit.address (b : AckBit) (h0 : x.count = 0) :
    ((s.chan ch).phase = .observing → OnlyChannel ch s (u.acked ch x b).retimeAll
        ∧ ((u.acked ch x b).retimeAll.chan ch).exch = some { x with addressAck := some b })
      ∧ ((s.chan ch).phase = .relayRead → OnlyChannel ch s (u.acked ch x b).retimeAll
        ∧ ((u.acked ch x b).retimeAll.chan ch).exch = some x ∧ ((u.acked ch x b).retimeAll.chan ch).dOp = .readByte
        ∧ ((u.acked ch x b).retimeAll.chan ch).pull.c = ⟨true, false⟩)
      ∧ (((s.chan ch).phase = .relayWrite ∨ (s.chan ch).phase = .refused
          ∨ ((s.chan ch).phase = .localAnswer ∧ x.direction = .write)) → OnlyChannel ch s (u.acked ch x b).retimeAll
        ∧ ((u.acked ch x b).retimeAll.chan ch).exch = some x
        ∧ ((u.acked ch x b).retimeAll.chan ch).phase = (s.chan ch).phase
        ∧ ((u.acked ch x b).retimeAll.chan ch).pull = { (s.chan ch).pull with c := ⟨false, false⟩ }) := by
  refine ⟨fun hph => ?_, fun hph => ?_, fun hph => ?_⟩
  · have e : u.acked ch x b = u.onExch ch fun x => { x with addressAck := some b } := by
      simp [State.acked, h0, State.addressAcked, h.phase, hph]
    rw [e]
    exact ⟨h.only _, by simp [State.onExch, h.exch]⟩
  · have e : u.acked ch x b = u.onChan ch fun c => c.fetch c.inUse.firstReadByte := by
      simp [State.acked, h0, State.addressAcked, h.phase, hph]
    rw [e]
    exact ⟨h.only _, by simp [Channel.fetch, Channel.beginD, Channel.stretch, h.exch]⟩
  · have e : u.acked ch x b = u := by
      rcases hph with hph | hph | ⟨hph, hd⟩ <;>
        simp [State.acked, h0, State.addressAcked, h.phase, hph, Channel.reading, h.exch]
      simp [hd]
    rw [e]
    exact ⟨h.one, by simp [h.exch], by simp [h.phase], by simp [h.pull]⟩

/-- An emulated read gives the byte at the pointer, which advances (R73). -/
theorem NinthBit.gives {b : AckBit} {k : Fin 4} {im : Image} (hk : x.onImage = some k)
    (him : s.images[k.val]? = some im) (hph : (s.chan ch).phase = .localAnswer) (hd : x.direction = .read)
    (hb : x.count = 0 ∨ b = .ack) : ((u.acked ch x b).retimeAll.chan ch).giving = some
        (memRead im.contents im.pointer)
      ∧ ((u.acked ch x b).retimeAll.chan ch).bitsOut = 1 ∧ ((u.acked ch x b).retimeAll.chan ch).phase = .localAnswer
      ∧ ((u.acked ch x b).retimeAll.chan ch).pull.c = ⟨false, !(memRead im.contents im.pointer).getLsbD 7⟩
      ∧ ((u.acked ch x b).retimeAll.chan ch).exch = some x
      ∧ (u.acked ch x b).retimeAll.images = s.images.set k.val { im with pointer := (im.pointer + 1) % im.size }
      ∧ (u.acked ch x b).retimeAll.log = s.log := by
  have e : u.acked ch x b = u.giveLocal ch := by
    by_cases h0 : x.count = 0
    · simp [State.acked, h0, State.addressAcked, h.phase, hph, Channel.reading, h.exch, hd]
    · simp [State.acked, h0, State.dataAcked, h.phase, hph, hd, hb.resolve_left h0, State.localReadAcked]
  obtain ⟨at_k, set⟩ := h.imageSet him
  rw [e, u.giveLocal_eq ch h.exch hk, at_k]
  simp [Channel.give, Image.next, h.phase, hph, h.exch, set, Image.advance, h.log]

/-- A byte written to an image (R72). -/
theorem NinthBit.stores (b : AckBit) {k : Fin 4} {im : Image} (hk : x.onImage = some k)
    (him : s.images[k.val]? = some im) (hph : (s.chan ch).phase = .localAnswer) (hd : x.direction = .write) :
    (u.acked ch x b).retimeAll.log = s.log
      ∧ (x.count = 1 → (u.acked ch x b).retimeAll.images
            = s.images.set k.val { im with pointer := (s.chan ch).curByte.toNat % im.size }
          ∧ ((u.acked ch x b).retimeAll.chan ch).exch = some x)
      ∧ (2 ≤ x.count → im.protect.getLsbD im.pointer = true → (u.acked ch x b).retimeAll.images
            = s.images.set k.val { im with pointer := (im.pointer + 1) % im.size }
          ∧ ((u.acked ch x b).retimeAll.chan ch).exch = some x)
      ∧ (2 ≤ x.count → im.protect.getLsbD im.pointer = false → (u.acked ch x b).retimeAll.images
            = s.images.set k.val { im with
                contents := memWrite im.contents im.pointer (s.chan ch).curByte
                writeCount := min 65535 (im.writeCount + 1), pointer := (im.pointer + 1) % im.size }
          ∧ ((u.acked ch x b).retimeAll.chan ch).exch = some { x with stored := true }) := by
  obtain ⟨at_k, set⟩ := h.imageSet him
  have e (h0 : x.count ≠ 0) : u.acked ch x b = u.storeByte ch x k := by
    rw [u.acked_local ch h0 b (h.phase.trans hph) hd, u.useLocal_image ch h.exch hk]
  refine ⟨?_, fun h1 => ?_, fun h2 hg => ?_, fun h2 hg => ?_⟩
  · by_cases h0 : x.count = 0
    · simp [State.acked, h0, State.addressAcked, h.phase, hph, Channel.reading, h.exch, hd, h.log]
    · simp [e h0, h.log]
  · rw [e (by omega), State.storeByte]
    simp [h1, set, h.curByte, h.exch, Image.point]
  · rw [e (by omega), State.storeByte]
    simp [show x.count ≠ 1 by omega, set, h.curByte, h.exch, at_k, Image.guarded, hg, Image.store, Image.advance,
      State.onExch]
  · rw [e (by omega), State.storeByte]
    simp [show x.count ≠ 1 by omega, set, h.curByte, h.exch, at_k, Image.guarded, hg, Image.store, Image.advance,
      State.onExch, satAdd, max16]

/-- A byte of console text taken in LOCAL (R82). -/
theorem NinthBit.text (b : AckBit) (h0 : x.count ≠ 0) (hk : x.onImage = none)
    (hph : (s.chan ch).phase = .localAnswer) (hd : x.direction = .write) :
    (u.acked ch x b).retimeAll.images = s.images ∧ ((u.acked ch x b).retimeAll.chan ch).exch = some x
      ∧ TextTaken ch s (u.acked ch x b).retimeAll := by
  have e : u.acked ch x b = u.consoleTake ch (s.chan ch).curByte := by
    rw [u.acked_local ch h0 b (h.phase.trans hph) hd, u.useLocal_text ch h.exch hk, h.curByte]
  have taken := u.consoleTake_text ch (s.chan ch).curByte
  rw [h.console, h.handed, h.log] at taken
  rw [e]
  simp only [TextTaken, State.retimeAll_chan_exch, State.retimeAll_chan_console, State.retimeAll_log]
  refine ⟨by simp [h.images], ?_, taken⟩
  rw [State.consoleTake_chan]
  exact h.exch

/-- The acknowledge bit of a relayed written byte (R27). -/
theorem NinthBit.relayWrite (b : AckBit) (h0 : x.count ≠ 0) (hph : (s.chan ch).phase = .relayWrite) :
    OnlyChannel ch s (u.acked ch x b).retimeAll ∧ ((u.acked ch x b).retimeAll.chan ch).exch = some x
      ∧ ((u.acked ch x b).retimeAll.chan ch).phase = .relayWrite
      ∧ ((u.acked ch x b).retimeAll.chan ch).pull = { (s.chan ch).pull with c := ⟨false, false⟩ }
      ∧ ((u.acked ch x b).retimeAll.chan ch).dOp = (s.chan ch).dOp
      ∧ ((u.acked ch x b).retimeAll.chan ch).health = (s.chan ch).health := by
  have e : u.acked ch x b = u := by simp [State.acked, h0, State.dataAcked, h.phase, hph]
  rw [e]
  exact ⟨h.one, by simp [h.exch], by simp [h.phase, hph], by simp [h.pull], by simp [h.dOp], by simp [h.health]⟩

/-- The controller's NACK in a read, which is REFUSED from then on (R28, R29, R73). -/
theorem NinthBit.readNacked (h0 : x.count ≠ 0)
    (hph : (s.chan ch).phase = .relayRead ∨ ((s.chan ch).phase = .localAnswer ∧ x.direction = .read)) :
    OnlyChannel ch s (u.acked ch x .nack).retimeAll ∧ ((u.acked ch x .nack).retimeAll.chan ch).phase = .refused
      ∧ ((u.acked ch x .nack).retimeAll.chan ch).giving = none ∧ Nacked ch x s (u.acked ch x .nack).retimeAll := by
  rcases hph with hph | ⟨hph, hd⟩
  · have e : u.acked ch x .nack = u.onChan ch fun c => { (c.nackNoted x).driveAck .nack with phase := .refused } := by
      simp [State.acked, h0, State.dataAcked, h.phase, hph, u.readAcked_nack ch h.exch]
    rw [e]
    exact ⟨h.only _, by simp, by simp [Channel.driveAck], h.nacked (by simp [Channel.driveAck, Channel.beginD])
      (by simp [Channel.driveAck, Channel.beginD])⟩
  · have e : u.acked ch x .nack = u.onChan ch fun c => { c.nackNoted x with giving := none, phase := .refused } := by
      simp [State.acked, h0, State.dataAcked, h.phase, hph, hd, u.localReadAcked_nack ch h.exch]
    rw [e]
    exact ⟨h.only _, by simp, by simp, h.nacked (by simp) (by simp)⟩

/-- The controller's acknowledge of a relayed byte, driven on the D-side (R28, R29). -/
theorem NinthBit.relayRead (b : AckBit) (h0 : x.count ≠ 0) (hph : (s.chan ch).phase = .relayRead) :
    ((u.acked ch x b).retimeAll.chan ch).dOp = .readAck
      ∧ ((u.acked ch x b).retimeAll.chan ch).pull.d = ⟨false, decide (b = .ack)⟩
      ∧ (b = .ack → OnlyChannel ch s (u.acked ch x b).retimeAll
        ∧ ((u.acked ch x b).retimeAll.chan ch).exch = some x
        ∧ ((u.acked ch x b).retimeAll.chan ch).pull.c = ⟨true, false⟩
        ∧ ((u.acked ch x b).retimeAll.chan ch).phase = .relayRead) := by
  have e : u.acked ch x b = u.readAcked ch b := by simp [State.acked, h0, State.dataAcked, h.phase, hph]
  rw [e]
  cases b with
  | ack =>
    have e : u.readAcked ch .ack = u.onChan ch fun c => c.stretch.driveAck .ack := rfl
    rw [e]
    exact ⟨by simp [Channel.driveAck, Channel.beginD], by simp [Channel.driveAck, Channel.beginD],
      fun _ => ⟨h.only _, by simp [Channel.driveAck, Channel.beginD, Channel.stretch, h.exch, h.phase, hph]⟩⟩
  | nack =>
    rw [u.readAcked_nack ch h.exch]
    exact ⟨by simp [Channel.driveAck, Channel.beginD], by simp [Channel.driveAck, Channel.beginD], nofun⟩

/-- A byte in REFUSED (R154). -/
theorem NinthBit.refused (b : AckBit) (h0 : x.count ≠ 0) (hph : (s.chan ch).phase = .refused) :
    OnlyChannel ch s (u.acked ch x b).retimeAll ∧ (b = .nack → Nacked ch x s (u.acked ch x b).retimeAll)
      ∧ (b = .ack → ((u.acked ch x b).retimeAll.chan ch).exch = some x) := by
  have e : u.acked ch x b = if b = .nack then u.noteNack ch else u := by
    simp [State.acked, h0, State.dataAcked, h.phase, hph]
  rw [e, u.noteNack_eq ch h.exch]
  split
  · rename_i hb
    exact ⟨h.only _, fun _ => h.nacked (by simp) (by simp), fun k => by simp [k] at hb⟩
  · rename_i hb
    exact ⟨h.one, fun k => absurd k hb, fun _ => by simp [h.exch]⟩

/-- A byte of an observed exchange (R44, R84). -/
theorem NinthBit.observed (b : AckBit) (h0 : x.count ≠ 0) (hph : (s.chan ch).phase = .observing) :
    ((u.acked ch x b).retimeAll.chan ch).phase = .observing ∧ (u.acked ch x b).retimeAll.images = s.images
      ∧ ((u.acked ch x b).retimeAll.chan ch).pull = { (s.chan ch).pull with c := ⟨false, false⟩ }
      ∧ (b = .nack → Nacked ch x s (u.acked ch x b).retimeAll)
      ∧ (b = .ack → ((u.acked ch x b).retimeAll.chan ch).exch = some x)
      ∧ (if x.action = some .console ∧ x.direction = .write then TextTaken ch s (u.acked ch x b).retimeAll
        else OnlyChannel ch s (u.acked ch x b).retimeAll
          ∧ ((u.acked ch x b).retimeAll.chan ch).console = (s.chan ch).console) := by
  obtain ⟨f, hf⟩ : ∃ f : Channel → Channel, f = if b = .nack then Channel.nackNoted x else id := ⟨_, rfl⟩
  have e : u.acked ch x b = if x.action = some .console ∧ x.direction = .write then
      (u.onChan ch f).consoleTake ch (s.chan ch).curByte else u.onChan ch f := by
    have same : (if b = .nack then u.noteNack ch else u) = u.onChan ch f := by
      rw [hf, u.noteNack_eq ch h.exch]
      split
      · rfl
      · cases ch <;> rfl
    simp [State.acked, h0, State.dataAcked, h.phase, hph, State.observedAck, same, h.curByte]
  obtain ⟨phase, pull, console⟩ : (f (u.chan ch)).phase = .observing
      ∧ (f (u.chan ch)).pull = { (s.chan ch).pull with c := ⟨false, false⟩ }
      ∧ (f (u.chan ch)).console = (s.chan ch).console := by
    obtain ⟨h1, h2, h3, -⟩ := Channel.nackNoted_keeps x (u.chan ch)
    rw [hf]
    split
    · exact ⟨h1.trans (h.phase.trans hph), h2.trans h.pull, h3.trans h.console⟩
    · exact ⟨h.phase.trans hph, h.pull, h.console⟩
  have exch : ∀ t : State, (t.chan ch).exch = (f (u.chan ch)).exch → (t.chan ch).health = (f (u.chan ch)).health →
      (b = .nack → Nacked ch x s t) ∧ (b = .ack → (t.chan ch).exch = some x) := fun t he hh => by
    rw [hf] at he hh
    refine ⟨fun hb => ?_, fun hb => ?_⟩
    · rw [if_pos hb] at he hh
      exact h.nacked he (by rw [hh])
    · rw [hb] at he
      exact he.trans h.exch
  have taken := (u.onChan ch f).consoleTake_text ch (s.chan ch).curByte
  have chan := (u.onChan ch f).consoleTake_chan ch (s.chan ch).curByte
  rw [State.chan_onChan_same] at taken chan
  rw [console, State.hand_onChan, State.onChan_log, State.onChan_log, h.handed, h.log] at taken
  rw [e]
  split
  · obtain ⟨hn, ha⟩ := exch ((u.onChan ch f).consoleTake ch (s.chan ch).curByte).retimeAll
      (by rw [State.retimeAll_chan_exch, chan]) (by rw [State.retimeAll_chan_health, chan])
    refine ⟨?_, by simp [h.images], ?_, hn, ha, ?_⟩
    · rw [State.retimeAll_chan_phase, chan]
      exact phase
    · rw [State.retimeAll_chan_pull, chan]
      exact pull
    simpa only [TextTaken, State.retimeAll_chan_console, State.retimeAll_log] using taken
  · obtain ⟨hn, ha⟩ := exch (u.onChan ch f).retimeAll (by simp) (by simp)
    exact ⟨by simp [phase], by simp [h.images], by simp [pull], hn, ha, h.only _, by simp [console]⟩

end

/-- Settles O52: the ninth bit is sampled first, and each clause is what the branch of its phase makes of the channel
then. -/
theorem acknowledgeBits : Obligations.AcknowledgeBits := by
  intro s ch bit x c low lines measured hr hs hm ho hp
  have ht : s.takesAck ch = true := by simp [State.takesAck, hr, Channel.framing, hs, hm, ho, hp, c]
  have fields := c.sampleAck_eq bit
  refine ⟨fun hx => ?_, fun _ hx => ?_⟩
  · refine ⟨_, s.exec_cAckComplete_none ch bit ht hx, s.onlyChannel_onChan ch _, ?_,
      (AckKeeps.refl ch _).measured s ch hm⟩
    rw [State.chan_onChan_retimeAll, show (s.chan ch).sampleAck bit = _ from fields]
  intro b noted nacked text
  have run := s.exec_cAckComplete ch bit ht hx
  have ninth := s.ninthBit ch hx bit
  have keeps := AckKeeps.acked _ ch ninth.exch b
  have measured := keeps.measured s ch hm
  obtain ⟨view, apart, rules, engine, supply, -⟩ := keeps
  rw [State.chan_onChan_same, show (s.chan ch).sampleAck bit = _ from fields] at view
  simp only [Channel.ackView, Prod.mk.injEq] at view
  obtain ⟨byteOpen, mode, highPhase, highData, ext, dataTold, -, -, -⟩ := view
  have same := ((s.onChan ch fun c => c.sampleAck bit).acked ch x b).sameChannel_retimeAll (other ch)
  rw [apart, State.chan_onChan_other] at same
  rw [show (s.chan ch).lineAck bit = b from rfl] at run
  refine ⟨_, run, by simpa using byteOpen, by simpa using mode, by simpa using rules, by simpa using engine,
    by simpa using supply, by simpa using highPhase, by simpa using highData, by simpa using ext,
        by simpa using dataTold,
    measured, same, ninth.address b, fun k im hk him hph hd hb => ninth.gives hk him hph hd hb,
    fun k im hk him hph hd => ninth.stores b hk him hph hd, fun h0 hk hph hd => ninth.text b h0 hk hph hd,
    ninth.relayWrite b, fun h0 hph hb => hb ▸ ninth.readNacked h0 hph, ninth.relayRead b, ninth.refused b,
    ninth.observed b⟩

end Sys2Proof.Machine
end

section
/-! SUPPORT. A misframe and an exchange's end on states that differ in what they neither read nor write (R13, R34). -/

namespace Sys2Proof.Machine

variable {ch : Chan} {s t u v : State}

/-! ### A misframe -/

/-- What a misframe comes to is one state. -/
theorem MisframeTaken.unique {b : Bool} (hu : MisframeTaken ch b s u) (hv : MisframeTaken ch b s v) : u = v := by
  obtain ⟨hu1, hu2, hu3, hu4⟩ := hu
  obtain ⟨hv1, hv2, hv3, hv4⟩ := hv
  have blocks : u.log = v.log ∧ u.link = v.link := by
    split at hu3
    · rename_i hd
      rw [if_pos hd] at hv3
      exact ⟨hu3.1.trans hv3.1.symm, hu3.2.trans hv3.2.symm⟩
    · rename_i hd
      rw [if_neg hd] at hv3
      exact ⟨hu3.1.trans hv3.1.symm, hu3.2.trans hv3.2.symm⟩
  have chans : ∀ c, u.chan c = v.chan c := fun c => by
    have here := hu4.trans hv4.symm
    have there := hu2.trans hv2.symm
    cases ch <;> cases c <;> assumption
  have c0 := chans .c0
  have c1 := chans .c1
  simp only [State.chan] at c0 c1
  unfold SameBlocks at hu1 hv1
  rw [hu1, hv1, blocks.1, blocks.2, c0, c1]

/-- A change of a channel that neither reads nor writes what a misframe does. -/
structure LineChange (g : Channel → Channel) : Prop where
  commutes : ∀ (c : Channel) (x : Option Exchange) (f : Bool) (h : Health),
    g { c with exch := x, fallback := f, health := h } = { g c with exch := x, fallback := f, health := h }
  settings : ∀ c : Channel, (g c).settings = c.settings

theorem LineChange.keeps {g : Channel → Channel} (hg : LineChange g) (c : Channel) :
    (g c).exch = c.exch ∧ (g c).fallback = c.fallback ∧ (g c).health = c.health := by
  have e := hg.commutes c c.exch c.fallback c.health
  exact ⟨(congrArg Channel.exch e :), (congrArg Channel.fallback e :), (congrArg Channel.health e :)⟩

theorem MisframeTaken.onChan {b : Bool} (h : MisframeTaken ch b s u) {g : Channel → Channel} (hg : LineChange g) :
    MisframeTaken ch b (s.onChan ch g) (u.onChan ch g) := by
  obtain ⟨h1, h2, h3, h4⟩ := h
  obtain ⟨kx, kf, kh⟩ := hg.keeps (s.chan ch)
  have ks := hg.settings (s.chan ch)
  have hj : (s.onChan ch g).jobOn ch = s.jobOn ch := State.jobOn_congr (by simp) ch
  unfold MisframeTaken
  simp only [State.chan_onChan_same, State.chan_onChan_other, State.hand_onChan, kx, kf, kh, ks, hj,
      State.onChan_supply,
    State.onChan_monitor, State.onChan_log, State.onChan_link]
  refine ⟨?_, h2, ?_, ?_⟩
  · unfold SameBlocks at h1 ⊢
    rw [h1]
    cases ch <;> rfl
  · split at h3
    · rename_i hd
      rw [if_pos hd]
      refine ⟨h3.1, h3.2.trans ?_⟩
      split <;> cases ch <;> rfl
    · rename_i hd
      rw [if_neg hd]
      exact h3
  · rw [h4, hg.commutes]
    dsimp only
    rw [ks]

/-- A misframe taken after the lines have changed is the misframe with the lines changed then. -/
theorem State.takeMisframe_onChan (s : State) (ch : Chan) {g : Channel → Channel} (hg : LineChange g) :
    (s.onChan ch g).takeMisframe ch = (s.takeMisframe ch).onChan ch g :=
  ((s.onChan ch g).takeMisframe_taken ch).unique ((s.takeMisframe_taken ch).onChan hg)

theorem State.misframe_onChan (s : State) (ch : Chan) {g : Channel → Channel} (hg : LineChange g) :
    (s.onChan ch g).misframe ch = (s.misframe ch).onChan ch g :=
  ((s.onChan ch g).misframe_taken ch).unique ((s.misframe_taken ch).onChan hg)

/-! ### The end of an exchange -/

/-- What an exchange's end reads and writes, but the lines and the arbiter, is the same in both states. -/
structure EndAlike (ch : Chan) (s t : State) : Prop where
  log : t.log = s.log
  link : t.link = s.link
  rules : t.rules = s.rules
  images : t.images = s.images
  tick : t.tick = s.tick
  monitor : t.monitor = s.monitor
  latch : t.tripLatch = s.tripLatch
  exch : (t.chan ch).exch = (s.chan ch).exch
  console : (t.chan ch).console = (s.chan ch).console
  byteOpen : (t.chan ch).byteOpen = (s.chan ch).byteOpen
  health : (t.chan ch).health = (s.chan ch).health
  fallback : (t.chan ch).fallback = (s.chan ch).fallback
  settings : (t.chan ch).settings = (s.chan ch).settings

theorem EndAlike.refl (s : State) : EndAlike ch s s :=
    ⟨rfl, rfl, rfl, rfl, rfl, rfl, rfl, rfl, rfl, rfl, rfl, rfl, rfl⟩

theorem EndAlike.endsAs (h : EndAlike ch s t) : EndsAs ch s t :=
  ⟨h.log, h.link, h.rules, h.images, h.health, h.fallback, h.console⟩

/-- The part of a channel that an exchange's end reads and writes. -/
def Channel.endView (c : Channel) : Option Exchange × List Byte × Bool × Health × Bool × ChanSettings :=
  (c.exch, c.console, c.byteOpen, c.health, c.fallback, c.settings)

theorem Channel.endView_eq {c d : Channel} : d.endView = c.endView ↔ d.exch = c.exch ∧ d.console = c.console
    ∧ d.byteOpen = c.byteOpen ∧ d.health = c.health ∧ d.fallback = c.fallback ∧ d.settings = c.settings := by
  simp [Channel.endView]

theorem EndAlike.view (h : EndAlike ch s t) : (t.chan ch).endView = (s.chan ch).endView :=
  Channel.endView_eq.2 ⟨h.exch, h.console, h.byteOpen, h.health, h.fallback, h.settings⟩

/-- A change of the channel in both states that makes the same of what counts. -/
theorem EndAlike.onChan (h : EndAlike ch s t) {f g : Channel → Channel}
    (hf : (f (t.chan ch)).endView = (g (s.chan ch)).endView) : EndAlike ch (s.onChan ch g) (t.onChan ch f) := by
  obtain ⟨h1, h2, h3, h4, h5, h6⟩ := Channel.endView_eq.1 hf
  have latch : (t.onChan ch f).tripLatch = (s.onChan ch g).tripLatch := by simpa [State.tripLatch] using h.latch
  exact ⟨by simp [h.log], by simp [h.link], by simp [h.rules], by simp [h.images], by simp [h.tick],
      by simp [h.monitor],
    latch, by simp [h1], by simp [h2], by simp [h3], by simp [h4], by simp [h5], by simp [h6]⟩

/-- A change of the channel that leaves what counts as it was. -/
theorem EndAlike.changed (h : EndAlike ch s t) {f : Channel → Channel}
    (hf : (f (t.chan ch)).endView = (t.chan ch).endView) : EndAlike ch s (t.onChan ch f) := by
  have e : s.onChan ch id = s := by cases ch <;> rfl
  rw [← e]
  exact h.onChan (g := id) (hf.trans h.view)

/-- A later change of the channel alone changes nothing of what the end left. -/
theorem EndsAs.onChan (h : EndsAs ch s t) {f : Channel → Channel} (hf : ∀ c : Channel,
    (f c).health = c.health ∧ (f c).fallback = c.fallback ∧ (f c).console = c.console) :
    EndsAs ch s (t.onChan ch f).retimeAll := by
  obtain ⟨h1, h2, h3, h4, h5, h6, h7⟩ := h
  obtain ⟨k1, k2, k3⟩ := hf (t.chan ch)
  unfold EndsAs
  rw [State.chan_onChan_retimeAll]
  exact ⟨by simp [h1], by simp [h2], by simp [h3], by simp [h4], k1.trans h5, k2.trans h6, k3.trans h7⟩

theorem EndAlike.onHealth (h : EndAlike ch s t) (f : Health → Health) :
    EndAlike ch (s.onHealth ch f) (t.onHealth ch f) :=
  h.onChan (Channel.endView_eq.2 ⟨h.exch, h.console, h.byteOpen, congrArg f h.health, h.fallback, h.settings⟩)

theorem EndAlike.raiseIf (h : EndAlike ch s t) (b : Bool) (n : Notice) : EndAlike ch (s.raiseIf b n)
    (t.raiseIf b n) := by
  have link : (t.raiseIf b n).link = (s.raiseIf b n).link := by
    cases b <;> simp [State.raiseIf, State.raise, h.link]
  have latch : (t.raiseIf b n).tripLatch = (s.raiseIf b n).tripLatch := by simpa [State.tripLatch] using h.latch
  exact ⟨by simp [h.log], link, by simp [h.rules], by simp [h.images], by simp [h.tick], by simp [h.monitor], latch,
    by simp [h.exch], by simp [h.console], by simp [h.byteOpen], by simp [h.health], by simp [h.fallback],
    by simp [h.settings]⟩

theorem EndAlike.hand (h : EndAlike ch s t) (x : Option Chan) (b : Body) : EndAlike ch (s.hand x b) (t.hand x b) := by
  have link : (t.hand x b).link = (s.hand x b).link := by
    unfold State.hand
    dsimp only
    rw [h.log, h.tick]
    obtain ⟨l, loss, fill⟩ := s.log.take s.tick x b
    cases loss <;> cases fill <;> simp [State.raiseIf, State.raise, h.link]
  have latch : (t.hand x b).tripLatch = (s.hand x b).tripLatch := by simpa [State.tripLatch] using h.latch
  exact ⟨by simp [State.hand_log, h.log, h.tick], link, by simp [h.rules], by simp [h.images], by simp [h.tick],
    by simp [h.monitor], latch, by simp [h.exch], by simp [h.console], by simp [h.byteOpen], by simp [h.health],
    by simp [h.fallback], by simp [h.settings]⟩

theorem EndAlike.consoleFlush (h : EndAlike ch s t) : EndAlike ch (s.consoleFlush ch) (t.consoleFlush ch) := by
  unfold State.consoleFlush
  rw [h.console]
  split
  · exact h
  · have k := h.hand (some ch) (.console (s.chan ch).console)
    exact k.onChan (Channel.endView_eq.2 ⟨k.exch, rfl, k.byteOpen, k.health, k.fallback, k.settings⟩)

theorem EndAlike.writeWindow (h : EndAlike ch s t) (x : Exchange) : EndAlike ch (s.writeWindow x)
    (t.writeWindow x) := by
  have latch : (t.writeWindow x).tripLatch = (s.writeWindow x).tripLatch := by simpa [State.tripLatch] using h.latch
  exact ⟨by simp [h.log], by simp [h.link], by simp [h.rules], s.writeWindow_images_congr x h.images h.tick,
    by simp [h.tick], by simp [h.monitor], latch, by simp [h.exch], by simp [h.console], by simp [h.byteOpen],
    by simp [h.health], by simp [h.fallback], by simp [h.settings]⟩

theorem EndAlike.releaseRefs (h : EndAlike ch s t) (x : Exchange) : EndAlike ch (s.releaseRefs x) (t.releaseRefs x) :=
  ⟨h.log, h.link, by simp [State.releaseRefs, h.rules], h.images, h.tick, h.monitor, h.latch, by simp [h.exch],
    by simp [h.console], by simp [h.byteOpen], by simp [h.health], by simp [h.fallback], by simp [h.settings]⟩

theorem EndAlike.clearDegraded (h : EndAlike ch s t) : EndAlike ch (s.clearDegraded ch) (t.clearDegraded ch) := by
  unfold State.clearDegraded State.event
  dsimp only
  have k1 := h.onHealth fun h => { h with degraded := false, cleanRun := 0 }
  have quiet : (t.onHealth ch fun h => { h with degraded := false, cleanRun := 0 }).quietDegraded ch
      = (s.onHealth ch fun h => { h with degraded := false, cleanRun := 0 }).quietDegraded ch := by
    simp [State.quietDegraded, k1.latch, k1.health]
  rw [quiet]
  have k2 := ((k1.hand (some ch) (.event (.degraded false))).raiseIf
    (!(s.onHealth ch fun h => { h with degraded := false, cleanRun := 0 }).quietDegraded ch)
    (healthNotice ch)).onHealth fun h => { h with owed := false }
  rw [k2.settings]
  split
  · exact k2.onChan (Channel.endView_eq.2 ⟨k2.exch, k2.console, k2.byteOpen, k2.health, rfl, k2.settings⟩)
  · exact k2

theorem EndAlike.takeClean (h : EndAlike ch s t) : EndAlike ch (s.takeClean ch) (t.takeClean ch) := by
  unfold State.takeClean
  dsimp only
  rw [h.health, h.monitor]
  (repeat' split)
  · exact h.clearDegraded
  all_goals exact h.onHealth _

/-- An exchange's end comes to the same in states alike. -/
theorem EndAlike.endExchange (h : EndAlike ch s t) (k : EndKind) :
    EndAlike ch (s.endExchange ch k) (t.endExchange ch k) := by
  unfold State.endExchange
  rw [h.exch]
  cases (s.chan ch).exch with
  | none => exact h
  | some x =>
    have bit : (t.chan ch).addressAck x = (s.chan ch).addressAck x := by simp [Channel.addressAck, h.byteOpen]
    dsimp only
    rw [bit, h.tick]
    have record : EndAlike ch
        (if x.recordIt then (s.consoleFlush ch).hand (some ch)
            (.exchange (x.body ((s.chan ch).addressAck x) k s.tick))
          else s.consoleFlush ch)
        (if x.recordIt then (t.consoleFlush ch).hand (some ch)
            (.exchange (x.body ((s.chan ch).addressAck x) k s.tick))
          else t.consoleFlush ch) := by
      split
      · exact h.consoleFlush.hand _ _
      · exact h.consoleFlush
    have window := record.writeWindow x
    have last : ∀ {u v : State}, EndAlike ch u v → EndAlike ch
        (((u.tally ch fun r => r.ended x ((s.chan ch).addressAck x)).releaseRefs x).onChan ch Channel.clearExchange)
        (((v.tally ch fun r => r.ended x ((s.chan ch).addressAck x)).releaseRefs x).onChan ch
            Channel.clearExchange) :=
      fun h => by
        have k := (h.onHealth fun h =>
            { h with running := h.running.ended x ((s.chan ch).addressAck x) }).releaseRefs x
        exact k.onChan (Channel.endView_eq.2 ⟨rfl, k.console, k.byteOpen, k.health, k.fallback, k.settings⟩)
    split
    · exact last window.takeClean
    · exact last window

/-! ### What an exchange's end leaves alone -/

/-- Nothing changed but the channels, the rule table, the images, the capture log and the notice word. -/
def OnlyEnded (s t : State) : Prop := t = { s with
  ch0 := t.ch0, ch1 := t.ch1, rules := t.rules, images := t.images, log := t.log
  link := { s.link with notices := t.link.notices } }

theorem OnlyEnded.refl (s : State) : OnlyEnded s s := rfl

theorem OnlyEnded.trans (h : OnlyEnded s t) (k : OnlyEnded t u) : OnlyEnded s u := by
  unfold OnlyEnded at *
  rw [k, h]

theorem OnlyEnded.onChan (s : State) (ch : Chan) (f : Channel → Channel) : OnlyEnded s (s.onChan ch f) := by
  cases ch <;> rfl

theorem OnlyEnded.retimeAll (s : State) : OnlyEnded s s.retimeAll := rfl

theorem OnlyEnded.raiseIf (s : State) (b : Bool) (n : Notice) : OnlyEnded s (s.raiseIf b n) := by cases b <;> rfl

theorem OnlyEnded.hand (s : State) (x : Option Chan) (b : Body) : OnlyEnded s (s.hand x b) := by
  unfold State.hand
  have log : OnlyEnded s { s with log := (s.log.take s.tick x b).log } := rfl
  exact log.trans ((OnlyEnded.raiseIf _ _ _).trans (.raiseIf _ _ _))

theorem OnlyEnded.consoleFlush (s : State) (ch : Chan) : OnlyEnded s (s.consoleFlush ch) := by
  unfold State.consoleFlush
  split
  · exact .refl s
  · exact (OnlyEnded.hand s _ _).trans (.onChan _ _ _)

theorem OnlyEnded.writeWindow (s : State) (x : Exchange) : OnlyEnded s (s.writeWindow x) := by
  unfold State.writeWindow
  (repeat' split) <;> rfl

theorem OnlyEnded.takeClean (s : State) (ch : Chan) : OnlyEnded s (s.takeClean ch) := by
  unfold State.takeClean State.clearDegraded State.event State.onHealth
  dsimp only
  (repeat' split)
  case isTrue.isTrue.isTrue =>
    exact (OnlyEnded.onChan s _ _).trans ((OnlyEnded.hand _ _ _).trans
      ((OnlyEnded.raiseIf _ _ _).trans ((OnlyEnded.onChan _ _ _).trans (.onChan _ _ _))))
  case isTrue.isTrue.isFalse =>
    exact (OnlyEnded.onChan s _ _).trans ((OnlyEnded.hand _ _ _).trans
      ((OnlyEnded.raiseIf _ _ _).trans (.onChan _ _ _)))
  all_goals exact .onChan s _ _

theorem OnlyEnded.endExchange (s : State) (ch : Chan) (k : EndKind) : OnlyEnded s (s.endExchange ch k) := by
  unfold State.endExchange
  split
  · exact .refl s
  · rename_i x _
    dsimp only
    have told : OnlyEnded s (if x.recordIt then (s.consoleFlush ch).hand (some ch)
        (.exchange (x.body ((s.chan ch).addressAck x) k s.tick)) else s.consoleFlush ch) := by
      split
      · exact (OnlyEnded.consoleFlush s ch).trans (.hand _ _ _)
      · exact .consoleFlush s ch
    have refs : ∀ u : State, OnlyEnded u (((u.tally ch fun t => t.ended x ((s.chan ch).addressAck x)).releaseRefs
        x).onChan ch Channel.clearExchange) := fun u => by
      have released : ∀ v : State, OnlyEnded v (v.releaseRefs x) := fun v => rfl
      exact ((OnlyEnded.onChan u ch _).trans (released _)).trans (.onChan _ _ _)
    have clean : ∀ u : State, OnlyEnded u (if k ≠ .aborted ∧ x.misframe = false then u.takeClean ch else u) :=
        fun u => by
      split
      · exact .takeClean u ch
      · exact .refl u
    exact ((told.trans (.writeWindow _ x)).trans (clean _)).trans (refs _)

theorem MisframeTaken.onlyEnded {b : Bool} (h : MisframeTaken ch b s u) : OnlyEnded s u := by
  obtain ⟨blocks, _, told, _⟩ := h
  have link : u.link = { s.link with notices := u.link.notices } := by
    split at told
    · rw [told.2]
      split
      · exact (s.hand_stay _ _).rest
      · exact ((s.hand_stay _ _).trans (State.raise_stay _ _)).rest
    · rw [told.2]
  have rules : u.rules = s.rules := (congrArg State.rules blocks :)
  have images : u.images = s.images := (congrArg State.images blocks :)
  unfold OnlyEnded
  rw [← link, rules, images]
  exact blocks

end Sys2Proof.Machine
end

section
/-! Conditions on the C-side (R3, R13, R14, R31 to R33): O48. -/

namespace Sys2Proof.Machine

variable (s : State) (ch : Chan)

/-! ### The cases of a condition -/

/-- The lines at a condition, which ends the clock-high of a sampled bit (log entries 7 and 8). -/
def Channel.condShown (k : Cond) (c : Channel) : Channel := { c.condLines k with highPhase := false }

theorem Channel.condShown_lineChange (k : Cond) : LineChange (Channel.condShown k) :=
  ⟨fun c x f h => by cases k <;> rfl, fun c => by cases k <;> rfl⟩

/-- The misframe of a condition does not depend on the lines as it shows them. -/
theorem State.condMisframe_shown (k : Cond) (inExch : Bool) (bits : Nat) :
    (s.onChan ch (Channel.condShown k)).condMisframe ch inExch bits
      = (s.condMisframe ch inExch bits).onChan ch (Channel.condShown k) := by
  have inByte : ((s.chan ch).condShown k).inByte bits = (s.chan ch).inByte bits := by cases k <;> rfl
  unfold State.condMisframe
  rw [State.chan_onChan_same, inByte]
  split
  · split
    · exact s.misframe_onChan ch (Channel.condShown_lineChange k)
    · exact s.takeMisframe_onChan ch (Channel.condShown_lineChange k)
  · rfl

theorem State.condMisframe_taken (inExch : Bool) (bits : Nat) :
    ((s.chan ch).byteOpen = true ∨ bits ≠ 0 → MisframeTaken ch inExch s (s.condMisframe ch inExch bits))
      ∧ (¬ ((s.chan ch).byteOpen = true ∨ bits ≠ 0) → s.condMisframe ch inExch bits = s) := by
  have inByte : (s.chan ch).inByte bits = true ↔ (s.chan ch).byteOpen = true ∨ bits ≠ 0 := by simp [Channel.inByte]
  unfold State.condMisframe
  rw [← inByte]
  refine ⟨fun h => ?_, fun h => if_neg h⟩
  rw [if_pos h]
  cases inExch
  · exact s.takeMisframe_taken ch
  · exact s.misframe_taken ch

/-- The instruction of a condition. -/
def condInstr (ch : Chan) (k : Cond) (bits : Nat) : Instr :=
  match k with
  | .start => .cStart ch bits
  | .stop => .cStop ch bits

theorem State.exec_cond (k : Cond) (bits : Nat) :
    exec (condInstr ch k bits) s = .next (s.cCondition ch k bits).retimeAll := by
  cases k <;> rfl

/-- A condition where the levels alone count (log entry 35). -/
theorem State.cCondition_levels (k : Cond) (bits : Nat) (h : s.inReset = true ∨ (s.chan ch).mode = .isolated) :
    s.cCondition ch k bits = s.onChan ch fun c => c.condLines k := if_pos h

section
variable {s ch} (hr : s.inReset = false) (hm : (s.chan ch).mode ≠ .isolated)
include hr hm

/-- A condition that cannot arrive: the part holds the clock low (R31). -/
theorem State.cCondition_held (k : Cond) (bits : Nat) (h : (s.chan ch).clockHeld = true) :
    s.cCondition ch k bits = s := by
  unfold State.cCondition
  dsimp only
  rw [if_neg (by simp [hr, hm]), if_pos h]

variable (hl : (s.chan ch).clockHeld = false)
include hl

/-- A condition with sync UNKNOWN (R7). -/
theorem State.cCondition_unsynced (k : Cond) (bits : Nat) (h : (s.chan ch).sync ≠ .synced) :
    s.cCondition ch k bits = s.onChan ch fun c => (c.condShown k).plainCond k := by
  unfold State.cCondition
  dsimp only
  rw [if_neg (by simp [hr, hm]), if_neg (by simp [hl]), if_pos (by simp [Channel.framing, h])]
  simp only [State.onChan_onChan]
  rfl

variable (hs : (s.chan ch).sync = .synced)
include hs

/-- A condition while STUCK_C is declared (R149). -/
theorem State.cCondition_stuck (k : Cond) (bits : Nat) (h : (s.chan ch).health.stuckC = true) :
    s.cCondition ch k bits
      = (s.condMisframe ch false bits).onChan ch fun c => (c.condShown k).plainCond k := by
  unfold State.cCondition
  dsimp only
  rw [if_neg (by simp [hr, hm]), if_neg (by simp [hl]), if_neg (by simp [Channel.framing, hs]),
    if_pos (by simp [Channel.begins, h]), State.onChan_onChan]
  rw [show (s.onChan ch fun c => { c.condLines k with highPhase := false }) = s.onChan ch
      (Channel.condShown k) from rfl,
    State.condMisframe_shown, State.onChan_onChan]

variable (hc : (s.chan ch).health.stuckC = false)
include hc

/-- A condition kept to the end of a D-side bit (R31). -/
theorem State.cCondition_kept (k : Cond) (bits : Nat) (h : (s.chan ch).mustKeep bits = true) :
    s.cCondition ch k bits
      = (s.condMisframe ch false bits).onChan ch fun c => (c.condShown k).keepCond k bits s.tick := by
  unfold State.cCondition
  dsimp only
  rw [if_neg (by simp [hr, hm]), if_neg (by simp [hl]), if_neg (by simp [Channel.framing, hs]),
    if_neg (by simp [Channel.begins, Channel.framing, hs, hc]), if_pos h, State.onChan_onChan]
  rw [show (s.onChan ch fun c => { c.condLines k with highPhase := false }) = s.onChan ch
      (Channel.condShown k) from rfl,
    State.condMisframe_shown, State.onChan_onChan]

/-- A condition acted on at once (R14, R32, R33). -/
theorem State.cCondition_taken (k : Cond) (bits : Nat) (h : (s.chan ch).mustKeep bits = false) :
    s.cCondition ch k bits = ((s.condMisframe ch true bits).onChan ch (Channel.condShown k)).takeCond ch
      ((s.chan ch).inByte bits) s.tick k := by
  unfold State.cCondition
  dsimp only
  rw [if_neg (by simp [hr, hm]), if_neg (by simp [hl]), if_neg (by simp [Channel.framing, hs]),
    if_neg (by simp [Channel.begins, Channel.framing, hs, hc]), if_neg (by simp [h]), State.onChan_onChan]
  rw [show (s.onChan ch fun c => { c.condLines k with highPhase := false }) = s.onChan ch
      (Channel.condShown k) from rfl,
    State.condMisframe_shown]

end

/-! ### The channel after a condition -/

/-- The lines at a condition, as the statement of log entry 7 lists them. -/
def Channel.condLevels (k : Cond) (c : Channel) : Lines :=
  { c := ⟨decide (k = .start), false⟩, d := if c.mode = .monitor then ⟨false, false⟩ else c.ext.d }

theorem Channel.condLines_eq (k : Cond) (c : Channel) :
    c.condLines k = { c with ext := c.condLevels k, dataTold := false, meters := (c.condLines k).meters } := by
  cases k <;> simp [Channel.condLines, Channel.trafficC, Channel.condLevels, Channel.shownLines]

theorem Channel.condShown_eq (k : Cond) (c : Channel) : c.condShown k = { c with
    ext := c.condLevels k, dataTold := false, highPhase := false, meters := (c.condShown k).meters } := by
  rw [Channel.condShown, c.condLines_eq k]

/-- A condition where no exchange begins or ends (R3, R7, R149), on a channel `d` with the conditions of `c`. -/
def Channel.plainAfter (k : Cond) (c d : Channel) (m : Meters) : Channel :=
  match k with
  | .start => { d with
      ext := c.condLevels k, dataTold := false, highPhase := false, cFree := false, freePoint := false
      byteOpen := false, noted := false, meters := m }
  | .stop => { d with
      ext := c.condLevels k, dataTold := false, highPhase := false, highData := false
      pull := { c.pull with c := ⟨false, false⟩ }
      phase := .free, byteOpen := false, noted := false
      dOp := c.dOp.disown, cFree := true
      freePoint := if c.cFree then c.freePoint else true, sync := if c.cFree then c.sync else .synced, meters := m }

/-- What a misframe leaves of a channel that a condition looks at. -/
structure CondAlike (c d : Channel) : Prop where
  mode : d.mode = c.mode
  ext : d.ext = c.ext
  pull : d.pull = c.pull
  dOp : d.dOp = c.dOp
  cFree : d.cFree = c.cFree
  freePoint : d.freePoint = c.freePoint
  sync : d.sync = c.sync
  byteOpen : d.byteOpen = c.byteOpen
  deferred : d.deferred = c.deferred

theorem MisframeTaken.condAlike {s u : State} {b : Bool} (h : MisframeTaken ch b s u) :
    CondAlike (s.chan ch) (u.chan ch) := by
  rw [h.2.2.2]
  exact ⟨rfl, rfl, rfl, rfl, rfl, rfl, rfl, rfl, rfl⟩

theorem State.condMisframe_alike (b : Bool) (bits : Nat) :
    CondAlike (s.chan ch) ((s.condMisframe ch b bits).chan ch) := by
  obtain ⟨h1, h2⟩ := s.condMisframe_taken ch b bits
  by_cases h : (s.chan ch).byteOpen = true ∨ bits ≠ 0
  · exact (h1 h).condAlike
  · rw [h2 h]
    exact ⟨rfl, rfl, rfl, rfl, rfl, rfl, rfl, rfl, rfl⟩

theorem CondAlike.levels {c d : Channel} (h : CondAlike c d) (k : Cond) : d.condLevels k = c.condLevels k := by
  simp [Channel.condLevels, h.mode, h.ext]

theorem CondAlike.plain {c d : Channel} (h : CondAlike c d) (hm : c.mode ≠ .isolated) (k : Cond) (m : Meters) :
    ({ (d.condShown k).plainCond k with meters := m } : Channel) = Channel.plainAfter k c d m := by
  have hd : d.mode ≠ .isolated := h.mode ▸ hm
  cases k with
  | start =>
    simp only [Channel.plainCond, Channel.plainAfter]
    rw [d.condShown_eq, h.levels]
  | stop =>
    simp only [Channel.plainCond, Channel.plainAfter, Channel.endTransaction]
    rw [d.condShown_eq, h.levels, ← h.pull, ← h.dOp, ← h.cFree, ← h.freePoint, ← h.sync]
    split <;> rename_i hf <;> simp_all [Channel.releaseC, Channel.restC, Channel.cFreePoint]

/-- A condition kept to the end of a D-side bit (R31, log entry 38). -/
theorem CondAlike.kept {c d : Channel} (h : CondAlike c d) (k : Cond) (bits : Nat) (time : Tick) (m : Meters) :
    ({ (d.condShown k).keepCond k bits time with meters := m } : Channel) = { d with
      ext := c.condLevels k, dataTold := false, highPhase := false, highData := false
      pull := { c.pull with c := ⟨false, false⟩ }, byteOpen := false
      deferred := c.deferred ++ [.cond k (c.byteOpen || decide (bits ≠ 0)) time], meters := m } := by
  rw [d.condShown_eq, h.levels, ← h.pull, ← h.deferred, ← h.byteOpen]
  rfl

/-! ### A condition acted on (R14, R32, R33) -/

/-- How an exchange ends at a condition. -/
def condKind (k : Cond) (inByte : Bool) : EndKind :=
    if inByte then .aborted else if k = .start then .restart else .stop

/-- What a condition makes of its channel once the exchange has ended. -/
def Channel.afterCond (k : Cond) (inByte : Bool) (time : Tick) (c : Channel) : Channel :=
  let c1 := if inByte then c.closeD true else c
  match k with
  | .start => c1.beginAddress time
  | .stop => c1.stopD.endTransaction

theorem State.takeCond_eq (k : Cond) (inByte : Bool) (time : Tick) :
    s.takeCond ch inByte time k = (s.endExchange ch (condKind k inByte)).onChan ch
        (Channel.afterCond k inByte time) := by
  cases k <;> cases inByte <;> simp only [State.takeCond, State.takeStart, State.takeStop, State.cutFrame, condKind,
    State.onChan_onChan, if_true, if_false, Bool.false_eq_true, reduceCtorEq] <;> rfl

/-- The relay's D-side operation after a condition. -/
def Channel.condOp (k : Cond) (inByte : Bool) (c : Channel) : DOp :=
  match k with
  | .start => if c.relayOpen && inByte then .closing true else c.dOp
  | .stop => if c.relayOpen then (if inByte then .closing false else .stop false) else c.dOp.disown

/-- A channel after a condition acted on, but for the timing of the relay's D-side operation and its lines. -/
theorem Channel.afterCond_eq (k : Cond) (inByte : Bool) (time : Tick) (c : Channel) (hm : c.mode ≠ .isolated) :
    ∃ span d, c.afterCond k inByte time = { c with
      dOp := c.condOp k inByte, dSpan := span, pull := ⟨⟨false, false⟩, d⟩, highData := false, byteOpen := false
      noted := false
      phase := if k = .stop then .free else if c.mode = .monitor then .observing else .address
      startTick := if k = .stop then c.startTick else time
      cFree := decide (k = .stop)
      freePoint := if k = .stop then (if c.cFree then c.freePoint else true) else false
      sync := if k = .stop then (if c.cFree then c.sync else .synced) else c.sync } := by
  have close : ∀ same, c.closeD same = if c.relayOpen then c.beginD (.closing same) c.inUse.heldStop else c :=
      fun same => rfl
  cases k with
  | start =>
    simp only [Channel.afterCond, Channel.beginAddress, Channel.condOp]
    cases inByte
    · exact ⟨_, _, by simp [Channel.releaseC, Channel.restC]; exact ⟨rfl, rfl⟩⟩
    · rw [if_pos rfl, close]
      by_cases ho : c.relayOpen = true
      · exact ⟨_, _, by simp [ho, Channel.releaseC, Channel.restC, Channel.beginD]; exact ⟨rfl, rfl⟩⟩
      · exact ⟨_, _, by simp [ho, Channel.releaseC, Channel.restC]; exact ⟨rfl, rfl⟩⟩
  | stop =>
    have last : ∀ c1 : Channel, c1.mode = c.mode → c1.cFree = c.cFree → c1.endTransaction = { c1 with
        dOp := c1.dOp.disown, pull := ⟨⟨false, false⟩, c1.pull.d⟩, highData := false
        byteOpen := false, noted := false, phase := .free, cFree := true, freePoint := if c.cFree then c1.freePoint else true
        sync := if c.cFree then c1.sync else .synced } := fun c1 h1 h2 => by
      unfold Channel.endTransaction
      dsimp only
      split <;> rename_i hf <;> simp_all [Channel.releaseC, Channel.restC, Channel.cFreePoint]
    simp only [Channel.afterCond, Channel.condOp]
    by_cases ho : c.relayOpen = true
    · cases inByte
      · rw [if_neg Bool.false_ne_true, Channel.stopD, if_pos ho, last]
        · exact ⟨_, _, by simp [ho, Channel.beginStop, Channel.beginD, DOp.disown]; exact ⟨rfl, rfl⟩⟩
        all_goals rfl
      · have hc : (c.closeD true).relayOpen = false := by
          rw [close, if_pos ho]
          simp [Channel.beginD, Channel.relayOpen]
        rw [if_pos rfl, Channel.stopD, if_neg (by simp [hc]), close, if_pos ho, last]
        · exact ⟨_, _, by simp [ho, Channel.beginD, DOp.disown]; exact ⟨rfl, rfl⟩⟩
        all_goals rfl
    · have hc : c.closeD true = c := by rw [close, if_neg ho]
      rw [hc, ite_self, Channel.stopD, if_neg ho, last _ rfl rfl]
      exact ⟨c.dSpan, c.pull.d, by simp [ho]⟩

/-- What a condition acted on looks at, of the channel and the exchange a misframe left. -/
theorem State.condMisframe_chan (b : Bool) (bits : Nat) :
    ∃ x f h, (s.condMisframe ch b bits).chan ch = { s.chan ch with exch := x, fallback := f, health := h }
      ∧ x.isNone = (s.chan ch).exch.isNone := by
  obtain ⟨taken, none⟩ := s.condMisframe_taken ch b bits
  by_cases h : (s.chan ch).byteOpen = true ∨ bits ≠ 0
  · obtain ⟨-, -, -, chan⟩ := taken h
    exact ⟨_, _, _, chan, by cases b <;> simp⟩
  · rw [none h]
    exact ⟨_, _, _, rfl, rfl⟩

/-- The exchange ended at a condition, and the lines as the condition shows them. -/
theorem State.condEnded_chan {u : State} {x : Option Exchange} {f : Bool} {h : Health} {c : Channel} (k : Cond)
    (e : EndKind) (hu : u.chan ch = { c with exch := x, fallback := f, health := h })
        (hx : x.isNone = c.exch.isNone) :
    ∃ m g w tk a h' f' con, ((u.onChan ch (Channel.condShown k)).endExchange ch e).chan ch = { c with
      ext := c.condLevels k, dataTold := false, highPhase := false, meters := m, exch := none, giving := g
      grantWait := w, grantLimitTaken := tk, nextAct := a
      arb := { c.arb with relayWaits := c.arb.relayWaits && c.exch.isNone }
      health := h', fallback := f', console := con } := by
  obtain ⟨-, chan⟩ := State.endExchange_chans (u.onChan ch (Channel.condShown k)) ch e
  rw [State.chan_onChan_same, hu, Channel.condShown_eq] at chan
  rw [chan, ← hx]
  cases x
  · exact ⟨_, _, _, _, _, _, _, _, by simp; exact ⟨rfl, rfl, rfl, rfl, rfl, rfl, rfl, rfl, rfl⟩⟩
  · exact ⟨_, _, _, _, _, _, _, _, by
      simp only [reduceCtorEq, if_false, Channel.clearExchange, Option.isNone_some, Bool.and_false]; rfl⟩

/-- A channel `d` after a condition acted on, from the channel `c` before it. -/
structure CondTaken (k : Cond) (inByte : Bool) (time : Tick) (c d : Channel) : Prop where
  exch : d.exch = none
  byteOpen : d.byteOpen = false
  pull : d.pull.c = ⟨false, false⟩
  ext : d.ext = c.condLevels k
  told : d.dataTold = false
  high : d.highPhase = false
  sync : d.sync = if k = .stop then (if c.cFree then c.sync else .synced) else c.sync
  deferred : d.deferred = c.deferred
  settings : d.settings = c.settings
  mode : d.mode = c.mode
  park : d.park = c.park
  hold : d.hold = c.hold
  latched : d.latched = c.latched
  arb : d.arb = { c.arb with relayWaits := c.arb.relayWaits && c.exch.isNone }
  phase : d.phase = if k = .stop then .free else if c.mode = .monitor then .observing else .address
  start : d.startTick = if k = .stop then c.startTick else time
  cFree : d.cFree = decide (k = .stop)
  point : d.freePoint = if k = .stop then (if c.cFree then c.freePoint else true) else false
  dOp : d.dOp = c.condOp k inByte

theorem CondTaken.same {k : Cond} {b : Bool} {time : Tick} {c d e : Channel} (h : CondTaken k b time c d)
    (hs : SameChannel d e) : CondTaken k b time c e := by
  rw [hs]
  obtain ⟨h1, h2, h3, h4, h5, h6, h7, h8, h9, h10, h11, h12, h13, h14, h15, h16, h17, h18, h19⟩ := h
  exact ⟨h1, h2, h3, h4, h5, h6, h7, h8, h9, h10, h11, h12, h13, h14, h15, h16, h17, h18, h19⟩

theorem Channel.condOp_congr {c d : Channel} (k : Cond) (b : Bool) (ho : d.dOp = c.dOp)
    (hh : d.arb.holder = c.arb.holder) : d.condOp k b = c.condOp k b := by
  have h : d.relayOpen = c.relayOpen := by simp [Channel.relayOpen, ho, hh]
  cases k <;> simp [Channel.condOp, h, ho]

theorem State.cCondition_taken_chan {s : State} {ch : Chan} (k : Cond) (bits : Nat) (time : Tick)
    (hm : (s.chan ch).mode ≠ .isolated) (b : Bool) :
    CondTaken k b time (s.chan ch)
      ((((s.condMisframe ch true bits).onChan ch (Channel.condShown k)).takeCond ch b time k).chan ch) := by
  obtain ⟨x, f, h, chan, hx⟩ := s.condMisframe_chan ch true bits
  obtain ⟨m, g, w, tk, a, h', f', con, ended⟩ := State.condEnded_chan ch k (condKind k b) chan hx
  rw [State.takeCond_eq, State.chan_onChan_same, ended]
  obtain ⟨span, d, after⟩ := Channel.afterCond_eq k b time _ (show ({ s.chan ch with
      ext := (s.chan ch).condLevels k, dataTold := false, highPhase := false, meters := m, exch := none, giving := g
      grantWait := w, grantLimitTaken := tk, nextAct := a
      arb := { (s.chan ch).arb with relayWaits := (s.chan ch).arb.relayWaits && (s.chan ch).exch.isNone }
      health := h', fallback := f', console := con } : Channel).mode ≠ .isolated from hm)
  rw [after]
  exact ⟨rfl, rfl, rfl, rfl, rfl, rfl, rfl, rfl, rfl, rfl, rfl, rfl, rfl, rfl, rfl, rfl, rfl, rfl,
    Channel.condOp_congr k b rfl rfl⟩

theorem Channel.afterCond_keeps (k : Cond) (b : Bool) (time : Tick) (c : Channel) :
    (c.afterCond k b time).health = c.health ∧ (c.afterCond k b time).fallback = c.fallback
      ∧ (c.afterCond k b time).console = c.console := by
  have close : ∀ d : Channel, (d.closeD true).health = d.health ∧ (d.closeD true).fallback = d.fallback
      ∧ (d.closeD true).console = d.console := fun d => by
    rw [d.closeD_eq]
    exact ⟨rfl, rfl, rfl⟩
  have last : ∀ d : Channel, d.endTransaction.health = d.health ∧ d.endTransaction.fallback = d.fallback
      ∧ d.endTransaction.console = d.console := fun d => by
    unfold Channel.endTransaction
    dsimp only
    split <;> exact ⟨rfl, rfl, rfl⟩
  have stop : ∀ d : Channel, d.stopD.endTransaction.health = d.health ∧ d.stopD.endTransaction.fallback = d.fallback
      ∧ d.stopD.endTransaction.console = d.console := fun d => by
    unfold Channel.stopD
    split
    · exact last _
    · exact last d
  obtain ⟨h1, h2, h3⟩ := close c
  unfold Channel.afterCond
  cases b <;> cases k
  case false.start => exact ⟨rfl, rfl, rfl⟩
  case false.stop => exact stop c
  case true.start => exact close c
  case true.stop =>
    obtain ⟨k1, k2, k3⟩ := stop (c.closeD true)
    exact ⟨k1.trans h1, k2.trans h2, k3.trans h3⟩

/-- What an exchange's end hands on is that of the state with the misframe taken (R34). -/
theorem State.takeCond_endsAs (u : State) (ch : Chan) (k : Cond) (b : Bool) (time : Tick) :
    EndsAs ch (u.endExchange ch (condKind k b))
      ((u.onChan ch (Channel.condShown k)).takeCond ch b time k).retimeAll := by
  have shown : EndAlike ch u (u.onChan ch (Channel.condShown k)) := by
    refine (EndAlike.refl u).changed ?_
    rw [Channel.condShown_eq]
    rfl
  rw [State.takeCond_eq]
  exact (shown.endExchange _).endsAs.onChan fun c => c.afterCond_keeps k b time

/-- What the misframe of a condition comes to leaves the other channel and the blocks an exchange's end does not hand
on. -/
theorem State.condMisframe_apart (b : Bool) (bits : Nat) :
    (s.condMisframe ch b bits).chan (other ch) = s.chan (other ch) ∧ OnlyEnded s (s.condMisframe ch b bits) := by
  obtain ⟨taken, none⟩ := s.condMisframe_taken ch b bits
  by_cases h : (s.chan ch).byteOpen = true ∨ bits ≠ 0
  · exact ⟨(taken h).2.1, (taken h).onlyEnded⟩
  · rw [none h]
    exact ⟨rfl, .refl s⟩

theorem State.takeCond_apart (u : State) (ch : Chan) (k : Cond) (b : Bool) (time : Tick) :
    (u.takeCond ch b time k).chan (other ch) = u.chan (other ch) ∧ OnlyEnded u (u.takeCond ch b time k) := by
  rw [State.takeCond_eq, State.chan_onChan_other]
  exact ⟨(State.endExchange_chans u ch _).1, (OnlyEnded.endExchange u ch _).trans (.onChan _ _ _)⟩

/-- A condition under which no exchange begins or ends, with its misframe taken in `u` (R3, R7, R149). -/
theorem CondAlike.plain_retimed {s u : State} {ch : Chan} (h : CondAlike (s.chan ch) (u.chan ch))
    (hm : (s.chan ch).mode ≠ .isolated) (k : Cond) :
    ((u.onChan ch fun c => (c.condShown k).plainCond k).retimeAll.chan ch) = Channel.plainAfter k
        (s.chan ch) (u.chan ch)
      ((u.onChan ch fun c => (c.condShown k).plainCond k).retimeAll.chan ch).meters :=
  (State.chan_onChan_retimeAll u ch _).trans (h.plain hm k _)

theorem Channel.clockHeld_iff (c : Channel) : c.clockHeld = true ↔ c.pull.c.clock = true ∧ c.highPhase = false := by
  unfold Channel.clockHeld Channel.cPull
  cases c.highPhase <;> simp

theorem Channel.mustKeep_iff (c : Channel) (bits : Nat) : c.mustKeep bits = true
    ↔ c.deferred ≠ [] ∨ (c.dOp = .readAck ∧ ¬ (c.byteOpen = true ∨ bits ≠ 0)) := by
  simp [Channel.mustKeep, Channel.inByte]

/-- The relay's D-side operation after a condition acted on (R14, R33). -/
theorem CondTaken.dOps {k : Cond} {bits : Nat} {time : Tick} {c d : Channel}
    (h : CondTaken k (c.inByte bits) time c d) :
    (c.relayOpen = true → c.byteOpen = true ∨ bits ≠ 0 → d.dOp = .closing (decide (k = .start)))
      ∧ (c.relayOpen = true → ¬ (c.byteOpen = true ∨ bits ≠ 0) → d.dOp = if k = .stop then .stop false else c.dOp)
      ∧ (c.relayOpen = false → d.dOp = if k = .stop then c.dOp.disown else c.dOp) := by
  have inByte : c.inByte bits = true ↔ c.byteOpen = true ∨ bits ≠ 0 := by simp [Channel.inByte]
  rw [← inByte, h.dOp]
  cases k
  · exact ⟨fun ho hb => by simp [Channel.condOp, ho, hb], fun ho hb => by simp [Channel.condOp, hb],
      fun ho => by simp [Channel.condOp, ho]⟩
  · exact ⟨fun ho hb => by simp [Channel.condOp, ho, hb], fun ho hb => by simp [Channel.condOp, ho, hb],
      fun ho => by simp [Channel.condOp, ho]⟩

/-- Settles O48: each part of the statement is one case of `State.cCondition`, with the channel as the lemmas on what
follows a condition give it. -/
theorem conditionsOnTheCSide : Obligations.ConditionsOnTheCSide := by
  intro s ch k bits
  have run : ∀ u, s.cCondition ch k bits = u → exec (condInstr ch k bits) s = .next u.retimeAll := fun u h => by
    rw [s.exec_cond ch k bits, h]
  have only : ∀ (u : State) (f : Channel → Channel), OnlyChannel ch u (u.onChan ch f).retimeAll :=
    fun u f => u.onlyChannel_onChan ch f
  have taken := fun b => s.condMisframe_taken ch b bits
  have alike := fun b => s.condMisframe_alike ch b bits
  have levels : s.inReset = true ∨ (s.chan ch).mode = .isolated → ∃ t : State, exec (condInstr ch k bits) s = .next t
      ∧ OnlyChannel ch s t ∧ t.chan ch = { s.chan ch with
          ext := (s.chan ch).condLevels k, dataTold := false, meters := (t.chan ch).meters } := fun h =>
    ⟨_, run _ (s.cCondition_levels ch k bits h), only s _, by
      rw [State.chan_onChan_retimeAll, (s.chan ch).condLines_eq k]⟩
  have held : s.inReset = false → (s.chan ch).mode ≠ .isolated → (s.chan ch).clockHeld = true →
      ∃ t : State, exec (condInstr ch k bits) s = .next t ∧ Measured s t := fun hr hm hl =>
    ⟨_, run _ (State.cCondition_held hr hm k bits hl), rfl, fun c => s.sameChannel_retimeAll c⟩
  have unsynced : s.inReset = false → (s.chan ch).mode ≠ .isolated → (s.chan ch).clockHeld = false →
      (s.chan ch).sync ≠ .synced → ∃ t : State, exec (condInstr ch k bits) s = .next t ∧ OnlyChannel ch s t
        ∧ t.chan ch = Channel.plainAfter k (s.chan ch) (s.chan ch) (t.chan ch).meters := fun hr hm hl hs => by
    have same : CondAlike (s.chan ch) (s.chan ch) := ⟨rfl, rfl, rfl, rfl, rfl, rfl, rfl, rfl, rfl⟩
    exact ⟨_, run _ (State.cCondition_unsynced hr hm hl k bits hs), only s _, same.plain_retimed hm k⟩
  have stuck : s.inReset = false → (s.chan ch).mode ≠ .isolated → (s.chan ch).clockHeld = false →
      (s.chan ch).sync = .synced → (s.chan ch).health.stuckC = true →
      ∃ t u : State, exec (condInstr ch k bits) s = .next t
        ∧ (((s.chan ch).byteOpen = true ∨ bits ≠ 0 → MisframeTaken ch false s u)
          ∧ (¬ ((s.chan ch).byteOpen = true ∨ bits ≠ 0) → u = s))
        ∧ OnlyChannel ch u t ∧ t.chan ch = Channel.plainAfter k (s.chan ch) (u.chan ch) (t.chan ch).meters :=
    fun hr hm hl hs hc => ⟨_, _, run _ (State.cCondition_stuck hr hm hl hs k bits hc), taken false, only _ _,
      (alike false).plain_retimed hm k⟩
  have kept : s.inReset = false → (s.chan ch).mode ≠ .isolated → (s.chan ch).clockHeld = false →
      (s.chan ch).sync = .synced → (s.chan ch).health.stuckC = false → (s.chan ch).mustKeep bits = true →
      ∃ t u : State, exec (condInstr ch k bits) s = .next t
        ∧ (((s.chan ch).byteOpen = true ∨ bits ≠ 0 → MisframeTaken ch false s u)
          ∧ (¬ ((s.chan ch).byteOpen = true ∨ bits ≠ 0) → u = s))
        ∧ OnlyChannel ch u t ∧ t.chan ch = { u.chan ch with
          ext := (s.chan ch).condLevels k, dataTold := false, highPhase := false, highData := false
          pull := { (s.chan ch).pull with c := ⟨false, false⟩ }, byteOpen := false
          deferred := (s.chan ch).deferred ++ [.cond k ((s.chan ch).byteOpen || decide (bits ≠ 0)) s.tick]
          meters := (t.chan ch).meters } := fun hr hm hl hs hc hk =>
    ⟨_, _, run _ (State.cCondition_kept hr hm hl hs hc k bits hk), taken false, only _ _,
      (State.chan_onChan_retimeAll _ ch _).trans ((alike false).kept k bits s.tick _)⟩
  have act : s.inReset = false → (s.chan ch).mode ≠ .isolated → (s.chan ch).clockHeld = false →
      (s.chan ch).sync = .synced → (s.chan ch).health.stuckC = false → (s.chan ch).mustKeep bits = false →
      ∃ t u : State, exec (condInstr ch k bits) s = .next t
        ∧ (((s.chan ch).byteOpen = true ∨ bits ≠ 0 → MisframeTaken ch true s u)
          ∧ (¬ ((s.chan ch).byteOpen = true ∨ bits ≠ 0) → u = s))
        ∧ EndsAs ch (u.endExchange ch (condKind k ((s.chan ch).inByte bits))) t
        ∧ CondTaken k ((s.chan ch).inByte bits) s.tick (s.chan ch) (t.chan ch)
        ∧ SameChannel (s.chan (other ch)) (t.chan (other ch)) ∧ OnlyEnded s t := fun hr hm hl hs hc hk => by
    refine ⟨_, _, run _ (State.cCondition_taken hr hm hl hs hc k bits hk), taken true,
      State.takeCond_endsAs _ ch k _ _, (State.cCondition_taken_chan k bits s.tick hm _).same
        (State.sameChannel_retimeAll _ ch), ?_, ?_⟩
    · have apart := State.sameChannel_retimeAll
        (((s.condMisframe ch true bits).onChan ch (Channel.condShown k)).takeCond ch
            ((s.chan ch).inByte bits) s.tick k)
        (other ch)
      rw [(State.takeCond_apart _ ch k _ _).1, State.chan_onChan_other,
          (s.condMisframe_apart ch true bits).1] at apart
      exact apart
    · exact (((s.condMisframe_apart ch true bits).2.trans (.onChan _ _ _)).trans
        (State.takeCond_apart _ ch k _ _).2).trans (.retimeAll _)
  have free : ¬ ((s.chan ch).pull.c.clock = true ∧ (s.chan ch).highPhase = false) → (s.chan ch).clockHeld = false :=
    fun h => Bool.not_eq_true _ ▸ fun hl => h ((s.chan ch).clockHeld_iff.1 hl)
  have keep := (s.chan ch).mustKeep_iff bits
  have pass : ¬ ((s.chan ch).deferred ≠ [] ∨ (s.chan ch).dOp = .readAck ∧ ¬ ((s.chan ch).byteOpen = true ∨
      bits ≠ 0)) →
      (s.chan ch).mustKeep bits = false := fun h => Bool.not_eq_true _ ▸ fun hk => h (keep.1 hk)
  cases k <;> refine ⟨levels, fun hr hm hl => held hr hm ((s.chan ch).clockHeld_iff.2 hl),
    fun ⟨hr, hm, hl⟩ hs => unsynced hr hm (free hl) hs, fun ⟨hr, hm, hl⟩ hs hc => stuck hr hm (free hl) hs hc,
    fun ⟨hr, hm, hl⟩ hs hc hk => kept hr hm (free hl) hs hc (keep.2 hk), fun ⟨hr, hm, hl⟩ hs hc hk => ?_⟩
  all_goals
    obtain ⟨t, u, next, misframed, ends, h, apart, frame⟩ := act hr hm (free hl) hs hc (pass hk)
    obtain ⟨closed, stopped, loosed⟩ := h.dOps
    refine ⟨t, u, next, misframed, ends, h.exch, h.byteOpen, h.pull, h.ext, h.told, h.high,
        h.sync.trans ?_, h.deferred,
      h.settings, h.mode, h.park, h.hold, h.latched, h.arb, ?_, ?_, closed, stopped, ?_, apart, frame⟩
  case start.refine_1 => exact hs
  case start.refine_2 => exact fun _ => ⟨h.phase, h.start, h.cFree, h.point⟩
  case start.refine_3 => exact nofun
  case start.refine_4 => exact loosed
  case stop.refine_1 => simp [hs]
  case stop.refine_2 => exact nofun
  case stop.refine_3 => exact fun _ => ⟨h.phase, h.cFree, fun hf => h.point.trans (by simp [hf])⟩
  case stop.refine_4 => exact loosed

end Sys2Proof.Machine
end

section
/-! SUPPORT. What stays as it is on a channel whose grant has been dropped, whatever was kept for the end of a D-side
bit (R31, R40, R41). -/

namespace Sys2Proof.Machine

variable {ch : Chan} {s t u : State} {c d e : Channel}

/-- The grant is dropped: nobody holds the D-side, which has not been seen free. -/
structure Down (c : Channel) : Prop where
  holder : c.arb.holder = .none
  seenFree : c.seenFree = false

/-- The D-side of a channel is as it was. -/
structure DSideKept (c d : Channel) : Prop where
  holder : d.arb.holder = c.arb.holder
  seenFree : d.seenFree = c.seenFree
  dFree : d.dFree = c.dFree
  pull : d.pull.d = c.pull.d
  deferred : d.deferred = c.deferred
  stuckD : d.health.stuckD = c.health.stuckD

theorem DSideKept.refl (c : Channel) : DSideKept c c := ⟨rfl, rfl, rfl, rfl, rfl, rfl⟩

theorem DSideKept.trans (h : DSideKept c d) (k : DSideKept d e) : DSideKept c e :=
  ⟨k.1.trans h.1, k.2.trans h.2, k.3.trans h.3, k.4.trans h.4, k.5.trans h.5, k.6.trans h.6⟩

theorem Down.kept (h : Down c) (k : DSideKept c d) : Down d := ⟨k.holder.trans h.holder, k.seenFree.trans h.seenFree⟩

theorem Down.relayOpen (h : Down c) : c.relayOpen = false := by simp [Channel.relayOpen, h.holder]

theorem Down.grantable (h : Down c) : c.grantable = false := by simp [Channel.grantable, h.seenFree]

theorem Routed.dSide (h : Routed c d) : DSideKept c d := by
  rw [h.eq]
  exact ⟨rfl, rfl, rfl, rfl, rfl, rfl⟩

/-- The D-side of channel `ch` is as it was, and no notice has been lost. -/
structure DSideStays (ch : Chan) (s t : State) : Prop where
  chan : DSideKept (s.chan ch) (t.chan ch)
  notices : NoticesStay s t

theorem DSideStays.refl (ch : Chan) (s : State) : DSideStays ch s s := ⟨.refl _, .of_link rfl⟩

theorem DSideStays.trans (h : DSideStays ch s t) (k : DSideStays ch t u) : DSideStays ch s u :=
  ⟨h.chan.trans k.chan, h.notices.trans k.notices⟩

theorem DSideStays.down (h : DSideStays ch s t) (hd : Down (s.chan ch)) : Down (t.chan ch) := hd.kept h.chan

theorem DSideStays.onChan (s : State) {f : Channel → Channel} (h : DSideKept (s.chan ch) (f (s.chan ch))) :
    DSideStays ch s (s.onChan ch f) :=
  ⟨by rw [State.chan_onChan_same]; exact h, .of_link (by simp)⟩

theorem DSideStays.of_chan (h : t.chan ch = s.chan ch) (k : NoticesStay s t) : DSideStays ch s t :=
  ⟨by rw [h]; exact .refl _, k⟩

theorem DSideStays.hand (ch : Chan) (s : State) (x : Option Chan) (b : Body) : DSideStays ch s (s.hand x b) :=
  .of_chan (by simp) (s.hand_stay x b)

theorem DSideStays.occur (ch : Chan) (s : State) (x : Source) (e : Option Nat) : DSideStays ch s (s.occur x e) :=
  ⟨(s.occur_routed x e ch).dSide, s.occur_stay x e⟩

theorem DSideStays.tally (s : State) (f : Stats → Stats) : DSideStays ch s (s.tally ch f) := by
  unfold State.tally State.onHealth
  exact .onChan s ⟨rfl, rfl, rfl, rfl, rfl, rfl⟩

theorem DSideStays.raise (ch : Chan) (s : State) (n : Notice) : DSideStays ch s (s.raise n) :=
  .of_chan (by simp) (s.raise_stay n)

theorem DSideStays.retimeAll (ch : Chan) (s : State) : DSideStays ch s s.retimeAll := by
  refine ⟨?_, .of_link rfl⟩
  rw [s.sameChannel_retimeAll ch]
  exact ⟨rfl, rfl, rfl, rfl, rfl, rfl⟩

/-! ### An exchange that ends -/

theorem DSideStays.takeClean (s : State) : DSideStays ch s (s.takeClean ch) := by
  have health : ∀ (u : State) (f : Health → Health), (∀ h, (f h).stuckD = h.stuckD) →
      DSideStays ch u (u.onHealth ch f) :=
    fun u f hf => .onChan u ⟨rfl, rfl, rfl, rfl, rfl, hf _⟩
  have clear : DSideStays ch s (s.clearDegraded ch) := by
    unfold State.clearDegraded State.event
    dsimp only
    have told := ((health s (fun h => { h with degraded := false, cleanRun := 0 }) fun _ => rfl).trans
      (.hand ch _ (some ch) (.event (.degraded false)))).trans (.of_chan (State.raiseIf_chan _
        (!(s.onHealth ch fun h => { h with degraded := false, cleanRun := 0 }).quietDegraded ch) (healthNotice ch) ch)
        (State.raiseIf_stay _ _ _))
    have settled := told.trans (health _ (fun h => { h with owed := false }) fun _ => rfl)
    split
    · exact settled.trans (.onChan _ ⟨rfl, rfl, rfl, rfl, rfl, rfl⟩)
    · exact settled
  unfold State.takeClean
  dsimp only
  (repeat' split)
  · exact clear
  all_goals exact health s _ fun _ => rfl

/-- An exchange's end, of whatever kind, leaves the D-side alone (R34). -/
theorem DSideStays.endExchange (s : State) (k : EndKind) : DSideStays ch s (s.endExchange ch k) := by
  unfold State.endExchange
  split
  · exact .refl ch s
  · rename_i x _
    dsimp only
    have flush : DSideStays ch s (s.consoleFlush ch) := by
      unfold State.consoleFlush
      split
      · exact .refl ch s
      · exact (DSideStays.hand ch s _ _).trans (.onChan _ ⟨rfl, rfl, rfl, rfl, rfl, rfl⟩)
    have record : ∀ b, DSideStays ch s (if x.recordIt then (s.consoleFlush ch).hand (some ch) b else
        s.consoleFlush ch) :=
      fun b => by
        split
        · exact flush.trans (.hand ch _ _ _)
        · exact flush
    have window : ∀ v : State, DSideStays ch v (v.writeWindow x) := fun v => .of_chan (by simp) (.of_link (by simp))
    have clean : ∀ v : State, DSideStays ch v (if k ≠ .aborted ∧ x.misframe = false then v.takeClean ch else v) :=
        fun v => by
      split
      · exact .takeClean v
      · exact .refl ch v
    have refs : ∀ v : State, DSideStays ch v (v.releaseRefs x) := fun v => .of_chan (by simp) (.of_link rfl)
    exact (((((record _).trans (window _)).trans (clean _)).trans (.tally _ _)).trans (refs _)).trans
      (.onChan _ ⟨rfl, rfl, rfl, rfl, rfl, rfl⟩)

/-! ### What was kept for the end of a D-side bit (R31) -/

theorem Down.closeD_eq (h : Down c) (same : Bool) : c.closeD same = c := by simp [Channel.closeD, h.relayOpen]

theorem Down.stopD_eq (h : Down c) : c.stopD = c := by simp [Channel.stopD, h.relayOpen]

theorem Channel.endTransaction_dSide (c : Channel) : DSideKept c c.endTransaction := by
  unfold Channel.endTransaction
  dsimp only
  split <;> exact ⟨rfl, rfl, rfl, rfl, rfl, rfl⟩

/-- A condition finds no grant to close. -/
theorem DSideStays.takeCond (hd : Down (s.chan ch)) (inByte : Bool) (time : Tick) (k : Cond) :
    DSideStays ch s (s.takeCond ch inByte time k) := by
  have ended := DSideStays.endExchange (ch := ch) s (condKind k inByte)
  rw [State.takeCond_eq]
  refine ended.trans (.onChan _ ?_)
  have down := ended.down hd
  unfold Channel.afterCond
  rw [down.closeD_eq, ite_self]
  cases k
  · exact ⟨rfl, rfl, rfl, rfl, rfl, rfl⟩
  · dsimp only
    rw [down.stopD_eq]
    exact Channel.endTransaction_dSide _

theorem DSideStays.refuseAddress (s : State) (x : Disposition) : DSideStays ch s (s.refuseAddress ch x) :=
  .onChan s ⟨rfl, rfl, rfl, rfl, rfl, rfl⟩

/-- What an address stage carries out asks for no grant that could be given. -/
theorem DSideStays.apply (hd : Down (s.chan ch)) {p : Planned} (hp : p ≠ .resume) :
    DSideStays ch s (s.apply ch p) := by
  have answer : ∀ x i, DSideStays ch s (s.answerLocal ch x i) := fun x i => .onChan s ⟨rfl, rfl, rfl, rfl, rfl, rfl⟩
  cases p with
  | forward =>
    unfold State.apply State.applyForward
    refine .onChan s ?_
    have open_ : ({ s.chan ch with exch := (s.chan ch).exch.map fun x => { x with disposition := some .forwarded } }
      : Channel).relayOpen = false := Down.relayOpen ⟨hd.holder, hd.seenFree⟩
    dsimp only
    rw [if_neg (by simp [open_])]
    unfold Channel.askRelay
    dsimp only
    rw [if_neg (by simp [Channel.grantable, hd.seenFree])]
    exact ⟨rfl, rfl, rfl, rfl, rfl, rfl⟩
  | deny => exact .refuseAddress s _
  | emulate k =>
    simp only [State.apply, State.applyEmulate]
    split
    · exact .refuseAddress s _
    · exact answer _ _
  | console =>
    simp only [State.apply, State.applyConsole]
    (repeat' split)
    · exact .refuseAddress s _
    · exact .refuseAddress s _
    · exact answer _ _
  | resume => exact absurd rfl hp

theorem DSideStays.beginHold (s : State) (origin : HoldOrigin) (planned : Planned) (timeout : HoldTimeout) :
    DSideStays ch s (s.beginHold ch origin planned timeout) := by
  unfold State.beginHold
  split
  · exact .refl ch s
  · dsimp only
    exact ((((DSideStays.onChan s ⟨rfl, rfl, rfl, rfl, rfl, rfl⟩).trans (.hand ch _ _ _)).trans (.raise ch _ _)).trans
      (.occur ch _ _ _)).trans (.tally _ _)

theorem DSideStays.takeNext (hd : Down (s.chan ch)) {n : NextAct} (hn : n ≠ .apply .resume) :
    DSideStays ch s (s.takeNext ch n) := by
  cases n with
  | apply p => exact .apply hd fun h => hn (h ▸ rfl)
  | hold origin planned timeout => exact .beginHold s origin planned timeout

theorem DSideStays.decided (hd : Down (s.chan ch)) {n : NextAct} (hn : n ≠ .apply .resume) :
    DSideStays ch s (s.decided ch n) := by
  have closes : (s.chan ch).closesHere = false := by simp [Channel.closesHere, hd.holder]
  unfold State.decided
  rw [hd.relayOpen, closes]
  simp only [Bool.false_eq_true, if_false, ite_self]
  exact .takeNext hd hn

/-- An address stage never resumes a byte. -/
theorem addressNext_ne_resume (a : AddrAction) (w : Option (Nat × Copy)) (b : Bool) :
    addressNext a w b ≠ .apply .resume := by
  unfold addressNext
  split
  · exact nofun
  · cases b
    · cases a <;> exact nofun
    · exact nofun

theorem DSideStays.addressScan (s : State) (x : Exchange) : DSideStays ch s (s.addressScan ch x).1 := by
  unfold State.addressScan State.onExch
  dsimp only
  have rules : ∀ l, DSideStays ch s { s with rules := l } := fun l => .of_chan (by cases ch <;> rfl) (.of_link rfl)
  exact (rules _).trans (.onChan _ ⟨rfl, rfl, rfl, rfl, rfl, rfl⟩)

theorem DSideStays.ruleTrigger (s : State) (w : Option (Nat × Copy)) : DSideStays ch s (s.ruleTrigger w) := by
  unfold State.ruleTrigger
  (repeat' split)
  case isTrue => exact .occur ch s _ _
  all_goals exact .refl ch s

theorem DSideStays.openExchange (s : State) (byte : Byte) :
    DSideStays ch s (s.onChan ch fun c => c.openExchange byte) := by
  refine .onChan s ?_
  unfold Channel.openExchange
  dsimp only
  split <;> exact ⟨rfl, rfl, rfl, rfl, rfl, rfl⟩

theorem DSideStays.addressStage (hd : Down (s.chan ch)) (x : Exchange) : DSideStays ch s (s.addressStage ch x) := by
  unfold State.addressStage
  dsimp only
  have scanned : DSideStays ch s
      ((((s.addressScan ch x).1.onChan ch fun c => { c with park := false })).ruleTrigger (s.addressScan ch x).2) :=
    ((DSideStays.addressScan s x).trans (.onChan _ ⟨rfl, rfl, rfl, rfl, rfl, rfl⟩)).trans (.ruleTrigger _ _)
  exact scanned.trans (.decided (scanned.down hd) (addressNext_ne_resume _ _ _))

theorem DSideStays.lookAddress (s : State) (byte : Byte) : DSideStays ch s (s.lookAddress ch byte) := by
  unfold State.lookAddress
  exact ((DSideStays.openExchange s byte).trans (.addressScan _ _)).trans (.ruleTrigger _ _)

theorem DSideStays.takeAddress (hd : Down (s.chan ch)) (byte : Byte) : DSideStays ch s (s.takeAddress ch byte) := by
  have opened := DSideStays.openExchange (ch := ch) s byte
  unfold State.takeAddress
  dsimp only
  (repeat' split)
  · exact .lookAddress s byte
  · have refused := opened.trans (.refuseAddress _ .busy)
    unfold State.refuseStopping
    refine refused.trans (.onChan _ ?_)
    rw [if_neg (by simp [(refused.down hd).relayOpen])]
    exact .refl _
  · exact opened.trans (.addressStage (opened.down hd) _)

/-- What was kept is acted on with no grant taken and none given (R31). -/
theorem DSideStays.takeKept (l : List Kept) : ∀ {s : State}, Down (s.chan ch) →
    DSideStays ch s (s.takeKept ch l) := by
  induction l with
  | nil => exact fun _ => .refl ch _
  | cons k rest ih =>
    intro s hd
    cases k with
    | cond k inByte time =>
      have first := DSideStays.takeCond hd inByte time k
      exact first.trans (ih (first.down hd))
    | address byte =>
      have first : DSideStays ch s (if rest = [] then s.takeAddress ch byte else s.passAddress ch byte) := by
        unfold State.passAddress
        (repeat' split)
        · exact .takeAddress hd byte
        · exact .openExchange s byte
        · exact .lookAddress s byte
      exact first.trans (ih (first.down hd))

theorem State.flushDeferred_dSide (s : State) (ch : Chan) (hd : Down (s.chan ch)) :
    NoticesStay s (s.flushDeferred ch) ∧ Down ((s.flushDeferred ch).chan ch) ∧
        ((s.flushDeferred ch).chan ch).deferred = []
      ∧ ((s.flushDeferred ch).chan ch).dFree = (s.chan ch).dFree
      ∧ ((s.flushDeferred ch).chan ch).pull.d = (s.chan ch).pull.d
      ∧ ((s.flushDeferred ch).chan ch).health.stuckD = (s.chan ch).health.stuckD := by
  have down : Down ((s.onChan ch fun c => { c with deferred := [] }).chan ch) := by
    rw [State.chan_onChan_same]
    exact ⟨hd.holder, hd.seenFree⟩
  have h := DSideStays.takeKept (s.chan ch).deferred down
  have k := h.chan
  rw [State.chan_onChan_same] at k
  exact ⟨(NoticesStay.of_link (State.onChan_link s ch _)).trans h.notices, h.down down, k.deferred, k.dFree,
      k.pull, k.stuckD⟩

end Sys2Proof.Machine
end

section
/-! SUPPORT. A grant of the relay lost: its misframe, the exchange ended with it, and what the address stage had kept
for after the closing (R14, R26, R40 to R42). -/

namespace Sys2Proof.Machine

variable {ch : Chan} {s t u w : State} {b : Bool}

theorem State.onChan_self {f : Channel → Channel} (h : f (s.chan ch) = s.chan ch) : s.onChan ch f = s := by
  unfold State.onChan
  rw [h]
  cases ch <;> rfl

/-! ### The misframe of a lost grant (R13, log entry 46) -/

theorem State.relayMisframe_seen (s : State) (ch : Chan) (b : Bool) : MisframeSeen ch b s (s.relayMisframe ch b) := by
  unfold State.relayMisframe MisframeSeen
  cases (s.chan ch).sync
  · rfl
  · cases b
    · exact s.takeMisframe_taken ch
    · exact s.misframe_taken ch

/-- What a misframe leaves of its channel. -/
theorem MisframeSeen.leaves (h : MisframeSeen ch b s u) :
    ∃ x f g, u.chan ch = { s.chan ch with exch := x, fallback := f, health := g }
      ∧ x.isNone = (s.chan ch).exch.isNone ∧ (b = false → x = (s.chan ch).exch)
      ∧ g.stuckD = (s.chan ch).health.stuckD
      ∧ g.running.dStretchTimeouts = (s.chan ch).health.running.dStretchTimeouts := by
  unfold MisframeSeen at h
  split at h
  · obtain ⟨-, -, -, chan⟩ := h
    exact ⟨_, _, _, chan, by cases b <;> simp, by rintro rfl; rfl, rfl, rfl⟩
  · rw [h]
    exact ⟨_, _, _, rfl, rfl, fun _ => rfl, rfl, rfl⟩

theorem MisframeSeen.apart (h : MisframeSeen ch b s u) :
    u.chan (other ch) = s.chan (other ch) ∧ OnlyEnded s u ∧ NoticesStay s u := by
  unfold MisframeSeen at h
  split at h
  · refine ⟨h.2.1, h.onlyEnded, ?_⟩
    obtain ⟨-, -, told, -⟩ := h
    split at told
    · have hand := s.hand_stay (some ch) (.event (.degraded true))
      split at told
      · exact hand.trans (.of_link told.2)
      · exact (hand.trans (State.raise_stay _ _)).trans (.of_link told.2)
    · exact .of_link told.2
  · rw [h]
    exact ⟨rfl, .refl s, .of_link rfl⟩

theorem MisframeSeen.stays (h : MisframeSeen ch b s u) : DSideStays ch s u := by
  obtain ⟨x, f, g, chan, -, -, stuck, -⟩ := h.leaves
  refine ⟨?_, h.apart.2.2⟩
  rw [chan]
  exact ⟨rfl, rfl, rfl, rfl, rfl, stuck⟩

/-! ### The exchange a lost grant ends -/

/-- What a lost grant comes to: its misframe in `u`, and the end of the exchange it belongs to where `b`. -/
structure RelayFell (ch : Chan) (b : Bool) (w u t : State) : Prop where
  misframe : MisframeSeen ch b w u
  ends : EndsAs ch (if b then u.endExchange ch .aborted else u) t
  stays : DSideStays ch w t
  gone : b = true → (w.chan ch).exch.isSome = true →
    (t.chan ch).exch = none ∧ (t.chan ch).phase = .refused ∧ (t.chan ch).pull.c = ⟨false, false⟩
  kept : (b = false ∨ (w.chan ch).exch = none) → (w.chan ch).phase ≠ .grantWait →
    (t.chan ch).exch = (w.chan ch).exch ∧ (t.chan ch).phase = (w.chan ch).phase
      ∧ (t.chan ch).pull.c = (w.chan ch).pull.c
  apart : SameChannel (w.chan (other ch)) (t.chan (other ch))
  frame : OnlyEnded w t
  stretches : (t.chan ch).health.running.dStretchTimeouts = (w.chan ch).health.running.dStretchTimeouts

/-- A wait for the grant that a loss refuses changes nothing that the end of an exchange hands on (R23). -/
theorem RelayFell.grantLost (h : RelayFell ch b w u t) : RelayFell ch b w u (t.grantLost ch) := by
  unfold State.grantLost
  dsimp only
  split
  · rename_i hw
    obtain ⟨h1, h2, h3, h4, h5, h6, h7⟩ := h.ends
    have apart := h.apart
    rw [← State.chan_onChan_other t ch] at apart
    have health : ((t.refuseAddress ch .busy).chan ch).health = (t.chan ch).health := by
      rw [State.refuseAddress, State.chan_onChan_same]
      rfl
    refine ⟨h.misframe, ⟨?_, ?_, ?_, ?_, ?_, ?_, ?_⟩, h.stays.trans (.refuseAddress t _), fun hb hx => ?_,
        fun hb hp => ?_,
      apart, h.frame.trans (.onChan t ch _), ?_⟩
    · simpa using h1
    · simpa using h2
    · simpa using h3
    · simpa using h4
    · rw [health, h5]
    · rw [State.refuseAddress, State.chan_onChan_same]; exact h6
    · rw [State.refuseAddress, State.chan_onChan_same]; exact h7
    · exact absurd ((h.gone hb hx).2.1.symm.trans hw.1) nofun
    · exact absurd ((h.kept hb hp).2.1.symm.trans hw.1) hp
    · rw [health, h.stretches]
  · exact h

theorem RelayFell.retimeAll (h : RelayFell ch b w u t) : RelayFell ch b w u t.retimeAll := by
  have same := t.sameChannel_retimeAll ch
  have apart : SameChannel (w.chan (other ch)) (t.retimeAll.chan (other ch)) := by
    have k := t.sameChannel_retimeAll (other ch)
    have a := h.apart
    unfold SameChannel at a k ⊢
    rw [k, a]
  obtain ⟨h1, h2, h3, h4, h5, h6, h7⟩ := h.ends
  refine ⟨h.misframe, ⟨h1, h2, h3, h4, ?_, ?_, ?_⟩, h.stays.trans (.retimeAll ch t), fun hb hx => ?_, fun hb hp => ?_,
    apart, h.frame.trans (.retimeAll t), ?_⟩
  · rw [same]; exact h5
  · rw [same]; exact h6
  · rw [same]; exact h7
  · rw [same]; exact h.gone hb hx
  · rw [same]; exact h.kept hb hp
  · rw [same]; exact h.stretches

/-- A misframe that ends no exchange. -/
theorem MisframeSeen.fell (h : MisframeSeen ch false w u) : RelayFell ch false w u u := by
  obtain ⟨x, f, g, chan, -, exch, -, stretches⟩ := h.leaves
  obtain ⟨apart, frame, -⟩ := h.apart
  refine ⟨h, ⟨rfl, rfl, rfl, rfl, rfl, rfl, rfl⟩, h.stays, nofun, fun _ _ => ?_, ?_, frame, ?_⟩
  · rw [chan]; exact ⟨exch rfl, rfl, rfl⟩
  · rw [apart]; exact rfl
  · rw [chan]; exact stretches

theorem State.endExchange_stretches (s : State) (ch : Chan) : ((s.endExchange ch .aborted).chan
    ch).health.running.dStretchTimeouts
    = (s.chan ch).health.running.dStretchTimeouts := by
  rw [State.endExchange_chan_aborted]
  unfold Channel.exchangeAborted
  cases (s.chan ch).exch <;> rfl

/-- A misframe and the exchange in flight that it ends. -/
theorem MisframeSeen.failed (h : MisframeSeen ch true w u) : RelayFell ch true w u (u.failExchange ch) := by
  obtain ⟨x, f, g, chan, same, -, -, stretches⟩ := h.leaves
  obtain ⟨apart, frame, -⟩ := h.apart
  have exch : (u.chan ch).exch = x := by rw [chan]
  have running : (u.chan ch).health.running.dStretchTimeouts = (w.chan ch).health.running.dStretchTimeouts := by
    rw [chan]; exact stretches
  unfold State.failExchange
  cases hx : (u.chan ch).exch with
  | none =>
    have e : u.endExchange ch .aborted = u := by simp [State.endExchange, hx]
    have xnone : x = none := exch.symm.trans hx
    rw [xnone] at same
    have wnone : (w.chan ch).exch = none := by simpa using same.symm
    refine ⟨h, ?_, h.stays, fun _ hs => by simp [wnone] at hs, fun _ _ => ?_, by rw [apart]; exact rfl,
        frame, running⟩
    · rw [e]; exact ⟨rfl, rfl, rfl, rfl, rfl, rfl, rfl⟩
    · rw [chan, xnone, wnone]; exact ⟨rfl, rfl, rfl⟩
  | some y =>
    have wsome : (w.chan ch).exch ≠ none := fun hw => by
      rw [hw, ← exch, hx] at same
      exact absurd same (by simp)
    have last : DSideKept ((u.endExchange ch .aborted).chan ch)
        { ((u.endExchange ch .aborted).chan ch).releaseC with phase := .refused } := ⟨rfl, rfl, rfl, rfl, rfl, rfl⟩
    refine ⟨h, ⟨by simp, by simp, by simp, by simp, ?_, ?_, ?_⟩, (h.stays.trans (.endExchange u _)).trans
        (.onChan _ last),
      fun _ _ => ?_, fun hn _ => ?_, ?_, (frame.trans (.endExchange u ch _)).trans (.onChan _ ch _), ?_⟩
    · rw [State.chan_onChan_same]; rfl
    · rw [State.chan_onChan_same]; rfl
    · rw [State.chan_onChan_same]; rfl
    · rw [State.chan_onChan_same]
      refine ⟨?_, rfl, rfl⟩
      have := (State.endExchange_chans u ch .aborted).2
      rw [hx, if_neg (by simp)] at this
      exact (congrArg Channel.exch this :)
    · exact absurd hn (by simp [wsome])
    · rw [State.chan_onChan_other, (State.endExchange_chans u ch _).1, apart]
      exact rfl
    · rw [State.chan_onChan_same]
      exact (State.endExchange_stretches u ch).trans running

/-- A grant of the relay lost while it made `op`, with nothing kept for the end of a D-side bit (R40 to R42). -/
theorem State.relayLost_fell (w : State) (ch : Chan) (op : DOp) (hd : (w.chan ch).deferred = []) :
    RelayFell ch op.owned w (w.relayMisframe ch op.owned) (w.relayLost ch op) := by
  have seen := w.relayMisframe_seen ch op.owned
  have flush : ∀ t : State, (t.chan ch).deferred = [] → t.flushDeferred ch = t := fun t h => by
    unfold State.flushDeferred
    rw [h]
    exact State.onChan_self (by rw [← h])
  unfold State.relayLost
  dsimp only
  cases ho : op.owned
  · rw [ho] at seen
    simp only [Bool.false_eq_true, if_false]
    rw [flush _ (seen.fell.stays.chan.deferred.trans hd)]
    exact seen.fell
  · rw [ho] at seen
    simp only [if_true]
    rw [flush _ (seen.failed.stays.chan.deferred.trans hd)]
    exact seen.failed

end Sys2Proof.Machine
end

section
/-! SUPPORT. What the address stage kept for after its closing, begun once the D-side is given up (R22, R23, R26,
R92). -/

namespace Sys2Proof.Machine

variable {ch : Chan} {s : State} {x : Exchange}

/-- A disposition other than FORWARD changes its own channel alone: it gives no grant up or away,
    and leaves no wait for
one. -/
theorem State.apply_here {p : Planned} (hp : p ≠ .forward) (hx : (s.chan ch).exch = some x) :
    ∃ f : Channel → Channel, s.apply ch p = s.onChan ch f ∧ (f (s.chan ch)).arb.holder = (s.chan ch).arb.holder
      ∧ (f (s.chan ch)).dFree = (s.chan ch).dFree ∧ (f (s.chan ch)).nextAct = (s.chan ch).nextAct
      ∧ (f (s.chan ch)).phase ≠ .grantWait := by
  have refuse : ∀ d, ∃ f : Channel → Channel, s.refuseAddress ch d = s.onChan ch f
      ∧ (f (s.chan ch)).arb.holder = (s.chan ch).arb.holder ∧ (f (s.chan ch)).dFree = (s.chan ch).dFree
      ∧ (f (s.chan ch)).nextAct = (s.chan ch).nextAct ∧ (f (s.chan ch)).phase ≠ .grantWait :=
    fun d => ⟨_, rfl, rfl, rfl, rfl, nofun⟩
  have answer : ∀ d i, ∃ f : Channel → Channel, s.answerLocal ch d i = s.onChan ch f
      ∧ (f (s.chan ch)).arb.holder = (s.chan ch).arb.holder ∧ (f (s.chan ch)).dFree = (s.chan ch).dFree
      ∧ (f (s.chan ch)).nextAct = (s.chan ch).nextAct ∧ (f (s.chan ch)).phase ≠ .grantWait :=
    fun d i => ⟨_, rfl, rfl, rfl, rfl, nofun⟩
  cases p with
  | forward => exact absurd rfl hp
  | deny => exact refuse _
  | emulate k =>
    unfold State.apply State.applyEmulate
    dsimp only
    split
    · exact refuse _
    · exact answer _ _
  | console =>
    unfold State.apply State.applyConsole
    dsimp only
    (repeat' split)
    · exact refuse _
    · exact refuse _
    · exact answer _ _
  | resume =>
    unfold State.apply State.useByte
    refine ⟨_, rfl, ?_⟩
    rw [hx]
    dsimp only
    split <;> exact ⟨rfl, rfl, rfl, nofun⟩

/-- A disposition other than FORWARD, carried out on a channel whose exchange, settings and image store are those of
`s` (R22, R71, R81). -/
theorem State.apply_carried {p : Planned} (hp : p ≠ .forward) {g : Channel → Channel}
    (hx : (g (s.chan ch)).exch = some x) (hs : (g (s.chan ch)).settings = (s.chan ch).settings) :
    Carried ch false false p x s ((s.onChan ch g).apply ch p).retimeAll := by
  have refuse : ∀ d, RefusedAs d x (((s.onChan ch g).refuseAddress ch d).retimeAll.chan ch) := fun d => by
    rw [State.sameChannel_retimeAll _ ch, State.refuseAddress, State.chan_onChan_same, State.chan_onChan_same]
    exact ⟨rfl, rfl, by simp [hx]⟩
  have answer : ∀ d i, (((s.onChan ch g).answerLocal ch d i).retimeAll.chan ch).phase = .localAnswer
      ∧ (((s.onChan ch g).answerLocal ch d i).retimeAll.chan ch).pull.c = .ack
      ∧ (((s.onChan ch g).answerLocal ch d i).retimeAll.chan ch).exch
        = some { x with disposition := some d, addressAck := some .ack, onImage := i } := fun d i => by
    rw [State.sameChannel_retimeAll _ ch, State.answerLocal, State.chan_onChan_same, State.chan_onChan_same]
    exact ⟨rfl, rfl, by simp [hx]⟩
  cases p with
  | forward => exact absurd rfl hp
  | deny => exact refuse _
  | emulate k =>
    have busy : ((s.onChan ch g).image k).busy = (s.image k).busyUntil.isSome := by simp [State.image, Image.busy]
    unfold Carried State.apply State.applyEmulate
    dsimp only
    rw [busy]
    split
    · exact refuse _
    · exact answer _ _
  | console =>
    have log : ∀ d i, ((s.onChan ch g).refuseAddress ch d).retimeAll.log = s.log
        ∧ ((s.onChan ch g).answerLocal ch d i).retimeAll.log = s.log := fun d i => ⟨by simp, by simp⟩
    have blocks : (s.onChan ch g).consoleBlocks ch = true ↔ (s.chan ch).settings.consoleBlocking = true
        ∧ 8192 - s.log.occupancy < 128 := by
      simp [State.consoleBlocks, hs, Log.space, Config.consoleSpace, Config.logCapacity]
    have reading : ((s.onChan ch g).chan ch).reading = true ↔ x.direction = .read := by simp [Channel.reading, hx]
    unfold Carried State.apply State.applyConsole
    dsimp only
    by_cases hr : x.direction = .read
    · rw [if_pos hr, if_pos (reading.2 hr)]
      exact refuse _
    · rw [if_neg hr, if_neg (fun h => hr (reading.1 h))]
      by_cases hb : (s.onChan ch g).consoleBlocks ch = true
      · rw [if_pos hb, (log .busy none).1, if_pos (blocks.1 hb)]
        exact refuse _
      · rw [if_neg hb, (log .console none).2, if_neg (fun h => hb (blocks.2 h))]
        exact answer _ _
  | resume =>
    unfold Carried State.apply State.useByte
    dsimp only
    rw [State.sameChannel_retimeAll _ ch, State.chan_onChan_same, State.chan_onChan_same, hx]
    dsimp only
    split
    · exact ⟨hx, rfl, rfl⟩
    · exact ⟨hx, rfl, rfl⟩

/-- The hold record of exchange `x` held at its address now (R87, R92). -/
def State.addressHold (s : State) (ch : Chan) (x : Exchange) (origin : HoldOrigin) (planned : Planned)
    (timeout : HoldTimeout) : Hold :=
  { origin := origin, address := x.address, direction := x.direction, byte := 0, planned := planned,
      timeout := timeout
    start := s.tick
    deadline := if (s.chan ch).settings.holdTimeout = 0 then none
      else some (s.tick + BitVec.ofNat 32 ((s.chan ch).settings.holdTimeout * 1000))
    elapsed := 0 }

/-- The state in which the router takes the HOLD_START of an address hold. -/
def State.holdTold (s : State) (ch : Chan) (g : Channel → Channel) (h : Hold) : State :=
  (((s.onChan ch g).onChan ch fun c => { c with hold := some h, phase := .held, highPhase := false }).hand (some ch)
    (.hold h.origin h.address h.direction h.byte)).raise (holdNotice ch)

theorem State.holdTold_chan (g : Channel → Channel) (h : Hold) : (s.holdTold ch g h).chan ch
    = { g (s.chan ch) with hold := some h, phase := .held, highPhase := false } := by
  simp [State.holdTold]

variable {origin : HoldOrigin} {planned : Planned} {timeout : HoldTimeout} {g : Channel → Channel}

theorem State.beginHold_eq (ho : origin.atIndex = false) (hx : (g (s.chan ch)).exch = some x)
    (hs : (g (s.chan ch)).settings = (s.chan ch).settings) : (s.onChan ch g).beginHold ch origin planned timeout
      = ((s.holdTold ch g (s.addressHold ch x origin planned timeout)).occur .holdStart none).tally ch
        fun t => { t with held := bump t.held } := by
  have record : holdOf (g (s.chan ch)) x origin planned timeout s.tick
      = s.addressHold ch x origin planned timeout := by
    simp [holdOf, State.addressHold, ho, hs, ms]
  unfold State.beginHold
  rw [State.chan_onChan_same, hx]
  dsimp only
  rw [State.onChan_tick, record]
  rfl

/-- An occurrence raises the fire counts of the routes it fits (R139). -/
theorem State.occur_routes (s : State) (z : Source) (e : Option Nat) : (s.occur z e).routes
    = s.routes.map fun q => if q.fits z e then { q with fires := min 65535 (q.fires + 1) } else q := by
  have acts : ∀ (l : List Route) (u : State), (l.foldl (fun s r => s.act r.action) u).routes = u.routes := fun l => by
    induction l with
    | nil => exact fun u => rfl
    | cons r l ih => exact fun u => (ih _).trans (u.act_routes _)
  by_cases h : ∀ q ∈ s.routes, q.fits z e = false
  · rw [s.occur_none z e h]
    exact ((List.map_congr_left fun q hq => if_neg (by simp [h q hq])).trans (List.map_id' _)).symm
  · have some_fit : s.routes.filter (fun q => q.fits z e) ≠ [] := fun hn => h fun q hq => by
      simpa using List.filter_eq_nil_iff.1 hn q hq
    unfold State.occur
    dsimp only
    rw [if_neg some_fit, acts]
    simp [fireRoutes, satAdd, max16]

/-- The HOLD_START of an address hold taken, from a state `V` in which its record is told. -/
theorem Held.of_told {V : State} {c : Channel} {h : Hold}
    (chan : V.chan ch = { c with hold := some h, phase := .held, highPhase := false })
    (hx : c.exch = some x) (hp : c.pull.c = ⟨true, false⟩) (hh : c.health = (s.chan ch).health)
    (hold : h = s.addressHold ch x origin planned timeout) (notice : V.link.noticed (holdNotice ch) = true)
    (log : LogAlike V (s.hand (some ch) (.hold origin x.address x.direction 0))) :
    Held ch origin 0 planned timeout x s ((V.occur .holdStart none).tally ch fun t => { t with held := bump t.held })
      ∧ (((V.occur .holdStart none).tally ch fun t => { t with held := bump t.held }).chan ch).nextAct = c.nextAct
      ∧ (((V.occur .holdStart none).tally ch fun t => { t with held := bump t.held }).chan ch).arb = c.arb := by
  have routed := (V.occur_routed .holdStart none ch).eq
  have routes : V.routes = s.routes := log.routes.trans (by simp)
  rw [chan] at routed
  unfold Held
  rw [State.tally, State.onHealth, State.chan_onChan_same, routed]
  refine ⟨⟨rfl, hp, rfl, hx, congrArg some hold, ?_, ?_, ?_, fun quiet => ?_⟩, rfl, rfl⟩
  · rw [State.onChan_link]
    exact (V.occur_stay _ _).keep _ notice
  · rw [State.onChan_log]
    exact (log.occur .holdStart none).log
  · rw [State.onChan_routes, State.occur_routes, routes]
  · rw [← routes] at quiet
    rw [V.occur_none .holdStart none quiet, chan, ← hh]
    simp [bump, satAdd, max32]

theorem Held.retimeAll {y : Byte} {t : State} (h : Held ch origin y planned timeout x s t) :
    Held ch origin y planned timeout x s t.retimeAll := by
  have same := t.sameChannel_retimeAll ch
  unfold Held
  rw [same]
  exact h

/-- A hold of an address begun on a channel whose clock is stretched (R92). -/
theorem State.beginHold_held (ho : origin.atIndex = false) (hx : (g (s.chan ch)).exch = some x)
    (hs : (g (s.chan ch)).settings = (s.chan ch).settings) (hp : (g (s.chan ch)).pull.c = ⟨true, false⟩)
    (hh : (g (s.chan ch)).health = (s.chan ch).health) :
    Held ch origin 0 planned timeout x s ((s.onChan ch g).beginHold ch origin planned timeout)
      ∧ (((s.onChan ch g).beginHold ch origin planned timeout).chan ch).nextAct = (g (s.chan ch)).nextAct
      ∧ (((s.onChan ch g).beginHold ch origin planned timeout).chan ch).arb = (g (s.chan ch)).arb := by
  rw [State.beginHold_eq ho hx hs]
  refine Held.of_told (s.holdTold_chan g _) hx hp hh rfl (State.raise_noticed _ _) ?_
  have k := ((LogAlike.onChan _ ch fun c : Channel =>
      { c with hold := some (s.addressHold ch x origin planned timeout), phase := .held, highPhase := false }).trans
    (LogAlike.onChan s ch g)).hand (some ch) (.hold origin x.address x.direction 0)
  exact ⟨k.log, k.tick, k.routes⟩

end Sys2Proof.Machine
end

section
/-! SUPPORT. The relay's D-side failures (R14, R33, R39 to R42). -/

namespace Sys2Proof.Machine

variable {s t u : State} {ch : Chan}

/-- A channel whose grant has been dropped with no STOP, with health `h`. -/
def Channel.fallen (h : Health) (c : Channel) : Channel := { c with
  pull := { c.pull with d := ⟨false, false⟩ }, dOp := .idle, dSpan := 0, arb := { c.arb with holder := .none }
  seenFree := false, dFree := false, health := h }

/-- The state with the relay's grant of channel `ch` dropped and the loss counted (R41). -/
def State.lossy (s : State) (ch : Chan) : State :=
  s.setChan ch ((s.chan ch).fallen { (s.chan ch).health with
    running := { (s.chan ch).health.running with
      arbLosses := min 4294967295 ((s.chan ch).health.running.arbLosses + 1) } })

theorem State.lossy_eq : (s.onChan ch Channel.dropGrant).tally ch (fun t => { t with arbLosses := bump t.arbLosses })
    = s.lossy ch := by
  cases ch <;> rfl

theorem State.lossy_chan : (s.lossy ch).chan ch = (s.chan ch).fallen ((s.lossy ch).chan ch).health
    ∧ (s.lossy ch).chan (other ch) = s.chan (other ch) := by
  cases ch <;> exact ⟨rfl, rfl⟩

theorem State.lossy_frame : OnlyEnded s (s.lossy ch) := by
  cases ch <;> rfl

/-- The D-side of channel `c` has been dropped, with the lines released (R40, R41). -/
structure Dropped (c : Channel) : Prop where
  holder : c.arb.holder = .none
  seenFree : c.seenFree = false
  dFree : c.dFree = false
  pull : c.pull.d = ⟨false, false⟩

theorem Dropped.down {c : Channel} (h : Dropped c) : Down c := ⟨h.holder, h.seenFree⟩

theorem Dropped.kept {c d : Channel} (h : Dropped c) (k : DSideKept c d) : Dropped d :=
  ⟨k.holder.trans h.holder, k.seenFree.trans h.seenFree, k.dFree.trans h.dFree, k.pull.trans h.pull⟩

theorem Channel.fallen_dropped (h : Health) (c : Channel) : Dropped (c.fallen h) := ⟨rfl, rfl, rfl, rfl⟩

theorem State.lossy_dropped (s : State) (ch : Chan) : Dropped ((s.lossy ch).chan ch) := by
  rw [State.lossy_chan.1]
  exact Channel.fallen_dropped _ _

/-- The blocks a D-side failure of the relay leaves alone. -/
structure Elsewhere (ch : Chan) (s t : State) : Prop where
  engine : t.engine = s.engine
  supply : t.supply = s.supply
  tick : t.tick = s.tick
  apart : SameChannel (s.chan (other ch)) (t.chan (other ch))

theorem OnlyEnded.elsewhere (h : OnlyEnded s t) (k : SameChannel (s.chan (other ch)) (t.chan (other ch))) :
    Elsewhere ch s t :=
  ⟨(congrArg State.engine h :), (congrArg State.supply h :), (congrArg State.tick h :), k⟩

/-- A loss of the relay is one from the state with the grant dropped. -/
theorem RelayFell.elsewhere {b : Bool} (h : RelayFell ch b (s.lossy ch) u t) : Elsewhere ch s t := by
  have apart := h.apart
  rw [State.lossy_chan.2] at apart
  exact (State.lossy_frame.trans h.frame).elsewhere apart

theorem RelayFell.dropped {b : Bool} {w : State} (h : RelayFell ch b w u t) (k : Dropped (w.chan ch)) :
    Dropped (t.chan ch) := k.kept h.stays.chan

/-! ### The closing STOP (R33, R39) -/

theorem Channel.relayCloses_iff (c : Channel) : c.relayCloses = true
    ↔ c.arb.holder = .relay ∧ ∃ same, c.dOp = .stop same ∨ c.dOp = .closing same := by
  unfold Channel.relayCloses Channel.relayOpen
  cases c.dOp <;> simp

theorem State.exec_dStopComplete (hr : s.inReset = false) (hc : (s.chan ch).relayCloses = true) :
    exec (.dStopComplete ch) s = .next ((s.onChan ch Channel.stopMade).resumeNext ch).retimeAll := by
  show execDStopComplete ch s = _
  rw [execDStopComplete, if_pos ⟨hr, hc⟩]

/-- What was kept for after the closing, taken from a state changed in the channel alone. -/
theorem State.resumeNext_some {g : Channel → Channel} {n : NextAct} (hn : (g (s.chan ch)).nextAct = some n) :
    (s.onChan ch g).resumeNext ch = (s.onChan ch fun c => { g c with nextAct := none }).takeNext ch n := by
  unfold State.resumeNext
  rw [State.chan_onChan_same, hn]
  dsimp only
  rw [State.onChan_onChan]

theorem State.resumeNext_none (hn : (s.chan ch).nextAct = none) : s.resumeNext ch = s := by
  unfold State.resumeNext
  rw [hn]

section
variable (hr : s.inReset = false) (hc : (s.chan ch).relayCloses = true)
include hr hc

theorem State.stopComplete_plain (hn : (s.chan ch).nextAct = none) :
    ∃ t : State, exec (.dStopComplete ch) s = .next t ∧ OnlyChannel ch s t
      ∧ t.chan ch = { (s.chan ch).stopMade with meters := (t.chan ch).meters } := by
  refine ⟨_, State.exec_dStopComplete hr hc, ?_⟩
  rw [State.resumeNext_none (by rw [State.chan_onChan_same]; exact hn)]
  exact ⟨s.onlyChannel_onChan ch _, s.chan_onChan_retimeAll ch _⟩

theorem State.stopComplete_apply {x : Exchange} {p : Planned} (hx : (s.chan ch).exch = some x)
    (hn : (s.chan ch).nextAct = some (.apply p)) (hp : p ≠ .forward) :
    ∃ t : State, exec (.dStopComplete ch) s = .next t ∧ Carried ch false false p x s t
      ∧ (t.chan ch).arb.holder = .none ∧ (t.chan ch).dFree = true ∧ (t.chan ch).nextAct = none := by
  refine ⟨_, State.exec_dStopComplete hr hc, ?_⟩
  rw [State.resumeNext_some (n := .apply p) hn, State.takeNext]
  refine ⟨State.apply_carried hp hx rfl, ?_⟩
  obtain ⟨f, e, holder, dFree, next, -⟩ :=
      State.apply_here (s := s.onChan ch fun c => { c.stopMade with nextAct := none })
    (ch := ch) hp (by rw [State.chan_onChan_same]; exact hx)
  rw [State.chan_onChan_same] at holder dFree next
  rw [State.sameChannel_retimeAll _ ch, e, State.chan_onChan_same, State.chan_onChan_same]
  exact ⟨holder, dFree, next⟩

theorem State.stopComplete_hold {x : Exchange} {origin : HoldOrigin} {planned : Planned} {timeout : HoldTimeout}
    (hx : (s.chan ch).exch = some x) (hn : (s.chan ch).nextAct = some (.hold origin planned timeout))
    (ho : origin.atIndex = false) (hp : (s.chan ch).pull.c = ⟨true, false⟩) :
    ∃ t : State, exec (.dStopComplete ch) s = .next t ∧ Held ch origin 0 planned timeout x s t
      ∧ (t.chan ch).arb.holder = .none ∧ (t.chan ch).nextAct = none := by
  refine ⟨_, State.exec_dStopComplete hr hc, ?_⟩
  rw [State.resumeNext_some (n := .hold origin planned timeout) hn, State.takeNext]
  obtain ⟨held, next, arb⟩ := State.beginHold_held (s := s) (ch := ch) (planned := planned) (timeout := timeout)
    (g := fun c => { c.stopMade with nextAct := none }) ho hx rfl hp rfl
  refine ⟨held.retimeAll, ?_⟩
  rw [State.sameChannel_retimeAll _ ch]
  exact ⟨congrArg Arbiter.holder arb, next⟩

end

theorem State.stopFailed (hr : s.inReset = false) (hh : (s.chan ch).arb.holder ≠ .none) :
    ∃ t : State, exec (.dStopFailed ch) s = .next t ∧ OnlyChannel ch s t
      ∧ t.chan ch = { s.chan ch with dOp := (s.chan ch).dOp.failStop, meters := (t.chan ch).meters } := by
  refine ⟨_, ?_, s.onlyChannel_onChan ch fun c => { c with dOp := c.dOp.failStop }, s.chan_onChan_retimeAll ch _⟩
  show execDStopFailed ch s = _
  rw [execDStopFailed, if_pos ⟨hr, hh⟩]

/-! ### The closing pulses that fail (R14) -/

theorem State.grantLost_refused {x : Exchange} (hp : (s.chan ch).phase = .grantWait)
    (hl : (s.chan ch).grantLimitTaken = true) (hf : (s.chan ch).seenFree = false) (hx : (s.chan ch).exch = some x) :
    RefusedAs .busy x ((s.grantLost ch).chan ch) := by
  unfold State.grantLost
  dsimp only
  rw [if_pos ⟨hp, hl, hf⟩, State.refuseAddress, State.chan_onChan_same]
  exact ⟨rfl, rfl, by simp [hx]⟩

theorem State.grantLost_idle (hp : (s.chan ch).phase ≠ .grantWait) : s.grantLost ch = s := by
  unfold State.grantLost
  dsimp only
  rw [if_neg fun h => hp h.1]

theorem RefusedAs.retimeAll {d : Disposition} {x : Exchange} (h : RefusedAs d x (t.chan ch)) :
    RefusedAs d x (t.retimeAll.chan ch) := by
  rw [t.sameChannel_retimeAll ch]
  exact h

section
variable {same : Bool} (hr : s.inReset = false) (hh : (s.chan ch).arb.holder = .relay) (ho : (s.chan ch).dOp =
    .closing same)
include hr hh ho

theorem State.exec_closePulsesFailed : exec (.closePulsesFailed ch) s
    = .next ((((s.lossy ch).relayMisframe ch false).resumeNext ch).grantLost ch).retimeAll := by
  show execClosePulsesFailed ch s = _
  have drives : s.driving ch = true ∧ (s.chan ch).dOp.isClosing = true := by
      simp [State.driving, hr, hh, ho, DOp.isClosing]
  rw [execClosePulsesFailed, if_pos drives, State.closeFailed]
  rw [if_pos hh, State.lossy_eq]

theorem State.closePulses_plain (hn : (s.chan ch).nextAct = none) : ∃ t u : State,
    exec (.closePulsesFailed ch) s = .next t ∧ RelayFell ch false (s.lossy ch) u t
      ∧ (∀ x, (s.chan ch).phase = .grantWait → (s.chan ch).grantLimitTaken = true → (s.chan ch).exch = some x →
        RefusedAs .busy x (t.chan ch)) := by
  have seen := (s.lossy ch).relayMisframe_seen ch false
  obtain ⟨x, f, g, chan, -, exch, -, -⟩ := seen.leaves
  rw [State.lossy_chan.1] at chan exch
  refine ⟨_, (s.lossy ch).relayMisframe ch false, State.exec_closePulsesFailed hr hh ho, ?_⟩
  rw [State.resumeNext_none (by rw [chan]; exact hn)]
  refine ⟨seen.fell.grantLost.retimeAll, fun y hp hl hx => RefusedAs.retimeAll (State.grantLost_refused ?_ ?_ ?_ ?_)⟩
  · rw [chan]; exact hp
  · rw [chan]; exact hl
  · rw [chan]; rfl
  · rw [chan]; exact (exch rfl).trans hx

theorem State.closePulses_apply {x : Exchange} {p : Planned} (hx : (s.chan ch).exch = some x)
    (hn : (s.chan ch).nextAct = some (.apply p)) (hp : p ≠ .forward) : ∃ t u : State,
    exec (.closePulsesFailed ch) s = .next t ∧ MisframeSeen ch false (s.lossy ch) u ∧ Carried ch false false p x u t
      ∧ (t.chan ch).nextAct = none ∧ t.log = u.log ∧ Elsewhere ch s t := by
  have seen := (s.lossy ch).relayMisframe_seen ch false
  obtain ⟨y, f, g, chan, -, exch, -, -⟩ := seen.leaves
  obtain ⟨apart, frame, -⟩ := seen.apart
  rw [State.lossy_chan.1] at chan exch
  rw [State.lossy_chan.2] at apart
  refine ⟨_, (s.lossy ch).relayMisframe ch false, State.exec_closePulsesFailed hr hh ho, seen, ?_⟩
  generalize (s.lossy ch).relayMisframe ch false = u at *
  have hux : (u.chan ch).exch = some x := by rw [chan]; exact (exch rfl).trans hx
  have next := State.resumeNext_some (s := u) (ch := ch) (g := id) (n := .apply p) (by rw [id, chan]; exact hn)
  rw [State.onChan_self (f := id) rfl] at next
  rw [next, State.takeNext]
  obtain ⟨f', e, -, -, cleared, phase⟩ := State.apply_here (s := u.onChan ch fun c => { id c with nextAct := none })
    (ch := ch) hp (by rw [State.chan_onChan_same]; exact hux)
  have carried := State.apply_carried (s := u) (ch := ch) (g := fun c => { id c with nextAct := none }) hp hux rfl
  rw [State.chan_onChan_same] at cleared phase
  rw [e] at carried ⊢
  rw [State.grantLost_idle (by rw [State.chan_onChan_same, State.chan_onChan_same]; exact phase)]
  refine ⟨carried, ?_, by simp, ?_⟩
  · rw [State.sameChannel_retimeAll _ ch, State.chan_onChan_same, State.chan_onChan_same]
    exact cleared
  · refine OnlyEnded.elsewhere (((State.lossy_frame.trans frame).trans ((OnlyEnded.onChan u ch _).trans
      (.onChan _ ch _))).trans (.retimeAll _)) ?_
    have k := State.sameChannel_retimeAll ((u.onChan ch fun c => { id c with nextAct := none }).onChan ch f')
        (other ch)
    rw [State.chan_onChan_other, State.chan_onChan_other, apart] at k
    exact k

theorem State.closePulses_hold {x : Exchange} {origin : HoldOrigin} {planned : Planned} {timeout : HoldTimeout}
    (hx : (s.chan ch).exch = some x) (hn : (s.chan ch).nextAct = some (.hold origin planned timeout))
    (hi : origin.atIndex = false) (hp : (s.chan ch).pull.c = ⟨true, false⟩) : ∃ t u : State,
    exec (.closePulsesFailed ch) s = .next t ∧ MisframeSeen ch false (s.lossy ch) u
      ∧ Held ch origin 0 planned timeout x u t ∧ (t.chan ch).arb.holder = .none ∧ (t.chan ch).nextAct = none := by
  have seen := (s.lossy ch).relayMisframe_seen ch false
  obtain ⟨y, f, g, chan, -, exch, -, -⟩ := seen.leaves
  rw [State.lossy_chan.1] at chan exch
  refine ⟨_, (s.lossy ch).relayMisframe ch false, State.exec_closePulsesFailed hr hh ho, seen, ?_⟩
  generalize (s.lossy ch).relayMisframe ch false = u at *
  have hux : (u.chan ch).exch = some x := by rw [chan]; exact (exch rfl).trans hx
  have next := State.resumeNext_some (s := u) (ch := ch) (g := id) (n := .hold origin planned timeout)
    (by rw [id, chan]; exact hn)
  rw [State.onChan_self (f := id) rfl] at next
  rw [next, State.takeNext]
  obtain ⟨held, cleared, arb⟩ := State.beginHold_held (s := u) (ch := ch) (planned := planned) (timeout := timeout)
    (g := fun c => { id c with nextAct := none }) hi hux rfl (by rw [chan]; exact hp) rfl
  rw [State.grantLost_idle (by rw [held.1]; exact nofun)]
  refine ⟨held.retimeAll, ?_⟩
  rw [State.sameChannel_retimeAll _ ch]
  refine ⟨(congrArg Arbiter.holder arb).trans ?_, cleared⟩
  rw [chan]
  rfl

end

/-! ### A lost arbitration of the relay (R41) -/

section
variable (hr : s.inReset = false) (hh : (s.chan ch).arb.holder = .relay) (ho : (s.chan ch).dOp ≠ .idle)
include hr hh ho

theorem State.exec_arbitrationLoss_relay : exec (.arbitrationLoss ch) s
    = .next (((s.lossy ch).relayLost ch (s.chan ch).dOp).grantLost ch).retimeAll := by
  show execArbitrationLoss ch s = _
  have drives : s.driving ch = true := by simp [State.driving, hr, hh, ho]
  rw [execArbitrationLoss, if_pos drives, State.loseD]
  rw [if_pos hh, State.lossy_eq]

theorem State.relayLoss_fell (hd : (s.chan ch).deferred = []) : ∃ t u : State, exec (.arbitrationLoss ch) s = .next t
    ∧ RelayFell ch (s.chan ch).dOp.owned (s.lossy ch) u t :=
  ⟨_, _, State.exec_arbitrationLoss_relay hr hh ho, ((s.lossy ch).relayLost_fell ch (s.chan ch).dOp (by
    rw [State.lossy_chan.1]; exact hd)).grantLost.retimeAll⟩

end

/-- A relay's loss leaves the D-side down, whatever was kept (R31, R40 to R42). -/
theorem State.relayLost_down {w : State} (op : DOp) (hw : Dropped (w.chan ch)) :
    NoticesStay w (w.relayLost ch op) ∧ Dropped ((w.relayLost ch op).chan ch)
      ∧ ((w.relayLost ch op).chan ch).deferred = [] ∧ (w.relayLost ch op).engine = w.engine
      ∧ (w.relayLost ch op).tick = w.tick
      ∧ ((w.relayLost ch op).chan ch).health.stuckD = (w.chan ch).health.stuckD := by
  have seen := w.relayMisframe_seen ch op.owned
  have fail : ∀ u : State, DSideStays ch u (u.failExchange ch) ∧ (u.failExchange ch).engine = u.engine
      ∧ (u.failExchange ch).tick = u.tick := fun u => by
    unfold State.failExchange
    split
    · exact ⟨.refl ch u, rfl, rfl⟩
    · exact ⟨(DSideStays.endExchange u _).trans (.onChan _ ⟨rfl, rfl, rfl, rfl, rfl, rfl⟩), by simp, by simp⟩
  have ended : ∃ v, w.relayLost ch op = v.flushDeferred ch ∧ DSideStays ch w v ∧ v.engine = w.engine ∧
      v.tick = w.tick := by
    unfold State.relayLost
    refine ⟨_, rfl, ?_⟩
    obtain ⟨k1, k2, k3⟩ := fail (w.relayMisframe ch op.owned)
    split
    · exact ⟨seen.stays.trans k1, k2.trans (by simp), k3.trans (by simp)⟩
    · exact ⟨seen.stays, by simp, by simp⟩
  obtain ⟨v, e, stays, engine, tick⟩ := ended
  obtain ⟨h1, h2, h3, h4, h5, h6⟩ := v.flushDeferred_dSide ch (stays.down hw.down)
  have k := hw.kept stays.chan
  rw [e]
  refine ⟨stays.notices.trans h1, ⟨h2.holder, h2.seenFree, h4.trans k.dFree, h5.trans k.pull⟩, h3, ?_, ?_,
    h6.trans stays.chan.stuckD⟩
  · simp [State.flushDeferred, engine]
  · simp [State.flushDeferred, tick]

theorem DSideStays.grantLost (s : State) : DSideStays ch s (s.grantLost ch) := by
  unfold State.grantLost
  dsimp only
  split
  · exact .refuseAddress s _
  · exact .refl ch s

theorem State.relayLoss_down (hr : s.inReset = false) (hh : (s.chan ch).arb.holder = .relay)
    (ho : (s.chan ch).dOp ≠ .idle) :
    ∃ t : State, exec (.arbitrationLoss ch) s = .next t ∧ Dropped (t.chan ch) ∧ (t.chan ch).deferred = []
      ∧ t.engine = s.engine ∧ t.tick = s.tick := by
  obtain ⟨-, dropped, deferred, engine, tick, -⟩ := State.relayLost_down (s.chan ch).dOp (s.lossy_dropped ch)
  have last := (DSideStays.grantLost (ch := ch) ((s.lossy ch).relayLost ch (s.chan ch).dOp)).trans (.retimeAll ch _)
  refine ⟨_, State.exec_arbitrationLoss_relay hr hh ho, dropped.kept last.chan,
      last.chan.deferred.trans deferred, ?_, ?_⟩
  · rw [State.retimeAll_engine, State.grantLost_engine, engine]
    exact (congrArg State.engine State.lossy_frame :)
  · rw [State.retimeAll_tick, State.grantLost_tick, tick]
    exact (congrArg State.tick State.lossy_frame :)

end Sys2Proof.Machine
end

section
/-! SUPPORT. The engine's unit lost with its grant (R41, R166 to R173). -/

namespace Sys2Proof.Machine

variable {s t u : State} {j : Job}

/-! ### A job that ends -/

theorem State.act_claim (s : State) (a : Option RouteAction) : (s.act a).supply.claims.job = s.supply.claims.job := by
  unfold State.act State.setPark
  (repeat' split) <;> simp [State.snapshotNow, State.raise, State.setCompare, Supply.startPulse]

theorem State.occur_claim (s : State) (x : Source) (e : Option Nat) :
    (s.occur x e).supply.claims.job = s.supply.claims.job := by
  have acts : ∀ (l : List Route) (u : State),
      (l.foldl (fun s r => s.act r.action) u).supply.claims.job = u.supply.claims.job := fun l => by
    induction l with
    | nil => exact fun u => rfl
    | cons r l ih => exact fun u => (ih _).trans (u.act_claim _)
  unfold State.occur
  dsimp only
  split
  · rfl
  · rw [acts]
    simp

theorem State.jobOver_claim (s : State) (j : Job) (r : JobResult) (h : j.holdReset = true) :
    (s.jobOver j r).supply.claims.job = false := by
  unfold State.jobOver State.dropClaim
  dsimp only
  rw [if_pos h]
  simp

theorem State.jobOver_log (s : State) (j : Job) (r : JobResult) : (s.jobOver j r).routes = s.routes
    ∧ (s.jobOver j r).log = (s.hand (some j.chan) (.job r.id r.outcome r.cause r.done r.failing)).log := by
  unfold State.jobOver State.dropClaim
  dsimp only
  split <;> simp [State.hand_log, State.raise]

theorem Channel.dropEngine_eq (c : Channel) : c.dropEngine = { c with
    pull := c.dropEngine.pull, dOp := c.dropEngine.dOp, dSpan := c.dropEngine.dSpan
    arb := { c.arb with
      holder := if c.arb.holder = .engine then .none else c.arb.holder, engineWaits := false } } := by
  unfold Channel.dropEngine
  split <;> rfl

theorem Channel.settleOwed_eq (c : Channel) : c.settleOwed = { c with
    fallback := c.fallback || (c.health.owed && c.health.degraded), health := { c.health with owed := false } } := by
  unfold Channel.settleOwed
  obtain ⟨⟩ := c
  rename_i h
  obtain ⟨⟩ := h
  dsimp only
  split <;> simp_all

/-- A running job ended with `cause` at its unit's address (R173). -/
theorem State.endJob_ended (hj : s.engine.job = some j) (cause : JobCause) :
    JobEnded j (j.result (j.endingCause.getD cause) j.unitAddress) s (s.endJob cause) := by
  have e : s.endJob cause = (s.jobOver j (j.result (j.endingCause.getD cause) j.unitAddress)).occur .jobEnd none := by
    unfold State.endJob
    rw [hj]
    exact s.finishJob_eq hj _ _
  generalize j.result (j.endingCause.getD cause) j.unitAddress = r at *
  have engine := s.jobOver_engine j r
  obtain ⟨chan, -⟩ := s.jobOver_chan j r
  rw [Channel.dropEngine_eq, Channel.settleOwed_eq] at chan
  have routed := ((s.jobOver j r).occur_routed .jobEnd none j.chan).eq
  rw [chan] at routed
  obtain ⟨routes, log⟩ := s.jobOver_log j r
  unfold JobEnded
  rw [e, State.occur_engine, engine, routed]
  refine ⟨rfl, rfl, rfl, rfl, ?_, rfl, (State.occur_stay _ _ _).keep _ (s.jobOver_noticed j r).2, fun h =>
      ?_, rfl, rfl,
    fun quiet => ?_⟩
  · dsimp only
    split
    · exact nofun
    · assumption
  · rw [State.occur_claim, s.jobOver_claim j r h]
  · rw [← routes] at quiet
    rw [State.occur_none _ _ _ quiet, log]

/-- The same end told from a state that differs in the D-side of the job's channel alone. -/
theorem JobEnded.before {r : JobResult} (h : JobEnded j r u t) (fallback : (u.chan j.chan).fallback =
    (s.chan j.chan).fallback)
    (health : (u.chan j.chan).health = (s.chan j.chan).health) (log : LogAlike u s) : JobEnded j r s t := by
  obtain ⟨h1, h2, h3, h4, h5, h6, h7, h8, h9, h10, h11⟩ := h
  rw [fallback, health] at h10
  rw [log.routes, (log.hand _ _).log] at h11
  exact ⟨h1, h2, h3, h4, h5, h6, h7, h8, h9, h10, h11⟩

theorem JobEnded.retimeAll {r : JobResult} (h : JobEnded j r s t) : JobEnded j r s t.retimeAll := by
  unfold JobEnded
  rw [t.sameChannel_retimeAll j.chan]
  exact h

/-! ### A job that goes on -/

/-- A unit asked for where the D-side cannot be granted (R164). -/
theorem State.engineAsk_waits (hj : s.engine.job = some j) (hg : (s.chan j.chan).grantable = false) :
    s.engineAsk = s.onChan j.chan fun c => { c with arb := { c.arb with engineWaits := true } } := by
  unfold State.engineAsk
  rw [hj]
  simp [hg]

theorem JobGoesOn.retimeAll {b : Bool} (h : JobGoesOn j b s t) : JobGoesOn j b s t.retimeAll := by
  obtain ⟨h1, h2, h3, h4, h5, h6, h7⟩ := h
  refine ⟨h1, h2, h3, h4, h5, ?_, ?_⟩
  · have k := t.sameChannel_retimeAll (other j.chan)
    unfold SameChannel at h6 k ⊢
    rw [k, h6]
  · rw [t.sameChannel_retimeAll j.chan]
    exact h7

/-! ### The unit lost -/

/-- The end of a job whose grant has been dropped already leaves the D-side, the exchange and the phase of its
channel. -/
theorem State.endJobOn_leaves {ch : Chan} (hd : (s.chan ch).arb.holder = .none) (cause : JobCause) :
    ∃ p a f h, (s.endJobOn ch cause).chan ch = { s.chan ch with park := p, arb := a, fallback := f, health := h }
      ∧ a.holder = .none ∧ h.stuckD = (s.chan ch).health.stuckD ∧ h.lastClear = (s.chan ch).health.lastClear := by
  have routed := (s.endJobOn_routed ch cause).1.eq
  have dropped : (s.chan ch).dropEngine
      = { s.chan ch with arb := { (s.chan ch).arb with engineWaits := false } } := by
    simp [Channel.dropEngine, hd]
  rw [routed]
  split
  · rw [dropped, Channel.settleOwed_eq]
    exact ⟨_, _, _, _, rfl, hd, rfl, rfl⟩
  · exact ⟨_, _, _, _, rfl, hd, rfl, rfl⟩

theorem DSideStays.endJobOn {ch : Chan} (hd : (s.chan ch).arb.holder = .none) (cause : JobCause) :
    DSideStays ch s (s.endJobOn ch cause) := by
  obtain ⟨p, a, f, h, chan, holder, stuck, -⟩ := State.endJobOn_leaves hd cause
  refine ⟨?_, s.endJobOn_stay ch cause⟩
  rw [chan]
  exact ⟨holder.trans hd.symm, rfl, rfl, rfl, rfl, stuck⟩

/-- How a lost unit leaves its job (R41, R166 to R169). -/
def UnitLost (j : Job) (s t : State) : Prop :=
  if j.phase = .ending then JobEnded j (j.result (j.endingCause.getD .none) j.unitAddress) s t
  else if j.unit = .probe ∨ j.probeAck.isSome = true then
    if j.pollExpired = true then JobEnded j (j.result .pollTimeout j.unitAddress) s t
    else if j.phase = .poll ∧ j.probeAck = some .ack then JobEnded j (j.result .none j.unitAddress) s t
    else JobGoesOn { j with probeAck := none } false s t
  else if j.attempt < 3 then JobGoesOn { j with attempt := j.attempt + 1 } false s t
  else JobEnded j (j.result .arbLost j.unitAddress) s t

theorem UnitLost.retimeAll (h : UnitLost j s t) : UnitLost j s t.retimeAll := by
  have branch : ∀ {p q p' q' : Prop} (c : Prop) [Decidable c], (p → p') → (q → q') → (if c then p else q) →
      if c then p' else q' := fun c _ hp hq h => by
    by_cases hc : c
    · rw [if_pos hc] at h ⊢; exact hp h
    · rw [if_neg hc] at h ⊢; exact hq h
  unfold UnitLost at h ⊢
  exact branch _ JobEnded.retimeAll (branch _
    (branch _ JobEnded.retimeAll (branch _ JobEnded.retimeAll JobGoesOn.retimeAll))
    (branch _ JobGoesOn.retimeAll JobEnded.retimeAll)) h

/-- The grant of a job's channel dropped, and the job changed by `f`. -/
def State.unitDropped (s : State) (ch : Chan) (f : Job → Job) : State := (s.onChan ch Channel.dropGrant).onJob f

theorem State.unitDropped_chan (f : Job → Job) (ch c : Chan) :
    (s.unitDropped ch f).chan c = (s.onChan ch Channel.dropGrant).chan c := by
  cases c <;> rfl

variable (hj : s.engine.job = some j)
include hj

theorem State.unitDropped_job (f : Job → Job) : (s.unitDropped j.chan f).engine.job = some (f j) := by
  simp [State.unitDropped, State.onJob, hj]

/-- A lost unit whose job ends. -/
theorem State.unitDropped_ends (f : Job → Job) (hf : (f j).chan = j.chan) (cause : JobCause) :
    JobEnded (f j) ((f j).result ((f j).endingCause.getD cause) (f j).unitAddress) s
        ((s.unitDropped j.chan f).endJob cause)
      ∧ Dropped (((s.unitDropped j.chan f).endJob cause).chan j.chan)
      ∧ (((s.unitDropped j.chan f).endJob cause).chan j.chan).phase = (s.chan j.chan).phase := by
  have chan : (s.unitDropped j.chan f).chan j.chan = (s.chan j.chan).dropGrant := by
    rw [State.unitDropped_chan, State.chan_onChan_same]
  have job := State.unitDropped_job hj f
  have ended := State.endJob_ended job cause
  have on : (s.unitDropped j.chan f).endJobOn j.chan cause = (s.unitDropped j.chan f).endJob cause := by
    unfold State.endJobOn State.jobOn
    rw [job]
    simp [hf]
  obtain ⟨p, a, fb, h, leaves, holder, -, -⟩ :=
    State.endJobOn_leaves (s := s.unitDropped j.chan f) (ch := j.chan) (by rw [chan]; rfl) cause
  rw [on, chan] at leaves
  refine ⟨ended.before ?_ ?_ ?_, ?_, ?_⟩
  · rw [hf, chan]; rfl
  · rw [hf, chan]; rfl
  · exact ⟨by simp [State.unitDropped, State.onJob], by simp [State.unitDropped, State.onJob],
      by simp [State.unitDropped, State.onJob]⟩
  · rw [leaves]; exact ⟨holder, rfl, rfl, rfl⟩
  · rw [leaves]; rfl

/-- A lost unit whose job asks for its next one, which waits, as the D-side has not been seen free (R164). -/
theorem State.unitDropped_goesOn (f : Job → Job) (hf : (f j).chan = j.chan) :
    JobGoesOn (f j) false s (s.unitDropped j.chan f).engineAsk
      ∧ Dropped ((s.unitDropped j.chan f).engineAsk.chan j.chan)
      ∧ ((s.unitDropped j.chan f).engineAsk.chan j.chan).phase = (s.chan j.chan).phase := by
  have job := State.unitDropped_job hj f
  have chan : (s.unitDropped j.chan f).chan j.chan = (s.chan j.chan).dropGrant := by
    rw [State.unitDropped_chan, State.chan_onChan_same]
  rw [State.engineAsk_waits job (by rw [hf, chan]; simp [Channel.grantable, Channel.dropGrant]), hf]
  refine ⟨⟨?_, ?_, ?_, ?_, ?_, ?_, ?_⟩, ?_, ?_⟩
  · rw [State.onChan_engine, job]
  · simp [State.unitDropped, State.onJob]
  · simp [State.unitDropped, State.onJob]
  · simp [State.unitDropped, State.onJob]
  · simp [State.unitDropped, State.onJob]
  · rw [hf, State.chan_onChan_other, State.unitDropped_chan, State.chan_onChan_other]
    exact rfl
  · rw [hf, State.chan_onChan_same, chan, if_neg (by simp)]
    exact ⟨rfl, by simp [State.unitDropped, State.onJob]⟩
  · rw [State.chan_onChan_same, chan]
    exact ⟨rfl, rfl, rfl, rfl⟩
  · rw [State.chan_onChan_same, chan]
    rfl

/-- The engine's unit lost with its grant (R41, R166 to R169). -/
theorem State.unitLost_lost (hc : j.phase ≠ .ending → j.endingCause = none) :
    UnitLost j s (s.onChan j.chan Channel.dropGrant).unitLost
      ∧ Dropped ((s.onChan j.chan Channel.dropGrant).unitLost.chan j.chan)
      ∧ ((s.onChan j.chan Channel.dropGrant).unitLost.chan j.chan).phase = (s.chan j.chan).phase := by
  have same : s.onChan j.chan Channel.dropGrant = s.unitDropped j.chan id := by
    unfold State.unitDropped State.onJob
    rw [Option.map_id]
    rfl
  have job : (s.onChan j.chan Channel.dropGrant).engine.job = some j := by simpa using hj
  unfold State.unitLost State.jobEnding UnitLost
  rw [job]
  by_cases he : j.phase = .ending
  · simp only [he, decide_true, if_true]
    rw [same]
    exact State.unitDropped_ends hj id rfl .none
  · have cause := hc he
    simp only [he, decide_false, if_false, Bool.false_eq_true]
    split
    · unfold State.afterProbe
      rw [job]
      dsimp only
      rw [if_neg he]
      split
      · have k := State.unitDropped_ends hj (fun j => { j with probeAck := none }) rfl .pollTimeout
        rw [cause] at k
        exact k
      · split
        · have k := State.unitDropped_ends hj (fun j => { j with probeAck := none }) rfl .none
          rw [cause] at k
          exact k
        · exact State.unitDropped_goesOn hj (fun j => { j with probeAck := none }) rfl
    · unfold State.failAttempt
      rw [job]
      dsimp only
      split
      · exact State.unitDropped_goesOn hj (fun j => { j with attempt := j.attempt + 1 }) rfl
      · have k := State.unitDropped_ends hj id rfl .arbLost
        rw [id, cause] at k
        rw [same]
        exact k

section
variable (hc : j.phase ≠ .ending → j.endingCause = none) (hp : (s.chan j.chan).phase ≠ .grantWait)
include hc hp

/-- The loss of the engine's unit with what follows it in its command. -/
theorem State.unitLost_taken :
    UnitLost j s (((s.onChan j.chan Channel.dropGrant).unitLost).grantLost j.chan).retimeAll
    ∧ Dropped ((((s.onChan j.chan Channel.dropGrant).unitLost).grantLost j.chan).retimeAll.chan j.chan) := by
  obtain ⟨lost, dropped, phase⟩ := State.unitLost_lost hj hc
  rw [State.grantLost_idle (by rw [phase]; exact hp)]
  exact ⟨lost.retimeAll, dropped.kept (DSideStays.retimeAll _ _).chan⟩

variable (hr : s.inReset = false) (hh : (s.chan j.chan).arb.holder = .engine)
include hr hh

theorem State.engineLoss (ho : (s.chan j.chan).dOp ≠ .idle) :
    ∃ t : State, exec (.arbitrationLoss j.chan) s = .next t ∧ Dropped (t.chan j.chan) ∧ UnitLost j s t := by
  obtain ⟨lost, dropped⟩ := State.unitLost_taken hj hc hp
  refine ⟨_, ?_, dropped, lost⟩
  show execArbitrationLoss j.chan s = _
  have drives : s.driving j.chan = true := by simp [State.driving, hr, hh, ho]
  rw [execArbitrationLoss, if_pos drives, State.loseD]
  rw [if_neg (by simp [hh])]

theorem State.engineClosePulses {same : Bool} (ho : (s.chan j.chan).dOp = .closing same) :
    ∃ t : State, exec (.closePulsesFailed j.chan) s = .next t ∧ Dropped (t.chan j.chan) ∧ UnitLost j s t := by
  obtain ⟨lost, dropped⟩ := State.unitLost_taken hj hc hp
  refine ⟨_, ?_, dropped, lost⟩
  show execClosePulsesFailed j.chan s = _
  have drives : s.driving j.chan = true ∧ (s.chan j.chan).dOp.isClosing = true := by
    simp [State.driving, hr, hh, ho, DOp.isClosing]
  rw [execClosePulsesFailed, if_pos drives, State.closeFailed]
  rw [if_neg (by simp [hh])]

end

end Sys2Proof.Machine
end

section
/-! SUPPORT. STUCK_D declared and the D-stretch timeout that declares it (R40, R150, R151). -/

namespace Sys2Proof.Machine

variable {s t u w : State} {ch : Chan} {c : Channel}

/-! ### STUCK_D declared (R150) -/

theorem OnlyChannelsAndLog.of_onlyEnded (h : OnlyEnded s t) (hr : t.rules = s.rules) (hi : t.images = s.images) :
    OnlyChannelsAndLog s t := by
  unfold OnlyEnded at h
  unfold OnlyChannelsAndLog
  rw [hr, hi] at h
  exact h

/-- STUCK_D declared changes of its channel the measurements, the D-side lines and its health, with a bus clear begun
where nobody drives the D-side. -/
theorem State.setStuckD_chan (s : State) (ch : Chan) : ∃ l m b, (s.setStuckD ch).chan ch = { s.chan ch with
      pull := { (s.chan ch).pull with d := l }, meters := m
      health := { (s.chan ch).health with stuckD := true, busClear := b } }
    ∧ ((s.chan ch).pull.d = ⟨false, false⟩ → l = ⟨false, false⟩) := by
  have declared : ∀ b, (((s.onHealth ch fun h => { h with stuckD := true }).event (some ch)
      (.stuckD true)).raiseIf b (healthNotice ch)).chan ch
        = { s.chan ch with health := { (s.chan ch).health with stuckD := true } } := fun b => by
    rw [State.raiseIf_chan, State.event_chan, State.onHealth, State.chan_onChan_same]
  unfold State.setStuckD
  dsimp only
  split
  · exact ⟨_, _, _, (State.chan_onChan_same _ ch _).trans (congrArg Channel.startClear (declared _)), fun _ => rfl⟩
  · exact ⟨_, _, _, declared _, id⟩

theorem State.setStuckD_told (s : State) (ch : Chan) :
    LogAlike (s.setStuckD ch) (s.hand (some ch) (.event (.stuckD true))) ∧ OnlyEnded s (s.setStuckD ch)
      ∧ (s.setStuckD ch).rules = s.rules ∧ (s.setStuckD ch).images = s.images ∧ (s.setStuckD ch).engine
          = s.engine := by
  have log : LogAlike (s.onHealth ch fun h => { h with stuckD := true }) s := LogAlike.onChan s ch _
  have told := log.hand (some ch) (.event (.stuckD true))
  have frame : ∀ b, OnlyEnded s (((s.onHealth ch fun h => { h with stuckD := true }).event (some ch)
      (.stuckD true)).raiseIf b (healthNotice ch)) := fun b =>
    ((OnlyEnded.onChan s ch _).trans (.hand _ _ _)).trans (.raiseIf _ _ _)
  unfold State.setStuckD
  dsimp only
  split
  · exact ⟨⟨by simpa [State.event] using told.log, by simp, by simp⟩, (frame _).trans (.onChan _ ch _), by simp,
      by simp, by simp⟩
  · exact ⟨⟨by simpa [State.event] using told.log, by simp, by simp⟩, frame _, by simp, by simp, by simp⟩

theorem State.setStuckD_noticed (s : State) (ch : Chan) : NoticesStay s (s.setStuckD ch)
    ∧ (s.supply.state ≠ .tripped → (s.setStuckD ch).link.noticed (healthNotice ch) = true) := by
  have latch : (s.onHealth ch fun h => { h with stuckD := true }).tripLatch = decide (s.supply.state = .tripped) := by
    simp [State.tripLatch]
  have told : ∀ b, NoticesStay s (((s.onHealth ch fun h => { h with stuckD := true }).event (some ch)
      (.stuckD true)).raiseIf b (healthNotice ch)) := fun b =>
    ((NoticesStay.of_link (State.onChan_link s ch _)).trans (State.hand_stay _ _ _)).trans (State.raiseIf_stay _ _ _)
  unfold State.setStuckD
  dsimp only
  rw [latch]
  have raised : ∀ v : State, s.supply.state ≠ .tripped →
      (v.raiseIf (!decide (s.supply.state = .tripped)) (healthNotice ch)).link.noticed (healthNotice ch) = true :=
    fun v h => by simpa [State.raiseIf, h] using v.raise_noticed (healthNotice ch)
  split
  · exact ⟨(told _).trans (.of_link (State.onChan_link _ _ _)), fun h => by
      rw [State.onChan_link]
      exact raised _ h⟩
  · exact ⟨told _, fun h => raised _ h⟩

/-- STUCK_D declared, if it was not, with the end of a job on the channel (R150, R170). -/
def State.declaredD (s : State) (ch : Chan) : State :=
  if (s.chan ch).health.stuckD then s else (s.setStuckD ch).endJobOn ch .stuck

theorem State.declareStuckD_eq (s : State) (ch : Chan) : s.declareStuckD ch
    = ((s.onChan ch fun c => { c with seenFree := false, dFree := false }).declaredD ch).grantLost ch := rfl

theorem State.declaredD_stuck (h : (s.chan ch).health.stuckD = true) : s.declaredD ch = s := if_pos h

theorem State.declaredD_clear (h : (s.chan ch).health.stuckD = false) :
    s.declaredD ch = (s.setStuckD ch).endJobOn ch .stuck := if_neg (by simp [h])

/-- The end of a job on a channel leaves whether its D-side is free, STUCK_D and the result of a bus clear. -/
theorem State.endJobOn_status (s : State) (ch : Chan) (cause : JobCause) :
    ((s.endJobOn ch cause).chan ch).seenFree = (s.chan ch).seenFree
      ∧ ((s.endJobOn ch cause).chan ch).dFree = (s.chan ch).dFree
      ∧ ((s.endJobOn ch cause).chan ch).health.stuckD = (s.chan ch).health.stuckD
      ∧ ((s.endJobOn ch cause).chan ch).health.lastClear = (s.chan ch).health.lastClear := by
  rw [(s.endJobOn_routed ch cause).1.eq]
  split
  · rw [Channel.dropEngine_eq, Channel.settleOwed_eq]
    exact ⟨rfl, rfl, rfl, rfl⟩
  · exact ⟨rfl, rfl, rfl, rfl⟩

theorem State.declaredD_status (s : State) (ch : Chan) : ((s.declaredD ch).chan ch).seenFree = (s.chan ch).seenFree
    ∧ ((s.declaredD ch).chan ch).dFree = (s.chan ch).dFree ∧ ((s.declaredD ch).chan ch).health.stuckD = true
    ∧ ((s.declaredD ch).chan ch).health.lastClear = (s.chan ch).health.lastClear := by
  cases h : (s.chan ch).health.stuckD
  · obtain ⟨l, m, b, chan, -⟩ := s.setStuckD_chan ch
    rw [State.declaredD_clear h]
    obtain ⟨h1, h2, h3, h4⟩ := (s.setStuckD ch).endJobOn_status ch .stuck
    rw [h1, h2, h3, h4, chan]
    exact ⟨rfl, rfl, rfl, rfl⟩
  · rw [State.declaredD_stuck h]
    exact ⟨rfl, rfl, h, rfl⟩

/-- What a declaration leaves of a channel that nobody drives. -/
theorem State.declaredD_kept (hd : (s.chan ch).arb.holder = .none) : ∃ p a f h l m, (s.declaredD ch).chan ch =
      { s.chan ch with
          park := p, arb := a, fallback := f, health := h, pull := { (s.chan ch).pull with d := l }, meters := m }
    ∧ a.holder = .none ∧ ((s.chan ch).pull.d = ⟨false, false⟩ → l = ⟨false, false⟩) := by
  cases h : (s.chan ch).health.stuckD
  · obtain ⟨l, m, b, chan, released⟩ := s.setStuckD_chan ch
    obtain ⟨p, a, f, g, leaves, holder, -, -⟩ :=
      State.endJobOn_leaves (s := s.setStuckD ch) (ch := ch) (by rw [chan]; exact hd) .stuck
    rw [State.declaredD_clear h, leaves, chan]
    exact ⟨_, _, _, _, _, _, rfl, holder, released⟩
  · rw [State.declaredD_stuck h]
    exact ⟨_, _, _, _, _, _, rfl, hd, id⟩

theorem State.endJobOn_none {cause : JobCause} (h : s.jobOn ch = false) : s.endJobOn ch cause = s :=
  if_neg (by simp [h])

/-- A declaration that ends no job. -/
theorem State.declaredD_quiet (h : s.jobOn ch = false ∨ (s.chan ch).health.stuckD = true) :
    (s.declaredD ch).engine = s.engine ∧ OnlyChannelsAndLog s (s.declaredD ch)
      ∧ ∃ l m b, (s.declaredD ch).chan ch = { s.chan ch with
          pull := { (s.chan ch).pull with d := l }, meters := m
          health := { (s.chan ch).health with stuckD := true, busClear := b } }
        ∧ ((s.chan ch).pull.d = ⟨false, false⟩ → l = ⟨false, false⟩) := by
  cases hs : (s.chan ch).health.stuckD
  · obtain ⟨-, frame, rules, images, engine⟩ := s.setStuckD_told ch
    have job : (s.setStuckD ch).jobOn ch = false := (State.jobOn_congr engine ch).trans (by simpa [hs] using h)
    rw [State.declaredD_clear hs, State.endJobOn_none job]
    exact ⟨engine, .of_onlyEnded frame rules images, s.setStuckD_chan ch⟩
  · rw [State.declaredD_stuck hs]
    exact ⟨rfl, rfl, _, _, _, by rw [← hs], id⟩

theorem State.declaredD_notices (s : State) (ch : Chan) : NoticesStay s (s.declaredD ch)
    ∧ ((s.chan ch).health.stuckD = false → s.supply.state ≠ .tripped →
      (s.declaredD ch).link.noticed (healthNotice ch) = true) := by
  cases hs : (s.chan ch).health.stuckD
  · obtain ⟨stay, noticed⟩ := s.setStuckD_noticed ch
    have job := (s.setStuckD ch).endJobOn_stay ch .stuck
    rw [State.declaredD_clear hs]
    exact ⟨stay.trans job, fun _ ht => job.keep _ (noticed ht)⟩
  · rw [State.declaredD_stuck hs]
    exact ⟨.of_link rfl, nofun⟩

/-- What a declaration hands to the log: its EVENT record, and the records of the job it ends (R150, R170). -/
theorem State.declaredD_told (s : State) (ch : Chan) : LogAlike (s.declaredD ch)
      (if (s.chan ch).health.stuckD then s else (s.hand (some ch) (.event (.stuckD true))).jobTold ch .stuck)
    ∧ (s.declaredD ch).rules = s.rules ∧ (s.declaredD ch).images = s.images ∧ (s.declaredD ch).tick = s.tick := by
  cases hs : (s.chan ch).health.stuckD
  · obtain ⟨told, -, rules, images, engine⟩ := s.setStuckD_told ch
    rw [State.declaredD_clear hs, if_neg Bool.false_ne_true]
    refine ⟨((s.setStuckD ch).endJobOn_told ch .stuck).trans (told.jobTold (by simp [engine]) ch .stuck), ?_, ?_, ?_⟩
    · simp [rules]
    · simp [images]
    · simpa using told.tick
  · rw [State.declaredD_stuck hs, if_pos rfl]
    exact ⟨.refl s, rfl, rfl, rfl⟩

/-- A job that a new declaration fails (R170). -/
theorem State.declaredD_ended {j : Job} (hs : (s.chan ch).health.stuckD = false) (hj : s.engine.job = some j)
    (hc : j.chan = ch) : (s.declaredD ch).engine.job = none
      ∧ (s.declaredD ch).engine.last = some (j.result (j.endingCause.getD .stuck) j.unitAddress) := by
  obtain ⟨-, -, -, -, engine⟩ := s.setStuckD_told ch
  rw [State.declaredD_clear hs]
  subst hc
  obtain ⟨job, last, -⟩ := (s.setStuckD j.chan).endJobOn_result (by rw [engine]; exact hj) .stuck
  exact ⟨job, last⟩

end Sys2Proof.Machine
end

section
/-! SUPPORT. The D-stretch timeout of whoever waited (R40, R150, R151). -/

namespace Sys2Proof.Machine

variable {s t u w : State} {ch : Chan}

/-- A channel's health with one D-stretch timeout more. -/
def Health.stretched (h : Health) : Health :=
  { h with running := { h.running with dStretchTimeouts := min 4294967295 (h.running.dStretchTimeouts + 1) } }

/-- A channel whose bus clear a D-stretch timeout fails (R151). -/
def Channel.clearStretched (c : Channel) : Channel :=
  { ({ c with health := c.health.stretched } : Channel).breakClear.endClear .failed with
    seenFree := false, dFree := false }

/-- The job that a D-stretch timeout fails (R150, R170, log entry 23). -/
@[reducible] def State.stretchFails (s : State) (ch : Chan) : Prop :=
  (s.chan ch).health.stuckD = false ∨ ((s.chan ch).health.busClear = none ∧ (s.chan ch).arb.holder = .engine)

/-- The declaration that a D-stretch timeout makes, told. -/
def State.stuckTold (s : State) (ch : Chan) : State :=
  if (s.chan ch).health.stuckD = true then s else s.hand (some ch) (.event (.stuckD true))

/-- The declaration of a D-stretch timeout and the job it fails, told (R150, R173). -/
def State.stretchTold (s : State) (ch : Chan) : State :=
  if s.stretchFails ch then (s.stuckTold ch).jobTold ch .stuck else s.stuckTold ch

theorem State.stretchOut_clear (h : (s.chan ch).health.busClear.isSome = true) :
    s.stretchOut ch = ((s.onChan ch Channel.clearStretched).declaredD ch).grantLost ch := by
  unfold State.stretchOut
  dsimp only
  rw [if_pos h, State.declareStuckD_eq, State.tally, State.onHealth, State.onChan_onChan, State.onChan_onChan]
  rfl

/-- The state after a D-stretch timeout of a holder, up to what is made of its operation. -/
def State.stretchFell (s : State) (ch : Chan) : State :=
  (s.onChan ch fun c => c.fallen c.health.stretched).declaredD ch

theorem State.stretchOut_fell (h : (s.chan ch).health.busClear = none) : s.stretchOut ch
    = (if (s.chan ch).arb.holder = .relay then ((s.stretchFell ch).grantLost ch).relayLost ch (s.chan ch).dOp
      else if (s.chan ch).arb.holder = .engine then ((s.stretchFell ch).grantLost ch).endJobOn ch .stuck
      else (s.stretchFell ch).grantLost ch).grantLost ch := by
  unfold State.stretchOut
  dsimp only
  rw [if_neg (by simp [h]), State.declareStuckD_eq, State.tally, State.onHealth, State.onChan_onChan,
      State.onChan_onChan]
  rfl

theorem State.exec_dStretchTimeout {m : Timer} (hr : s.inReset = false) (hm : (s.chan ch).meters.dStretch = some m)
    (hl : m.limit ≤ m.elapsed) (hg : (s.chan ch).dOp ≠ .idle ∨ (s.chan ch).health.busClear.isSome = true) :
    exec (.dStretchTimeout ch) s = .next (s.stretchOut ch).retimeAll := by
  show execDStretchTimeout ch s = _
  have generating : (s.chan ch).generating = true := by simpa [Channel.generating] using hg
  have due : timerDue (s.chan ch).meters.dStretch = true := by simp [timerDue, hm, hl]
  rw [execDStretchTimeout, if_pos ⟨hr, generating, due⟩]

/-! ### The declaration of a D-stretch timeout -/

/-- What the declaration of a D-stretch timeout makes of the state. -/
structure StretchDeclared (ch : Chan) (s t : State) : Prop where
  stuckD : (t.chan ch).health.stuckD = true
  seenFree : (t.chan ch).seenFree = false
  dFree : (t.chan ch).dFree = false
  noticed : (s.chan ch).health.stuckD = false → s.supply.state ≠ .tripped → t.link.noticed (healthNotice ch) = true
  told : LogAlike t
    (if (s.chan ch).health.stuckD = false then (s.stuckTold ch).jobTold ch .stuck else s.stuckTold ch)
  rules : t.rules = s.rules
  images : t.images = s.images
  quiet : s.jobOn ch = false ∨ (s.chan ch).health.stuckD = true → t.engine = s.engine
    ∧ (t.chan ch).health.running.dStretchTimeouts = min 4294967295 ((s.chan ch).health.running.dStretchTimeouts + 1)
  ended : ∀ j, (s.chan ch).health.stuckD = false → s.engine.job = some j → j.chan = ch →
    t.engine.job = none ∧ t.engine.last = some (j.result (j.endingCause.getD .stuck) j.unitAddress)

theorem State.declaredD_stretch {g : Channel → Channel} (stuck : (g (s.chan ch)).health.stuckD =
    (s.chan ch).health.stuckD)
    (seenFree : (g (s.chan ch)).seenFree = false) (dFree : (g (s.chan ch)).dFree = false)
    (running : (g (s.chan ch)).health.running = (s.chan ch).health.stretched.running) :
    StretchDeclared ch s ((s.onChan ch g).declaredD ch) := by
  obtain ⟨k1, k2, k3, -⟩ := (s.onChan ch g).declaredD_status ch
  obtain ⟨-, noticed⟩ := (s.onChan ch g).declaredD_notices ch
  obtain ⟨told, rules, images, -⟩ := (s.onChan ch g).declaredD_told ch
  rw [State.chan_onChan_same] at k1 k2 noticed told
  rw [stuck] at noticed told
  have alike : LogAlike (s.onChan ch g) s := LogAlike.onChan s ch g
  have job : (s.onChan ch g).jobOn ch = s.jobOn ch := State.jobOn_congr (by simp) ch
  refine ⟨k3, k1.trans seenFree, k2.trans dFree, fun hs ht => noticed hs (by simpa using ht), ?_,
      by simpa using rules,
    by simpa using images, fun h => ?_, fun j hs hj hc => ?_⟩
  · refine told.trans ?_
    unfold State.stuckTold
    cases (s.chan ch).health.stuckD
    · rw [if_neg (by simp), if_pos rfl, if_neg (by simp)]
      exact (alike.hand _ _).jobTold (by simp) ch .stuck
    · rw [if_pos rfl, if_neg (by simp), if_pos rfl]
      exact alike
  · obtain ⟨engine, -, l, m, b, chan, -⟩ := State.declaredD_quiet (s := s.onChan ch g) (ch := ch) (by
      rw [job, State.chan_onChan_same, stuck]
      exact h)
    rw [State.chan_onChan_same] at chan
    rw [engine, chan]
    exact ⟨by simp, congrArg Stats.dStretchTimeouts running⟩
  · exact State.declaredD_ended (by rw [State.chan_onChan_same, stuck]; exact hs) (by simpa using hj) hc

theorem State.grantLost_health (t : State) (ch : Chan) : ((t.grantLost ch).chan ch).health = (t.chan ch).health := by
  unfold State.grantLost
  dsimp only
  split
  · rw [State.refuseAddress, State.chan_onChan_same]; rfl
  · rfl

/-- A wait refused changes nothing of it. -/
theorem StretchDeclared.grantLost (h : StretchDeclared ch s t) : StretchDeclared ch s (t.grantLost ch) := by
  have stays := DSideStays.grantLost (ch := ch) t
  refine ⟨stays.chan.stuckD.trans h.stuckD, stays.chan.seenFree.trans h.seenFree, stays.chan.dFree.trans h.dFree,
    fun hs ht => stays.notices.keep _ (h.noticed hs ht), ?_, by simpa using h.rules, by simpa using h.images, ?_, ?_⟩
  · exact LogAlike.trans ⟨by simp, by simp, by simp⟩ h.told
  · rw [State.grantLost_engine, State.grantLost_health]
    exact h.quiet
  · rw [State.grantLost_engine]
    exact h.ended

/-- The outcome of a D-stretch timeout, but for what the relay's exchange hands on. -/
structure StretchOut (ch : Chan) (s t : State) : Prop where
  stuckD : (t.chan ch).health.stuckD = true
  seenFree : (t.chan ch).seenFree = false
  dFree : (t.chan ch).dFree = false
  noticed : (s.chan ch).health.stuckD = false → s.supply.state ≠ .tripped → t.link.noticed (healthNotice ch) = true
  told : (s.chan ch).health.busClear.isSome = true ∨ (s.chan ch).arb.holder ≠ .relay →
    (s.stretchFails ch → t.log = ((s.stuckTold ch).jobTold ch .stuck).log)
      ∧ (¬ s.stretchFails ch → t.log = (s.stuckTold ch).log) ∧ t.rules = s.rules ∧ t.images = s.images
  quiet : s.jobOn ch = false ∨ ¬ s.stretchFails ch → t.engine = s.engine ∧ ((s.chan ch).deferred = [] →
    (t.chan ch).health.running.dStretchTimeouts = min 4294967295 ((s.chan ch).health.running.dStretchTimeouts + 1))
  ended : ∀ j, s.stretchFails ch → s.engine.job = some j → j.chan = ch → t.engine.job = none
    ∧ t.engine.last = some (j.result (j.endingCause.getD .stuck) j.unitAddress)

theorem StretchOut.retimeAll (h : StretchOut ch s t) : StretchOut ch s t.retimeAll := by
  have same := t.sameChannel_retimeAll ch
  refine ⟨?_, ?_, ?_, h.noticed, h.told, fun hq => ⟨(h.quiet hq).1, ?_⟩, h.ended⟩ <;> rw [same]
  · exact h.stuckD
  · exact h.seenFree
  · exact h.dFree
  · exact (h.quiet hq).2

theorem StretchOut.grantLost (h : StretchOut ch s t) : StretchOut ch s (t.grantLost ch) := by
  have stays := DSideStays.grantLost (ch := ch) t
  refine ⟨stays.chan.stuckD.trans h.stuckD, stays.chan.seenFree.trans h.seenFree, stays.chan.dFree.trans h.dFree,
    fun hs ht => stays.notices.keep _ (h.noticed hs ht), ?_, ?_, ?_⟩
  · simpa using h.told
  · rw [State.grantLost_engine, State.grantLost_health]
    exact h.quiet
  · rw [State.grantLost_engine]
    exact h.ended

/-- A timeout that fails a job with a new declaration alone. -/
theorem StretchDeclared.out (h : StretchDeclared ch s t)
    (hf : s.stretchFails ch → (s.chan ch).health.stuckD = false) : StretchOut ch s t := by
  have told := h.told.log
  have clear : ¬ s.stretchFails ch → (s.chan ch).health.stuckD = true := fun hn => by
    by_contra hs
    exact hn (.inl (by simpa using hs))
  refine ⟨h.stuckD, h.seenFree, h.dFree, h.noticed, fun _ => ⟨fun k => ?_, fun k => ?_, h.rules, h.images⟩,
    fun hq => ?_, fun j k => h.ended j (hf k)⟩
  · rw [told, if_pos (hf k)]
  · rw [told, if_neg (by simp [clear k])]
  · obtain ⟨engine, count⟩ := h.quiet (hq.imp_right clear)
    exact ⟨engine, fun _ => count⟩

theorem State.stretchFell_declared (s : State) (ch : Chan) :
    StretchDeclared ch s ((s.stretchFell ch).grantLost ch) :=
  (State.declaredD_stretch (g := fun c => c.fallen c.health.stretched) rfl rfl rfl rfl).grantLost

/-- The D-side after the declaration of a timeout of a holder. -/
theorem State.stretchFell_chan (s : State) (ch : Chan) : ∃ p a f h m, (s.stretchFell ch).chan ch
      = { (s.chan ch).fallen h with park := p, arb := a, fallback := f, meters := m } ∧ a.holder = .none := by
  obtain ⟨p, a, f, h, l, m, chan, holder, released⟩ := State.declaredD_kept
    (s := s.onChan ch fun c => c.fallen c.health.stretched) (ch := ch) (by rw [State.chan_onChan_same]; rfl)
  rw [State.chan_onChan_same] at chan released
  rw [released rfl] at chan
  exact ⟨p, a, f, h, m, chan, holder⟩

theorem State.stretchFell_dropped (s : State) (ch : Chan) : Dropped (((s.stretchFell ch).grantLost ch).chan ch) := by
  obtain ⟨p, a, f, h, m, chan, holder⟩ := s.stretchFell_chan ch
  have fell : Dropped ((s.stretchFell ch).chan ch) := by
    rw [chan]
    exact ⟨holder, rfl, rfl, rfl⟩
  exact fell.kept (DSideStays.grantLost _).chan

theorem State.stretchFell_deferred (s : State) (ch : Chan) :
    (((s.stretchFell ch).grantLost ch).chan ch).deferred = (s.chan ch).deferred := by
  obtain ⟨p, a, f, h, m, chan, -⟩ := s.stretchFell_chan ch
  rw [(DSideStays.grantLost _).chan.deferred, chan]
  rfl

/-- A timeout of the engine's own unit: the job fails whether or not STUCK_D stood (log entry 23). -/
theorem State.stretch_engine (hb : (s.chan ch).health.busClear = none) (hh : (s.chan ch).arb.holder = .engine) :
    StretchOut ch s (((s.stretchFell ch).grantLost ch).endJobOn ch .stuck)
      ∧ ((((s.stretchFell ch).grantLost ch).endJobOn ch .stuck).chan ch).arb.holder = .none := by
  have fails : s.stretchFails ch := .inr ⟨hb, hh⟩
  have declared := s.stretchFell_declared ch
  have holder := (s.stretchFell_dropped ch).holder
  generalize (s.stretchFell ch).grantLost ch = D at *
  have stays := DSideStays.endJobOn holder .stuck
  refine ⟨?_, stays.chan.holder.trans holder⟩
  cases hs : (s.chan ch).health.stuckD
  · have idle : D.jobOn ch = false := by
      cases hj : s.engine.job with
      | none =>
        have off : s.jobOn ch = false := by simp [State.jobOn, hj]
        exact (State.jobOn_congr (declared.quiet (.inl off)).1 ch).trans off
      | some j =>
        by_cases hc : j.chan = ch
        · simp [State.jobOn, (declared.ended j hs hj hc).1]
        · have off : s.jobOn ch = false := by simp [State.jobOn, hj, hc]
          exact (State.jobOn_congr (declared.quiet (.inl off)).1 ch).trans off
    rw [State.endJobOn_none idle]
    exact declared.out fun _ => hs
  · obtain ⟨engine, count⟩ := declared.quiet (.inr hs)
    have told := declared.told
    rw [if_neg (by simp [hs])] at told
    refine ⟨stays.chan.stuckD.trans declared.stuckD, stays.chan.seenFree.trans declared.seenFree,
      stays.chan.dFree.trans declared.dFree, fun h => by simp [hs] at h, fun _ => ⟨fun _ => ?_, fun k => absurd
          fails k, ?_, ?_⟩, fun hq => ?_,
      fun j _ hj hc => ?_⟩
    · exact ((D.endJobOn_told ch .stuck).trans (told.jobTold (by
        rw [engine]
        unfold State.stuckTold
        split <;> simp) ch .stuck)).log
    · simpa using declared.rules
    · simpa using declared.images
    · have off := hq.resolve_right fun k => k fails
      rw [State.endJobOn_none ((State.jobOn_congr engine ch).trans off)]
      exact ⟨engine, fun _ => count⟩
    · subst hc
      obtain ⟨job, last, -⟩ := D.endJobOn_result (by rw [engine]; exact hj) .stuck
      exact ⟨job, last⟩

/-- A timeout of the relay, whatever its exchange hands on. -/
theorem State.stretch_relay (hb : (s.chan ch).health.busClear = none) (hh : (s.chan ch).arb.holder = .relay)
    (op : DOp) :
    StretchOut ch s (((s.stretchFell ch).grantLost ch).relayLost ch op)
      ∧ ((((s.stretchFell ch).grantLost ch).relayLost ch op).chan ch).arb.holder = .none := by
  have fails : s.stretchFails ch → (s.chan ch).health.stuckD = false :=
    fun h => h.resolve_right fun k => by simp [hh] at k
  have declared := s.stretchFell_declared ch
  have dropped := s.stretchFell_dropped ch
  have deferred := s.stretchFell_deferred ch
  generalize (s.stretchFell ch).grantLost ch = D at *
  obtain ⟨notices, down, -, engine, -, stuck⟩ := State.relayLost_down op dropped
  have out := declared.out fails
  refine ⟨⟨stuck.trans declared.stuckD, down.seenFree, down.dFree, fun hs ht =>
      notices.keep _ (declared.noticed hs ht),
    fun h => ?_, fun hq => ⟨engine.trans (out.quiet hq).1, fun hd => ?_⟩, ?_⟩, down.holder⟩
  · simp [hb, hh] at h
  · rw [(D.relayLost_fell ch op (deferred.trans hd)).stretches]
    exact (out.quiet hq).2 hd
  · rw [engine]
    exact out.ended

/-- A timeout of nobody's operation. -/
theorem State.stretch_idle (hn : (s.chan ch).arb.holder ≠ .engine) :
    StretchOut ch s ((s.stretchFell ch).grantLost ch) :=
  (s.stretchFell_declared ch).out fun h => h.resolve_right fun k => hn k.2

/-- A timeout of a bus clear, which fails (R151). -/
theorem State.stretch_clear (hb : (s.chan ch).health.busClear.isSome = true) :
    StretchOut ch s (s.stretchOut ch) ∧ ((s.stretchOut ch).chan ch).health.lastClear = .failed := by
  rw [State.stretchOut_clear hb, State.grantLost_health]
  refine ⟨((State.declaredD_stretch rfl rfl rfl rfl).grantLost).out fun h => h.resolve_right fun k => ?_, ?_⟩
  · simp [k.1] at hb
  · rw [((s.onChan ch Channel.clearStretched).declaredD_status ch).2.2.2, State.chan_onChan_same]
    rfl

/-- A timeout of a holder that fails a job with a new declaration, or of the engine's unit (R40, R170). -/
theorem State.stretch_holder (hb : (s.chan ch).health.busClear = none) :
    StretchOut ch s (s.stretchOut ch) ∧ ((s.stretchOut ch).chan ch).arb.holder = .none := by
  rw [State.stretchOut_fell hb, (DSideStays.grantLost _).chan.holder]
  by_cases hr : (s.chan ch).arb.holder = .relay
  · rw [if_pos hr]
    obtain ⟨out, holder⟩ := State.stretch_relay hb hr (s.chan ch).dOp
    exact ⟨out.grantLost, holder⟩
  · rw [if_neg hr]
    by_cases he : (s.chan ch).arb.holder = .engine
    · rw [if_pos he]
      obtain ⟨out, holder⟩ := State.stretch_engine hb he
      exact ⟨out.grantLost, holder⟩
    · rw [if_neg he]
      exact ⟨(State.stretch_idle he).grantLost, (s.stretchFell_dropped ch).holder⟩

theorem OnlyChannelsAndLog.after_onChan {f : Channel → Channel} (h : OnlyChannelsAndLog (s.onChan ch f) t) :
    OnlyChannelsAndLog s t := by
  unfold OnlyChannelsAndLog at h ⊢
  rw [h]
  cases ch <;> rfl

/-- The state in which the relay's misframe of a timeout is taken (R40). -/
structure StretchTold (ch : Chan) (s w : State) : Prop where
  told : (s.stretchFails ch → w.log = ((s.stuckTold ch).jobTold ch .stuck).log)
    ∧ (¬ s.stretchFails ch → w.log = (s.stuckTold ch).log)
  rules : w.rules = s.rules
  images : w.images = s.images
  tick : w.tick = s.tick
  exch : (w.chan ch).exch = (s.chan ch).exch
  console : (w.chan ch).console = (s.chan ch).console
  byteOpen : (w.chan ch).byteOpen = (s.chan ch).byteOpen
  sync : (w.chan ch).sync = (s.chan ch).sync
  settings : (w.chan ch).settings = (s.chan ch).settings
  quiet : s.jobOn ch = false → OnlyChannelsAndLog s w ∧
      w.chan ch = { (s.chan ch).fallen { (s.chan ch).health.stretched with
    stuckD := true, busClear := (w.chan ch).health.busClear } with meters := (w.chan ch).meters }

theorem State.stretchFell_told (hh : (s.chan ch).arb.holder = .relay) :
    StretchTold ch s (s.stretchFell ch) := by
  have declared : StretchDeclared ch s (s.stretchFell ch) :=
    State.declaredD_stretch (g := fun c => c.fallen c.health.stretched) rfl rfl rfl rfl
  have told := declared.told.log
  obtain ⟨-, -, -, tick⟩ := (s.onChan ch fun c => c.fallen c.health.stretched).declaredD_told ch
  obtain ⟨p, a, f, h, m, chan, -⟩ := s.stretchFell_chan ch
  have fails : s.stretchFails ch ↔ (s.chan ch).health.stuckD = false :=
    ⟨fun h => h.resolve_right fun k => by simp [hh] at k, .inl⟩
  refine ⟨⟨fun k => ?_, fun k => ?_⟩, declared.rules, declared.images, tick.trans (by simp), ?_, ?_, ?_, ?_, ?_,
    fun hj => ?_⟩
  · rw [told, if_pos (fails.1 k)]
  · rw [told, if_neg fun hs => k (fails.2 hs)]
  · rw [chan]; rfl
  · rw [chan]; rfl
  · rw [chan]; rfl
  · rw [chan]; rfl
  · rw [chan]; rfl
  · obtain ⟨-, frame, l, m, b, fell, released⟩ := State.declaredD_quiet
      (s := s.onChan ch fun c => c.fallen c.health.stretched) (ch := ch)
      (.inl ((State.jobOn_congr (by simp) ch).trans hj))
    rw [State.chan_onChan_same] at fell released
    rw [released rfl] at fell
    refine ⟨frame.after_onChan, ?_⟩
    unfold State.stretchFell
    rw [fell]
    rfl

/-- The relay's misframe and the end of its exchange after a timeout (R40, R42). -/
theorem State.stretch_relay_fell (hb : (s.chan ch).health.busClear = none) (hh : (s.chan ch).arb.holder = .relay)
    (hd : (s.chan ch).deferred = []) (hw : ¬ ((s.chan ch).phase = .grantWait ∧ (s.chan ch).grantLimitTaken = true)) :
    ∃ w u, StretchTold ch s w ∧ RelayFell ch (s.chan ch).dOp.owned w u (s.stretchOut ch).retimeAll := by
  obtain ⟨p, a, f, h, m, chan, -⟩ := s.stretchFell_chan ch
  have idle : (s.stretchFell ch).grantLost ch = s.stretchFell ch := by
    unfold State.grantLost
    dsimp only
    rw [chan, if_neg fun h => hw ⟨h.1, h.2.1⟩]
  rw [State.stretchOut_fell hb, if_pos hh, idle]
  exact ⟨_, _, State.stretchFell_told hh, ((s.stretchFell ch).relayLost_fell ch (s.chan ch).dOp (by
    rw [chan]; exact hd)).grantLost.retimeAll⟩

end Sys2Proof.Machine
end

section
/-! The failures of the D-side (R13, R14, R33, R39 to R42, R150): O53. -/

namespace Sys2Proof.Machine

variable {s t u w : State} {ch : Chan}

theorem Dropped.parts {c : Channel} (h : Dropped c) : c.arb.holder = .none ∧ c.seenFree = false ∧ c.dFree = false
    ∧ c.pull.d = ⟨false, false⟩ := ⟨h.holder, h.seenFree, h.dFree, h.pull⟩

theorem Elsewhere.parts (h : Elsewhere ch s t) : t.engine = s.engine ∧ t.supply = s.supply ∧ t.tick = s.tick
    ∧ SameChannel (s.chan (other ch)) (t.chan (other ch)) := ⟨h.engine, h.supply, h.tick, h.apart⟩

/-- A loss of the relay from `lossy` where nothing waits for the grant leaves the exchange it does not end. -/
theorem RelayFell.lossy_kept {b : Bool} (h : RelayFell ch b (s.lossy ch) u t)
    (hb : b = false ∨ (s.chan ch).exch = none) (hp : (s.chan ch).phase ≠ .grantWait) :
    (t.chan ch).exch = (s.chan ch).exch ∧ (t.chan ch).phase = (s.chan ch).phase
      ∧ (t.chan ch).pull.c = (s.chan ch).pull.c := by
  have kept := h.kept
  rw [State.lossy_chan.1] at kept
  exact kept hb hp

theorem RelayFell.lossy_gone {b : Bool} (h : RelayFell ch b (s.lossy ch) u t) (hb : b = true)
    (hx : (s.chan ch).exch.isSome = true) :
    (t.chan ch).exch = none ∧ (t.chan ch).phase = .refused ∧ (t.chan ch).pull.c = ⟨false, false⟩ := by
  have gone := h.gone
  rw [State.lossy_chan.1] at gone
  exact gone hb hx

/-- Settles O53: each part of the statement is what one lemma says of the STOP, the closing pulses, the lost
arbitration of the relay or of the engine, or the timeout. -/
theorem dSideFails : Obligations.DSideFails := by
  intro s ch hr
  have closes : (s.chan ch).arb.holder = .relay ∧ (∃ same, (s.chan ch).dOp = .stop same ∨
      (s.chan ch).dOp = .closing same) →
      (s.chan ch).relayCloses = true := (s.chan ch).relayCloses_iff.2
  refine ⟨fun hc hn => ?_, fun x hc hx => ⟨fun p hn hp => ?_, fun origin planned timeout hn hi hp => ?_⟩,
      fun hh => ?_,
    fun same hh ho hn => ?_, fun same x hh ho hx => ⟨fun p hn hp => ?_, fun origin planned timeout hn hi hp => ?_⟩,
    fun hh ho hd => ?_, fun hh ho => ?_, fun j hh hj hc he hp => ?_, fun m hm hl hg => ?_⟩
  · obtain ⟨t, next, only, chan⟩ := State.stopComplete_plain hr (closes hc) hn
    refine ⟨t, next, only, ?_⟩
    rw [chan]
    exact ⟨rfl, rfl, rfl, rfl, rfl, rfl, rfl⟩
  · exact State.stopComplete_apply hr (closes hc) hx hn hp
  · exact State.stopComplete_hold hr (closes hc) hx hn hi hp
  · exact State.stopFailed hr hh
  · obtain ⟨t, u, next, fell, refused⟩ := State.closePulses_plain hr hh ho hn
    exact ⟨t, u, next, fell.misframe, fell.ends, (fell.dropped (s.lossy_dropped ch)).parts, fell.elsewhere.parts,
      fell.lossy_kept (.inl rfl), refused⟩
  · obtain ⟨t, u, next, seen, carried, cleared, log, apart⟩ := State.closePulses_apply hr hh ho hx hn hp
    exact ⟨t, u, next, seen, carried, cleared, log, apart.parts⟩
  · exact State.closePulses_hold hr hh ho hx hn hi hp
  · obtain ⟨t, u, next, fell⟩ := State.relayLoss_fell hr hh ho hd
    exact ⟨t, u, next, fell.misframe, fell.ends, (fell.dropped (s.lossy_dropped ch)).parts, fell.elsewhere.parts,
      fell.lossy_gone, fell.lossy_kept⟩
  · obtain ⟨t, next, dropped, deferred, engine, tick⟩ := State.relayLoss_down hr hh ho
    exact ⟨t, next, dropped.parts, deferred, engine, tick⟩
  · subst hc
    refine ⟨fun ho => ?_, fun same ho => ?_⟩
    · obtain ⟨t, next, dropped, lost⟩ := State.engineLoss hj he hp hr hh ho
      exact ⟨t, next, dropped.parts, lost⟩
    · obtain ⟨t, next, dropped, lost⟩ := State.engineClosePulses hj he hp hr hh ho
      exact ⟨t, next, dropped.parts, lost⟩
  · have out : StretchOut ch s (s.stretchOut ch).retimeAll := by
      cases hb : (s.chan ch).health.busClear with
      | none => exact (State.stretch_holder hb).1.retimeAll
      | some b => exact (State.stretch_clear (by simp [hb])).1.retimeAll
    have same := (s.stretchOut ch).sameChannel_retimeAll ch
    have told : ∀ v : State, ((s.stretchFails ch → v.log = ((s.stuckTold ch).jobTold ch .stuck).log)
        ∧ (¬ s.stretchFails ch → v.log = (s.stuckTold ch).log)) → v.log = (s.stretchTold ch).log := fun v hv => by
      unfold State.stretchTold
      by_cases k : s.stretchFails ch
      · rw [if_pos k, hv.1 k]
      · rw [if_neg k, hv.2 k]
    refine ⟨_, State.exec_dStretchTimeout hr hm hl hg, out.stuckD, out.seenFree, out.dFree, out.noticed, fun h => ?_,
      out.quiet, out.ended, fun hb => ?_, fun hb => ?_, fun hb hh hd hw => ?_⟩
    · obtain ⟨h1, h2, rules, images⟩ := out.told h
      exact ⟨told _ ⟨h1, h2⟩, rules, images⟩
    · rw [same]
      exact (State.stretch_clear hb).2
    · rw [same]
      exact (State.stretch_holder hb).2
    · obtain ⟨w, u, h, fell⟩ := State.stretch_relay_fell hb hh hd hw
      have gone := fell.gone
      rw [h.exch] at gone
      exact ⟨w, u, told w h.told, h.rules, h.images, h.tick, h.exch, h.console, h.byteOpen, h.sync,
          h.settings, h.quiet,
        fell.misframe, fell.ends, gone⟩

end Sys2Proof.Machine
end

section
/-! How an exchange in flight ends (R34): O47. -/

namespace Sys2Proof.Machine

variable (s : State) (ch : Chan)

/-! ### The records of an end (R34, R83) -/

/-- The records an ending exchange hands to the log: the console text, then its own where it carries the mark. -/
def State.recordsTold (s : State) (ch : Chan) (x : Exchange) (k : EndKind) : State :=
  let s1 := if (s.chan ch).console = [] then s else s.hand (some ch) (.console (s.chan ch).console)
  if x.recordIt then s1.hand (some ch) (.exchange (x.body ((s.chan ch).addressAck x) k s.tick)) else s1

/-- The records change the log and the notice word alone. -/
theorem State.recordsTold_keeps (x : Exchange) (k : EndKind) : (s.recordsTold ch x k).tick = s.tick
    ∧ (s.recordsTold ch x k).monitor = s.monitor ∧ (s.recordsTold ch x k).supply = s.supply
    ∧ ∀ c, (s.recordsTold ch x k).chan c = s.chan c := by
  unfold State.recordsTold
  dsimp only
  (repeat' split) <;> simp

/-- Of the channel the records and the write window of an end change the console buffer alone. -/
theorem State.exchangeTold_eq (x : Exchange) (k : EndKind) : s.exchangeTold ch x k
    = ((s.recordsTold ch x k).onChan ch fun c => { c with console := [] }).writeWindow x := by
  have flush : s.consoleFlush ch
      = (if (s.chan ch).console = [] then s else s.hand (some ch) (.console (s.chan ch).console)).onChan ch
        fun c => { c with console := [] } := by
    unfold State.consoleFlush
    split
    · rename_i h
      exact (State.onChan_self (by rw [← h])).symm
    · rfl
  unfold State.exchangeTold State.recordsTold
  rw [flush]
  dsimp only
  generalize (if (s.chan ch).console = [] then s else s.hand (some ch) (.console (s.chan ch).console)) = u
  split
  · rw [State.hand_onChan]
  · rfl

/-! ### A clean exchange (R145 to R148) -/

/-- The EVENT record and the notice of a DEGRADED that clears (R147, R148). -/
def State.recoveredTold (s : State) (ch : Chan) : State :=
  (s.hand (some ch) (.event (.degraded false))).raiseIf (!s.quietDegraded ch) (healthNotice ch)

/-- What clears DEGRADED tells the log and the link depends on these, the tick count and what suppresses the notice. -/
theorem State.recoveredTold_congr {s t : State} {ch : Chan} (log : t.log = s.log) (link : t.link = s.link)
    (tick : t.tick = s.tick) (quiet : t.quietDegraded ch = s.quietDegraded ch) :
    (t.recoveredTold ch).log = (s.recoveredTold ch).log ∧ (t.recoveredTold ch).link = (s.recoveredTold ch).link := by
  have handed : (t.hand (some ch) (.event (.degraded false))).link
      = (s.hand (some ch) (.event (.degraded false))).link := by
    unfold State.hand
    dsimp only
    rw [log, tick]
    obtain ⟨l, loss, fill⟩ := s.log.take s.tick (some ch) (.event (.degraded false))
    cases loss <;> cases fill <;> simp [State.raiseIf, State.raise, link]
  unfold State.recoveredTold
  rw [quiet]
  refine ⟨by simp [State.hand_log, log, tick], ?_⟩
  cases s.quietDegraded ch <;> simp [State.raiseIf, State.raise, handed]

/-- A channel whose DEGRADED clears (R146, R147). -/
def Channel.recovered (c : Channel) : Channel :=
  { c with
    health := { c.health with degraded := false, cleanRun := 0, owed := false }
    fallback := c.fallback && !c.settings.returnOnRecover }

theorem State.clearDegraded_eq : s.clearDegraded ch = (s.recoveredTold ch).onChan ch Channel.recovered := by
  have quiet : (s.onHealth ch fun h => { h with degraded := false, cleanRun := 0 }).quietDegraded ch
      = s.quietDegraded ch := by
    simp [State.quietDegraded, State.tripLatch, State.onHealth]
  have told : ((s.onHealth ch fun h => { h with degraded := false, cleanRun := 0 }).event (some ch)
        (.degraded false)).raiseIf (!s.quietDegraded ch) (healthNotice ch)
      = (s.recoveredTold ch).onHealth ch fun h => { h with degraded := false, cleanRun := 0 } := by
    rw [State.event, State.onHealth, State.hand_onChan, State.raiseIf_onChan]
    rfl
  have settings : ((s.recoveredTold ch).chan ch).settings = (s.chan ch).settings := by simp [State.recoveredTold]
  unfold State.clearDegraded
  dsimp only
  rw [quiet, told]
  simp only [State.onHealth, State.onChan_onChan, State.chan_onChan_same]
  split <;> rename_i hf <;> simp [State.onChan, Channel.recovered, hf]

/-- A clean exchange while DEGRADED is clear (R145, R146). -/
theorem State.takeClean_clear (h : (s.chan ch).health.degraded = false) : s.takeClean ch = s.onHealth ch fun h =>
    { h with
      misframes := if s.monitor.clear ≤ min 63 (h.cleanRun + 1) then 0 else h.misframes
      cleanRun := if s.monitor.clear ≤ min 63 (h.cleanRun + 1) then 0 else min 63 (h.cleanRun + 1) } := by
  have run : ∀ n, count63 n = min 63 (n + 1) := fun n => rfl
  unfold State.takeClean
  dsimp only
  rw [if_neg (by simp [h]), run]
  split <;> rename_i hc <;> simp [State.onHealth, State.onChan, hc, run]

/-- A clean exchange while DEGRADED stands, short of the recover threshold (R146). -/
theorem State.takeClean_short (h : (s.chan ch).health.degraded = true)
    (hr : ¬ s.monitor.recover ≤ min 63 ((s.chan ch).health.cleanRun + 1)) :
    s.takeClean ch = s.onHealth ch fun h => { h with cleanRun := min 63 (h.cleanRun + 1) } := by
  unfold State.takeClean
  dsimp only
  rw [if_pos h, if_neg (show ¬ s.monitor.recover ≤ count63 _ from hr)]
  rfl

/-- A clean exchange that reaches the recover threshold (R146, R147). -/
theorem State.takeClean_recovers (h : (s.chan ch).health.degraded = true)
    (hr : s.monitor.recover ≤ min 63 ((s.chan ch).health.cleanRun + 1)) :
    s.takeClean ch = (s.recoveredTold ch).onChan ch Channel.recovered := by
  unfold State.takeClean
  dsimp only
  rw [if_pos h, if_pos (show s.monitor.recover ≤ count63 _ from hr), State.clearDegraded_eq]

/-- The integration counts apart from the statistics (R144), and from the console. -/
theorem State.takeClean_keeps : ((s.takeClean ch).chan ch).health.running = (s.chan ch).health.running
    ∧ ((s.takeClean ch).chan ch).console = (s.chan ch).console := by
  cases hd : (s.chan ch).health.degraded with
  | false => simp [s.takeClean_clear ch hd, State.onHealth]
  | true =>
    by_cases hr : s.monitor.recover ≤ min 63 ((s.chan ch).health.cleanRun + 1)
    · simp [s.takeClean_recovers ch hd hr, State.recoveredTold, Channel.recovered]
    · simp [s.takeClean_short ch hd hr, State.onHealth]

/-! ### The end, step by step -/

/-- An exchange's end after its records and the write window: the health monitor. -/
def State.exchangeCleaned (s : State) (ch : Chan) (x : Exchange) (k : EndKind) : State :=
  if k ≠ .aborted ∧ x.misframe = false then (s.exchangeTold ch x k).takeClean ch else s.exchangeTold ch x k

section
variable {s ch} {x : Exchange} (hx : (s.chan ch).exch = some x) (k : EndKind)
include hx

theorem State.endExchange_eq : s.endExchange ch k = (((s.exchangeCleaned ch x k).tally ch fun t =>
    t.ended x ((s.chan ch).addressAck x)).releaseRefs x).onChan ch Channel.clearExchange := by
  unfold State.endExchange
  rw [hx]
  rfl

/-- What an end leaves of the log, the link and the health is what the health monitor left, with the counters of R153
raised. -/
theorem State.endExchange_left : (s.endExchange ch k).log = (s.exchangeCleaned ch x k).log
    ∧ (s.endExchange ch k).link = (s.exchangeCleaned ch x k).link
    ∧ ((s.endExchange ch k).chan ch).fallback = ((s.exchangeCleaned ch x k).chan ch).fallback
    ∧ ((s.endExchange ch k).chan ch).health = { ((s.exchangeCleaned ch x k).chan ch).health with
        running := ((s.endExchange ch k).chan ch).health.running } := by
  rw [State.endExchange_eq hx k]
  simp [Channel.clearExchange, State.tally, State.onHealth]

theorem State.endExchange_counted : ((s.endExchange ch k).chan ch).health.running
      = (s.chan ch).health.running.ended x ((s.chan ch).addressAck x)
    ∧ ((s.endExchange ch k).chan ch).console = [] := by
  have kept : ((s.exchangeCleaned ch x k).chan ch).health.running = (s.chan ch).health.running
      ∧ ((s.exchangeCleaned ch x k).chan ch).console = [] := by
    unfold State.exchangeCleaned
    split <;> simp [State.takeClean_keeps, State.exchangeTold_chan]
  rw [State.endExchange_eq hx k]
  simp [Channel.clearExchange, State.tally, State.onHealth, kept]

end

/-! ### References and write windows (R60, R61, R70) -/

/-- A reference released: at reference count 0 the pending copy takes over (R60, R61). -/
theorem Entry.release_eq (e : Entry) : e.release = if e.refs ≤ 1 then (match e.pending with
      | none => { e with refs := 0 }
      | some p => ⟨p, none, p.passCount, 0, 0⟩)
    else { e with refs := e.refs - 1 } := by
  obtain ⟨live, pending, remaining, hits, refs⟩ := e
  by_cases h : refs ≤ 1
  · have zero : refs - 1 = 0 := by omega
    cases pending <;> simp [Entry.release, Entry.settle, Entry.promote, h, zero]
  · have some_left : refs - 1 ≠ 0 := by omega
    simp [Entry.release, Entry.settle, h, some_left]

/-- Which entry the release of a reference changes. -/
theorem releaseEntry_getElem? (o : Option Nat) (l : List Entry) (k : Nat) :
    (releaseEntry o l)[k]? = if o = some k then l[k]?.map Entry.release else l[k]? := by
  cases o with
  | none => rfl
  | some i =>
    rw [releaseEntry, onEntry, List.getElem?_modify]
    by_cases h : i = k <;> simp [h]

/-- The references of an exchange released, entry by entry: no entry is held twice (R60). -/
theorem State.releaseRefs_getElem? (x : Exchange) {k : Nat} {e : Entry} (he : s.rules[k]? = some e)
    (hn : ¬ (x.addressEntry = some k ∧ x.indexEntry = some k)) : (s.releaseRefs x).rules[k]?
      = some (if x.addressEntry = some k ∨ x.indexEntry = some k then e.release else e) := by
  rw [State.releaseRefs, releaseEntry_getElem?, releaseEntry_getElem?, he]
  by_cases ha : x.addressEntry = some k
  · have hi : x.indexEntry ≠ some k := fun hi => hn ⟨ha, hi⟩
    simp [ha, hi]
  · by_cases hi : x.indexEntry = some k <;> simp [ha, hi]

/-- The write window of an exchange that stored a byte to an image that is there (R70). -/
theorem State.writeWindow_images {x : Exchange} {k : Fin 4} {i : Image} (hk : x.onImage = some k)
    (hs : x.stored = true) (hi : s.images[k.val]? = some i) :
    (s.writeWindow x).images = s.images.set k.val (i.startWindow s.tick) := by
  simp only [State.writeWindow, hk, hs, if_true]
  exact s.onImage_images k _ hi

/-- A write window on an image that is BUSY already (R70, log entry 39). -/
theorem Image.startWindow_busy (i : Image) (now : Tick) {u : Tick} (h0 : i.writeTime ≠ 0)
    (hu : i.busyUntil = some u) : i.startWindow now
      = if 2147483648 ≤ (now - u).toNat ∧ i.writeTime * 1000 % 4294967296 < (u - now).toNat then i
        else { i with busyUntil := some (now + BitVec.ofNat 32 (i.writeTime * 1000)) } := by
  have stop : (now + BitVec.ofNat 32 (ms i.writeTime) - now).toNat = i.writeTime * 1000 % 4294967296 := by
    simp [ms]
  unfold Image.startWindow
  rw [if_neg h0, hu]
  dsimp only
  rw [stop]
  simp only [reached, decide_eq_false_iff_not, Nat.not_lt]
  rfl

/-- What an end leaves of the images where a byte was stored to one that is there (R70, log entry 39). -/
theorem State.endExchange_window {x : Exchange} (hx : (s.chan ch).exch = some x) (e : EndKind) {k : Fin 4} {i : Image}
    (hk : x.onImage = some k) (hs : x.stored = true) (hi : s.images[k.val]? = some i) :
    (i.writeTime = 0 → (s.endExchange ch e).images = s.images)
      ∧ (i.writeTime ≠ 0 → i.busyUntil = none → (s.endExchange ch e).images = s.images.set k.val
          { i with busyUntil := some (s.tick + BitVec.ofNat 32 (i.writeTime * 1000)) })
      ∧ ∀ u, i.writeTime ≠ 0 → i.busyUntil = some u → (s.endExchange ch e).images =
        if 2147483648 ≤ (s.tick - u).toNat ∧ i.writeTime * 1000 % 4294967296 < (u - s.tick).toNat then s.images
        else s.images.set k.val { i with busyUntil := some (s.tick + BitVec.ofNat 32 (i.writeTime * 1000)) } := by
  have images : (s.endExchange ch e).images = s.images.set k.val (i.startWindow s.tick) := by
    rw [s.endExchange_images_eq ch e, hx]
    exact s.writeWindow_images hk hs hi
  have same : s.images.set k.val i = s.images := by
    obtain ⟨hl, rfl⟩ := List.getElem?_eq_some_iff.1 hi
    exact List.set_getElem_self hl
  rw [images]
  refine ⟨fun h0 => ?_, fun h0 hb => ?_, fun u h0 hb => ?_⟩
  · rw [Image.startWindow, if_pos h0, same]
  · rw [Image.startWindow, if_neg h0, hb]
    rfl
  · rw [i.startWindow_busy s.tick h0 hb]
    split
    · exact same
    · rfl

/-- What an end leaves of the log, the link, the fallback flag and the health, in the four cases of a clean exchange and
its opposite (R144 to R148). -/
theorem State.exchangeCleaned_cases (x : Exchange) (k : EndKind) :
    let c := s.chan ch
    let v := s.exchangeCleaned ch x k
    let told := s.recordsTold ch x k
    let clean := k ≠ .aborted ∧ x.misframe = false
    let run := min 63 (c.health.cleanRun + 1)
    (¬ clean → v.log = told.log ∧ v.link = told.link ∧ (v.chan ch).fallback = c.fallback ∧ (v.chan ch).health = c.health)
      ∧ (clean → c.health.degraded = false → v.log = told.log ∧ v.link = told.link ∧ (v.chan ch).fallback = c.fallback
        ∧ (v.chan ch).health = { c.health with
            misframes := if s.monitor.clear ≤ run then 0 else c.health.misframes
            cleanRun := if s.monitor.clear ≤ run then 0 else run })
      ∧ (clean → c.health.degraded = true → ¬ s.monitor.recover ≤ run → v.log = told.log ∧ v.link = told.link
        ∧ (v.chan ch).fallback = c.fallback ∧ (v.chan ch).health = { c.health with cleanRun := run })
      ∧ (clean → c.health.degraded = true → s.monitor.recover ≤ run →
        v.log = (told.recoveredTold ch).log ∧ v.link = (told.recoveredTold ch).link
          ∧ (v.chan ch).fallback = (c.fallback && !c.settings.returnOnRecover)
          ∧ (v.chan ch).health = { c.health with degraded := false, cleanRun := 0, owed := false }) := by
  intro c v told clean run
  have chan : (s.exchangeTold ch x k).chan ch = { c with console := [] } := s.exchangeTold_chan ch x k
  have monitor : (s.exchangeTold ch x k).monitor = s.monitor := by
    simp [State.exchangeTold_eq, State.recordsTold_keeps]
  have blocks : (s.exchangeTold ch x k).log = told.log ∧ (s.exchangeTold ch x k).link = told.link := by
    simp [State.exchangeTold_eq, told]
  obtain ⟨log, link⟩ := blocks
  have cleaned (h : clean) : v = (s.exchangeTold ch x k).takeClean ch := if_pos h
  refine ⟨fun h => ?_, fun h hd => ?_, fun h hd hr => ?_, fun h hd hr => ?_⟩
  · rw [show v = s.exchangeTold ch x k from if_neg h, chan]
    exact ⟨log, link, rfl, rfl⟩
  · rw [cleaned h, State.takeClean_clear _ ch (by rw [chan]; exact hd), State.onHealth, State.chan_onChan_same, chan,
      monitor]
    exact ⟨by simpa using log, by simpa using link, rfl, rfl⟩
  · rw [cleaned h, State.takeClean_short _ ch (by rw [chan]; exact hd) (by rw [chan, monitor]; exact hr),
      State.onHealth, State.chan_onChan_same, chan]
    exact ⟨by simpa using log, by simpa using link, rfl, rfl⟩
  · rw [cleaned h, State.takeClean_recovers _ ch (by rw [chan]; exact hd) (by rw [chan, monitor]; exact hr),
      State.chan_onChan_same, State.onChan_log, State.onChan_link]
    have quiet : (s.exchangeTold ch x k).quietDegraded ch = told.quietDegraded ch := by
      simp [State.exchangeTold_eq, State.quietDegraded, State.tripLatch, told]
    obtain ⟨log, link⟩ := State.recoveredTold_congr log link (by simp [State.exchangeTold_eq, told]) quiet
    have same : ((s.exchangeTold ch x k).recoveredTold ch).chan ch = { c with console := [] } := by
      simp [State.recoveredTold, chan]
    rw [same]
    exact ⟨log, link, rfl, rfl⟩

/-- What an end drops of its channel, and what it leaves there (R34, R165). -/
theorem State.endExchange_cleared {x : Exchange} (hx : (s.chan ch).exch = some x) (k : EndKind) :
    let c := s.chan ch
    let d := (s.endExchange ch k).chan ch
    d.exch = none ∧ d.giving = none ∧ d.nextAct = none ∧ d.dOp = c.dOp ∧ d.arb = { c.arb with relayWaits := false }
      ∧ d.phase = c.phase ∧ d.pull = c.pull ∧ d.mode = c.mode ∧ d.hold = c.hold := by
  intro c d
  obtain ⟨-, self⟩ := s.endExchange_chans ch k
  rw [hx, if_neg (Option.some_ne_none x), Channel.clearExchange] at self
  rw [show d = _ from self]
  exact ⟨rfl, rfl, rfl, rfl, rfl, rfl, rfl, rfl, rfl⟩

/-- HEALTHn is raised unless the trip is latched or a line is stuck (R148). -/
theorem State.recoveredTold_link : (s.recoveredTold ch).link
    = (if s.supply.state = .tripped ∨ (s.chan ch).health.stuckC = true ∨ (s.chan ch).health.stuckD = true then
        s.hand (some ch) (.event (.degraded false))
      else (s.hand (some ch) (.event (.degraded false))).raise (healthNotice ch)).link := by
  have quiet : s.quietDegraded ch = true
      ↔ s.supply.state = .tripped ∨ (s.chan ch).health.stuckC = true ∨ (s.chan ch).health.stuckD = true := by
    simp [State.quietDegraded, State.tripLatch, or_assoc]
  unfold State.recoveredTold State.raiseIf
  simp only [← quiet]
  cases s.quietDegraded ch <;> rfl

/-- Settles O47: what an end leaves of its channel, the health monitor's part, the references and the image. -/
theorem exchangeEnds : Obligations.ExchangeEnds := by
  intro s ch x k hx c t d bit s1 s2 clean run one
  obtain ⟨exch, giving, nextAct, dOp, arb, phase, pull, mode, hold⟩ := s.endExchange_cleared ch hx k
  obtain ⟨log, link, fallback, health⟩ := State.endExchange_left hx k
  obtain ⟨running, console⟩ := State.endExchange_counted hx k
  obtain ⟨dirty, clear, short, recovers⟩ := s.exchangeCleaned_cases ch x k
  have told : s.recordsTold ch x k = s2 := rfl
  obtain ⟨-, -, supply, chans⟩ := s.recordsTold_keeps ch x k
  have rules := s.endExchange_rules_eq ch k
  have images := s.endExchange_images_eq ch k
  rw [hx] at rules images
  have ends {f : Bool} {h : Health} {l : Log} {w : Link} (v : (s.exchangeCleaned ch x k).log = l
      ∧ (s.exchangeCleaned ch x k).link = w ∧ ((s.exchangeCleaned ch x k).chan ch).fallback = f
      ∧ ((s.exchangeCleaned ch x k).chan ch).health = h) :
      t.log = l ∧ t.link = w ∧ d.fallback = f ∧ d.health = { h with running := d.health.running } := by
    obtain ⟨rfl, rfl, rfl, rfl⟩ := v
    exact ⟨log, link, fallback, health⟩
  refine ⟨exch, console, giving, nextAct, dOp, arb, phase, pull, mode, hold, running, fun h => ends (dirty h),
    fun h hd => ends (clear h hd), fun h hd hr => ends (short h hd hr), fun h hd hr => ?_, fun j e he => ?_, fun h => ?_,
    fun j i hj hs hi => s.endExchange_window ch hx k hj hs hi, (s.endExchange_chans ch k).1, s.endExchange_engine ch k,
    s.endExchange_supply ch k, s.endExchange_tick ch k⟩
  · obtain ⟨h1, h2, h3, h4⟩ := ends (recovers h hd hr)
    rw [State.recoveredTold_link, supply, chans, told] at h2
    exact ⟨h1.trans (by simp [State.recoveredTold, told]), h2, h3, h4⟩
  · intro n hn
    have free : ¬ (x.addressEntry = some j ∧ x.indexEntry = some j) := fun ⟨ha, hi⟩ => by simp [n, ha, hi] at hn
    rw [rules, s.releaseRefs_getElem? x he free]
    by_cases hh : x.addressEntry = some j ∨ x.indexEntry = some j
    · have some_ref : n ≠ 0 := by rcases hh with h | h <;> simp [n, h]
      rw [if_pos hh, if_neg some_ref]
      exact congrArg some e.release_eq
    · have no_ref : n = 0 := by simpa [n] using hh
      rw [if_neg hh, if_pos no_ref]
  · refine images.trans ?_
    rcases h with h | h
    · simp [State.writeWindow, h]
    · cases hk : x.onImage <;> simp [State.writeWindow, h, hk]

end Sys2Proof.Machine
end

section
/-! SUPPORT. The parts an address stage and an index stage are made of: the scan, the winner's occurrence, a hold that
begins, and what each of them leaves as it was (R22, R25, R54, R92). -/

namespace Sys2Proof.Machine

variable {ch : Chan} {s t u : State} {c d e : Channel} {x : Exchange}

/-! ### The state with another rule table -/

/-- The state with its rule table replaced, as a scan replaces it (R51). -/
def State.withRules (s : State) (l : List Entry) : State := { s with rules := l }

section
variable (s ch) (l : List Entry)
@[simp] theorem State.withRules_rules : (s.withRules l).rules = l := rfl
@[simp] theorem State.withRules_images : (s.withRules l).images = s.images := rfl
@[simp] theorem State.withRules_log : (s.withRules l).log = s.log := rfl
@[simp] theorem State.withRules_tick : (s.withRules l).tick = s.tick := rfl
@[simp] theorem State.withRules_routes : (s.withRules l).routes = s.routes := rfl
@[simp] theorem State.withRules_engine : (s.withRules l).engine = s.engine := rfl
@[simp] theorem State.withRules_supply : (s.withRules l).supply = s.supply := rfl
@[simp] theorem State.withRules_link : (s.withRules l).link = s.link := rfl
@[simp] theorem State.withRules_inReset : (s.withRules l).inReset = s.inReset := rfl
@[simp] theorem State.withRules_chan : (s.withRules l).chan ch = s.chan ch := by cases ch <;> rfl
end

/-! ### The winner's occurrence (R52, R54) -/

/-- The winner of a scan, if any, carries no TRIGGER mark. -/
def Untriggered (w : Option (Nat × Copy)) : Prop :=
  ∀ k c h, w = some (k, c) → c.head = some h → h.trigger = false

theorem State.ruleTrigger_untriggered {w : Option (Nat × Copy)} (h : Untriggered w) (s : State) :
    s.ruleTrigger w = s := by
  unfold State.ruleTrigger
  split
  · rfl
  · split
    · rfl
    · rw [if_neg (by simp [h _ _ _ rfl ‹_›])]

/-- Of a channel a winner's occurrence changes what the actions of routes may. -/
theorem State.ruleTrigger_routed (s : State) (w : Option (Nat × Copy)) (c : Chan) :
    Routed (s.chan c) ((s.ruleTrigger w).chan c) := by
  unfold State.ruleTrigger
  (repeat' split)
  case isTrue => exact s.occur_routed _ _ c
  all_goals exact .refl _

/-! ### A hold that begins (R87, R92) -/

section
variable {origin : HoldOrigin} {planned : Planned} {timeout : HoldTimeout}

/-- The state in which the router takes the HOLD_START of a hold `h`. -/
def State.heldTold (s : State) (ch : Chan) (h : Hold) : State :=
  ((s.onChan ch fun c => { c with hold := some h, phase := .held, highPhase := false }).hand (some ch)
    (.hold h.origin h.address h.direction h.byte)).raise (holdNotice ch)

theorem State.beginHold_told (hx : (s.chan ch).exch = some x) : s.beginHold ch origin planned timeout
    = ((s.heldTold ch (holdOf (s.chan ch) x origin planned timeout s.tick)).occur .holdStart none).tally ch
      fun t => { t with held := bump t.held } := by
  unfold State.beginHold
  rw [hx]
  rfl

/-- A hold begun in a state `u` that tells the log what `s` does, on a channel with the settings, the health and the
stretched clock the statement asks for. -/
theorem State.beginHold_holds (like : LogAlike u s) (hx : (u.chan ch).exch = some x)
    (settings : (u.chan ch).settings = (s.chan ch).settings) (health : (u.chan ch).health = (s.chan ch).health)
    (pull : (u.chan ch).pull.c = ⟨true, false⟩) {y : Byte}
    (hy : (if origin.atIndex then (u.chan ch).curByte else 0) = y) :
    Held ch origin y planned timeout x s (u.beginHold ch origin planned timeout)
      ∧ ((∀ q ∈ s.routes, q.fits .holdStart none = false) →
        ((u.beginHold ch origin planned timeout).chan ch).park = (u.chan ch).park) := by
  obtain ⟨h, hh⟩ : ∃ h, h = holdOf (u.chan ch) x origin planned timeout u.tick := ⟨_, rfl⟩
  have chan : (u.heldTold ch h).chan ch
      = { u.chan ch with hold := some h, phase := .held, highPhase := false } := by simp [State.heldTold]
  have told : LogAlike (u.heldTold ch h) (s.hand (some ch) (.hold origin x.address x.direction y)) := by
    have k := ((LogAlike.onChan u ch fun c : Channel =>
      { c with hold := some h, phase := .held, highPhase := false }).trans like).hand (some ch)
        (.hold h.origin h.address h.direction h.byte)
    rw [← hy]
    rw [hh] at k ⊢
    exact ⟨k.log, k.tick, k.routes⟩
  have notice : (u.heldTold ch h).link.noticed (holdNotice ch) = true := State.raise_noticed _ _
  have routes : (u.heldTold ch h).routes = s.routes := told.routes.trans (by simp)
  have routed := ((u.heldTold ch h).occur_routed .holdStart none ch).eq
  rw [chan] at routed
  rw [State.beginHold_told hx, ← hh]
  generalize u.heldTold ch h = V at *
  unfold Held
  rw [State.tally, State.onHealth, State.chan_onChan_same, routed]
  refine ⟨⟨rfl, pull, rfl, hx, ?_, ?_, ?_, ?_, fun quiet => ?_⟩, fun quiet => ?_⟩
  · rw [hh, holdOf, hy, settings, like.tick]
    rfl
  · rw [State.onChan_link]
    exact (V.occur_stay _ _).keep _ notice
  · rw [State.onChan_log]
    exact (told.occur .holdStart none).log
  · rw [State.onChan_routes, State.occur_routes, routes]
  · rw [← routes] at quiet
    rw [V.occur_none .holdStart none quiet, chan, ← health]
    simp [bump, satAdd, max32]
  · rw [← routes] at quiet
    rw [V.occur_none .holdStart none quiet, chan]

end

/-! ### What a stage leaves of the channels -/

/-- What no stage changes of the channel it acts on, and of its exchange in flight. -/
structure Carries (c d : Channel) : Prop where
  byteOpen : d.byteOpen = c.byteOpen
  curByte : d.curByte = c.curByte
  deferred : d.deferred = c.deferred
  console : d.console = c.console
  holder : c.arb.holder = .relay → d.arb.holder = .relay
  exch : ∀ x, c.exch = some x → ∃ y, d.exch = some y ∧ y.address = x.address ∧ y.direction = x.direction
    ∧ y.startTime = x.startTime ∧ y.count = x.count

theorem Carries.of_map {f : Exchange → Exchange} (byteOpen : d.byteOpen = c.byteOpen) (curByte : d.curByte = c.curByte)
    (deferred : d.deferred = c.deferred) (console : d.console = c.console) (arb : d.arb.holder = c.arb.holder)
    (exch : d.exch = c.exch.map f) (hf : ∀ x, (f x).address = x.address ∧ (f x).direction = x.direction
      ∧ (f x).startTime = x.startTime ∧ (f x).count = x.count) : Carries c d :=
  ⟨byteOpen, curByte, deferred, console, arb.trans, fun x hx => ⟨f x, by rw [exch, hx]; rfl, hf x⟩⟩

theorem Carries.of_exch (byteOpen : d.byteOpen = c.byteOpen) (curByte : d.curByte = c.curByte)
    (deferred : d.deferred = c.deferred) (console : d.console = c.console) (arb : d.arb.holder = c.arb.holder)
    (exch : d.exch = c.exch) : Carries c d :=
  ⟨byteOpen, curByte, deferred, console, arb.trans, fun x hx => ⟨x, exch.trans hx, rfl, rfl, rfl, rfl⟩⟩

theorem Carries.refl (c : Channel) : Carries c c := .of_exch rfl rfl rfl rfl rfl rfl

theorem Carries.trans (h : Carries c d) (k : Carries d e) : Carries c e := by
  refine ⟨k.byteOpen.trans h.byteOpen, k.curByte.trans h.curByte, k.deferred.trans h.deferred,
    k.console.trans h.console, fun hc => k.holder (h.holder hc), fun x hx => ?_⟩
  obtain ⟨y, hy, h1, h2, h3, h4⟩ := h.exch x hx
  obtain ⟨z, hz, k1, k2, k3, k4⟩ := k.exch y hy
  exact ⟨z, hz, k1.trans h1, k2.trans h2, k3.trans h3, k4.trans h4⟩

theorem Routed.carries (h : Routed c d) : Carries c d := by
  rw [h.eq]
  exact .of_exch rfl rfl rfl rfl rfl rfl

/-- A stage acted on in channel `ch`: the other channel has what actions of routes may make of it. -/
structure Staged (ch : Chan) (s t : State) : Prop where
  here : Carries (s.chan ch) (t.chan ch)
  apart : Routed (s.chan (other ch)) (t.chan (other ch))

theorem Staged.refl (ch : Chan) (s : State) : Staged ch s s := ⟨.refl _, .refl _⟩

theorem Staged.trans (h : Staged ch s t) (k : Staged ch t u) : Staged ch s u :=
  ⟨h.here.trans k.here, h.apart.trans k.apart⟩

theorem Staged.onChan (s : State) {f : Channel → Channel} (h : Carries (s.chan ch) (f (s.chan ch))) :
    Staged ch s (s.onChan ch f) :=
  ⟨by rwa [State.chan_onChan_same], by rw [State.chan_onChan_other]; exact .refl _⟩

theorem Staged.of_chan (h : ∀ c, t.chan c = s.chan c) : Staged ch s t :=
  ⟨by rw [h]; exact .refl _, by rw [h]; exact .refl _⟩

theorem Staged.of_routed (h : ∀ c, Routed (s.chan c) (t.chan c)) : Staged ch s t := ⟨(h ch).carries, h (other ch)⟩

theorem Staged.tally (s : State) (f : Stats → Stats) : Staged ch s (s.tally ch f) :=
  .onChan s (f := fun c => { c with health := { c.health with running := f c.health.running } })
    (.of_exch rfl rfl rfl rfl rfl rfl)

theorem Staged.refuseAddress (s : State) (d : Disposition) : Staged ch s (s.refuseAddress ch d) :=
  .onChan s (.of_map rfl rfl rfl rfl rfl rfl fun _ => ⟨rfl, rfl, rfl, rfl⟩)

theorem Staged.answerLocal (s : State) (d : Disposition) (i : Option (Fin 4)) : Staged ch s (s.answerLocal ch d i) :=
  .onChan s (.of_map rfl rfl rfl rfl rfl rfl fun _ => ⟨rfl, rfl, rfl, rfl⟩)

theorem Channel.askRelay_carries (c : Channel) : Carries c c.askRelay := by
  unfold Channel.askRelay
  dsimp only
  split
  · exact ⟨rfl, rfl, rfl, rfl, fun _ => rfl, fun x hx => ⟨x, hx, rfl, rfl, rfl, rfl⟩⟩
  · exact .of_exch rfl rfl rfl rfl rfl rfl

theorem Staged.applyForward (s : State) : Staged ch s (s.applyForward ch) := by
  refine .onChan s ?_
  have marked : Carries (s.chan ch)
      { s.chan ch with exch := (s.chan ch).exch.map fun x => { x with disposition := some .forwarded } } :=
    .of_map rfl rfl rfl rfl rfl rfl fun _ => ⟨rfl, rfl, rfl, rfl⟩
  dsimp only
  split
  · exact marked.trans (.of_exch rfl rfl rfl rfl rfl rfl)
  · exact marked.trans (Channel.askRelay_carries _)

theorem Staged.useByte (s : State) : Staged ch s (s.useByte ch) := by
  refine .onChan s ?_
  dsimp only
  (repeat' split) <;> exact .of_exch rfl rfl rfl rfl rfl rfl

theorem Staged.apply (s : State) (p : Planned) : Staged ch s (s.apply ch p) := by
  cases p with
  | forward => exact .applyForward s
  | deny => exact .refuseAddress s _
  | resume => exact .useByte s
  | emulate k =>
    simp only [State.apply, State.applyEmulate]
    split
    · exact .refuseAddress s _
    · exact .answerLocal s _ _
  | console =>
    simp only [State.apply, State.applyConsole]
    (repeat' split)
    · exact .refuseAddress s _
    · exact .refuseAddress s _
    · exact .answerLocal s _ _

theorem Staged.refuseByte (s : State) : Staged ch s (s.refuseByte ch) := by
  have noted : Staged ch s (s.noteNack ch) := by
    cases hx : (s.chan ch).exch with
    | none => simpa [State.noteNack, hx] using Staged.refl ch s
    | some x =>
      rw [s.noteNack_eq ch hx]
      refine .onChan s ?_
      unfold Channel.nackNoted
      split
      · exact .refl _
      · refine ⟨rfl, rfl, rfl, rfl, id, fun y hy => ⟨_, rfl, ?_⟩⟩
        rw [← Option.some.inj (hx.symm.trans hy)]
        exact ⟨rfl, rfl, rfl, rfl⟩
  exact noted.trans (.onChan _ (.of_exch rfl rfl rfl rfl rfl rfl))

theorem Staged.beginHold (s : State) (origin : HoldOrigin) (planned : Planned) (timeout : HoldTimeout) :
    Staged ch s (s.beginHold ch origin planned timeout) := by
  cases hx : (s.chan ch).exch with
  | none => simpa [State.beginHold, hx] using Staged.refl ch s
  | some x =>
    rw [State.beginHold_told hx]
    generalize holdOf (s.chan ch) x origin planned timeout s.tick = h
    have begun : Staged ch s (s.onChan ch fun c => { c with hold := some h, phase := .held, highPhase := false }) :=
      .onChan s (.of_exch rfl rfl rfl rfl rfl rfl)
    have told : Staged ch s (s.heldTold ch h) := begun.trans (.of_chan fun c => by simp [State.heldTold])
    exact (told.trans (.of_routed fun c => State.occur_routed _ _ _ c)).trans (.tally _ _)

theorem Staged.takeNext (s : State) (n : NextAct) : Staged ch s (s.takeNext ch n) := by
  cases n with
  | apply p => exact .apply s p
  | hold origin planned timeout => exact .beginHold s origin planned timeout

theorem Staged.decided (s : State) (n : NextAct) : Staged ch s (s.decided ch n) := by
  unfold State.decided
  (repeat' split)
  · exact .takeNext s n
  · exact .onChan s (.of_exch rfl rfl rfl rfl rfl rfl)
  · exact .onChan s (.of_exch rfl rfl rfl rfl rfl rfl)
  · exact .takeNext s n

theorem Staged.ruleTrigger (s : State) (w : Option (Nat × Copy)) : Staged ch s (s.ruleTrigger w) :=
  .of_routed fun c => s.ruleTrigger_routed w c

theorem Staged.withRules (ch : Chan) (s : State) (l : List Entry) : Staged ch s (s.withRules l) :=
  .of_chan fun c => s.withRules_chan c l

theorem Staged.onExch (s : State) {f : Exchange → Exchange} (hf : ∀ x, (f x).address = x.address
    ∧ (f x).direction = x.direction ∧ (f x).startTime = x.startTime ∧ (f x).count = x.count) :
    Staged ch s (s.onExch ch f) :=
  .onChan s (.of_map rfl rfl rfl rfl rfl rfl hf)

theorem Staged.addressScan (s : State) (x : Exchange) : Staged ch s (s.addressScan ch x).1 :=
  (Staged.withRules ch s (scanFrom (addressCandidate ch x.address x.direction) 0 s.rules).rules).trans
    (.onExch _ fun _ => ⟨rfl, rfl, rfl, rfl⟩)

theorem Staged.addressStage (s : State) (x : Exchange) : Staged ch s (s.addressStage ch x) :=
  (((Staged.addressScan s x).trans (.onChan _ (.of_exch rfl rfl rfl rfl rfl rfl))).trans (.ruleTrigger _ _)).trans
    (.decided _ _)

theorem Staged.refuseStopping (s : State) : Staged ch s (s.refuseStopping ch) := by
  refine (Staged.refuseAddress s _).trans (.onChan _ ?_)
  split
  · exact .of_exch rfl rfl rfl rfl rfl rfl
  · exact .refl _

end Sys2Proof.Machine
end

section
/-! Data bytes on the C-side (R20, R25, R27, R42, R43, R57): O51. -/

namespace Sys2Proof.Machine

variable {s : State} {ch : Chan} {x : Exchange} {byte : Byte}

/-! ### The eighth bit of a data byte -/

/-- What another party pulls after a byte, as log entry 7 gives it. -/
def Channel.byteLines (c : Channel) (byte : Byte) : Lines :=
  { c := ⟨true, c.ext.c.data && c.staysLow byte⟩
    d := if c.mode = .monitor then ⟨false, c.ext.d.data && c.staysLow byte⟩ else c.ext.d }

/-- A data byte's eighth bit sampled, as the statement of log entries 7, 8 and 33 lists it. -/
theorem Channel.openByte_eq (c : Channel) (byte : Byte) : c.openByte byte = { c with
    ext := c.byteLines byte, dataTold := false, pull := { c.pull with c := ⟨false, false⟩ }, highPhase := true
    highData := c.lastBit, byteOpen := true, noted := false, curByte := c.lineByte byte
    exch := c.exch.map fun x => x.counted (c.lineByte byte), meters := (c.openByte byte).meters } := rfl

theorem Channel.openByte_phase (c : Channel) (byte : Byte) : (c.openByte byte).phase = c.phase := rfl

theorem Channel.openByte_stuckData (c : Channel) {byte : Byte} (h : c.staysLow byte = true) :
    (c.openByte byte).meters.stuckData = c.meters.stuckData := if_pos h

/-- The measurements of stuck lines in the clock-high of a sampled bit: none of CnCK, and that of a CnDA told low and not
pulled by the part goes on (R149). -/
theorem State.stuckMeters_clockHigh (r : State) (mode : (r.chan ch).mode ≠ .isolated)
    (high : (r.chan ch).highPhase = true) : (r.retimeAll.chan ch).meters.stuckClock = none
      ∧ ((r.chan ch).highData = false → (r.chan ch).ext.c.data = true → (r.chan ch).hold = none →
        (r.retimeAll.chan ch).meters.stuckData = some ((r.chan ch).meters.stuckData.getD
          ⟨0, (r.chan ch).settings.stuckLimit * 1000⟩)) := by
  obtain ⟨u, hu, hc⟩ : ∃ u : State, (r.retimeAll.chan ch).meters = u.metersNow ch ∧ u.chan ch = r.chan ch := by
    cases ch
    · exact ⟨r, rfl, rfl⟩
    · exact ⟨r.retime .c0, rfl, rfl⟩
  rw [hu]
  refine ⟨by simp [State.metersNow, hc, high, keepTimer], fun hd he hh => ?_⟩
  simp [State.metersNow, hc, mode, hh, State.cDataLow, Channel.cSide, Channel.cPull, high, hd, he, keepTimer, ms]

/-! ### The byte taken -/

/-- The front end takes a data byte in a phase that has one to come. -/
theorem State.exec_dataByte (ht : s.takesData ch = true) (hx : (s.chan ch).exch = some x) :
    exec (.dataByteComplete ch byte) s
      = .next ((s.onChan ch fun c => c.openByte byte).byteStage ch x).retimeAll := by
  show execDataByteComplete ch byte s = _
  unfold execDataByteComplete
  rw [if_pos ht]
  dsimp only
  rw [hx]

theorem State.exec_dataByte_none (ht : s.takesData ch = true) (hx : (s.chan ch).exch = none) :
    exec (.dataByteComplete ch byte) s = .next (s.onChan ch fun c => c.openByte byte).retimeAll := by
  show execDataByteComplete ch byte s = _
  unfold execDataByteComplete
  rw [if_pos ht]
  dsimp only
  rw [hx]

/-- An observed exchange whose action reaches the index stage (R43). -/
theorem Exchange.observesIndex_iff (x : Exchange) : x.observesIndex = true ↔ x.direction = .write
    ∧ (x.action = some .forward ∨ (∃ k, x.action = some (.emulate k)) ∨ x.action = some .console) := by
  unfold Exchange.observesIndex
  rw [Bool.and_eq_true, decide_eq_true_eq]
  refine and_congr_right fun _ => ?_
  cases x.action with
  | none => simp
  | some a => cases a <;> simp

/-- The bytes that are counted and nothing more (R27, R42, R43). -/
theorem State.byteStage_counted (u : State) (h : (u.chan ch).phase = .relayRead ∨ (u.chan ch).phase = .refused
    ∨ ((u.chan ch).phase = .localAnswer ∧ x.direction = .read)
    ∨ ((u.chan ch).phase = .observing ∧ ¬ (x.count = 0 ∧ x.observesIndex = true))) : u.byteStage ch x = u := by
  unfold State.byteStage
  dsimp only
  rcases h with h | h | ⟨h, hd⟩ | ⟨h, hr⟩ <;> rw [h]
  · exact if_pos hd
  · exact if_neg hr

/-- A later byte of a relayed WRITE (R27). -/
theorem State.byteStage_relayed (u : State) (h : (u.chan ch).phase = .relayWrite) (h0 : x.count ≠ 0) :
    u.byteStage ch x = u.onChan ch fun c => c.stretch.relayByte := by
  unfold State.byteStage
  dsimp only
  rw [h]
  dsimp only
  rw [if_neg h0, State.onChan_onChan]

/-- A later byte written to an image or to the console (R72, R82). -/
theorem State.byteStage_stored (u : State) (h : (u.chan ch).phase = .localAnswer) (hd : x.direction = .write)
    (h0 : x.count ≠ 0) : u.byteStage ch x = u.onChan ch fun c => c.answer .ack := by
  unfold State.byteStage
  dsimp only
  rw [h]
  dsimp only
  rw [if_neg (by simp [hd]), if_neg h0]

/-- The first byte of an observed WRITE whose action reaches the index stage (R43). -/
theorem State.byteStage_observed (u : State) (h : (u.chan ch).phase = .observing) (h0 : x.count = 0)
    (ho : x.observesIndex = true) : u.byteStage ch x
      = (u.indexScan ch x (u.chan ch).curByte).1.ruleTrigger (u.indexScan ch x (u.chan ch).curByte).2 := by
  unfold State.byteStage
  dsimp only
  rw [h]
  dsimp only
  rw [if_pos ⟨h0, ho⟩]

/-- The first byte of a relayed or locally answered WRITE (R25). -/
theorem State.byteStage_first (u : State) (h : (u.chan ch).phase = .relayWrite
    ∨ ((u.chan ch).phase = .localAnswer ∧ x.direction = .write)) (h0 : x.count = 0) : u.byteStage ch x
      = (u.onChan ch Channel.stretch).indexStage ch x (u.chan ch).curByte := by
  unfold State.byteStage
  dsimp only
  rcases h with h | ⟨h, hd⟩ <;> rw [h] <;> dsimp only
  · rw [if_pos h0]
  · rw [if_neg (by simp [hd]), if_pos h0]

/-! ### The index stage (R25, R56, R57) -/

/-- What an exchange keeps of its index-stage scan (R56, R58). -/
def Exchange.indexScanned (x : Exchange) (w : Option (Nat × Copy)) : Exchange :=
  { x with indexEntry := w.map fun p => p.1, recordIt := x.recordIt || recordMark w }

@[simp] theorem State.indexAct_rules (s : State) (ch : Chan) (w : Option (Nat × Copy)) :
    (s.indexAct ch w).rules = s.rules := by
  unfold State.indexAct
  (repeat' split) <;> simp

/-- What the index stage does leaves the byte that is in hand. -/
theorem Staged.indexAct (s : State) (w : Option (Nat × Copy)) : Staged ch s (s.indexAct ch w) := by
  unfold State.indexAct
  (repeat' split)
  · exact .useByte _
  · exact .refuseByte _
  · exact .beginHold _ _ _ _
  · exact .useByte _

/-! ### The outcome of the index stage (R57) -/

section
variable {v : State}

/-- A byte refused at the index stage, whose NACK was not taken before (R57, R154). -/
theorem State.refuseByte_carried (hx : (v.chan ch).exch = some x) (noted : (v.chan ch).noted = false)
    (settings : (v.chan ch).settings = (s.chan ch).settings) (health : (v.chan ch).health = (s.chan ch).health)
    (arb : (v.chan ch).arb = (s.chan ch).arb) (dOp : (v.chan ch).dOp = (s.chan ch).dOp)
    (pull : (v.chan ch).pull.d = (s.chan ch).pull.d) :
    Carried ch true false .deny x s (v.refuseByte ch).retimeAll := by
  obtain ⟨hexch, hnacks⟩ := (v.chan ch).nackNoted_fresh x noted
  obtain ⟨-, hpull, -, hop⟩ := Channel.nackNoted_keeps x (v.chan ch)
  have harb : ((v.chan ch).nackNoted x).arb = (v.chan ch).arb := by
    unfold Channel.nackNoted
    split <;> rfl
  unfold Carried
  dsimp only
  rw [if_pos rfl, State.refuseByte, v.noteNack_eq ch hx, State.onChan_onChan, State.chan_onChan_retimeAll]
  refine ⟨rfl, rfl, ?_, hexch, harb.trans arb, hop.trans dOp, (congrArg _ hpull).trans pull⟩
  refine (congrArg Stats.dataNacks hnacks).trans ?_
  simp [nacksAfter, settings, health]

/-- A byte used at the index stage (R57). -/
theorem State.useByte_carried (hx : (v.chan ch).exch = some x) :
    Carried ch true false .resume x s (v.useByte ch).retimeAll := by
  have used := State.apply_carried (s := v) (ch := ch) (p := .resume) (g := id) nofun hx rfl
  rwa [State.onChan_self (h := rfl)] at used

end

/-! ### The byte and nothing more -/

/-- What the measurements of a channel's lines are taken from, once a data byte is sampled. -/
structure Channel.SampledByte (c : Channel) (byte : Byte) (d : Channel) : Prop where
  mode : d.mode = c.mode
  settings : d.settings = c.settings
  hold : d.hold = c.hold
  highPhase : d.highPhase = true
  highData : d.highData = c.lastBit
  data : d.ext.c.data = (c.ext.c.data && c.staysLow byte)
  meters : d.meters = (c.openByte byte).meters

theorem Channel.SampledByte.openByte (c : Channel) (byte : Byte) : c.SampledByte byte (c.openByte byte) :=
  ⟨rfl, rfl, rfl, rfl, rfl, rfl, rfl⟩

theorem Channel.SampledByte.answer {c d : Channel} (h : c.SampledByte byte d) (bit : AckBit) :
    c.SampledByte byte (d.answer bit) :=
  ⟨h.mode, h.settings, h.hold, h.highPhase, h.highData, h.data, h.meters⟩

theorem Channel.SampledByte.relayByte {c d : Channel} (h : c.SampledByte byte d) :
    c.SampledByte byte d.stretch.relayByte :=
  ⟨h.mode, h.settings, h.hold, h.highPhase, h.highData, h.data, h.meters⟩

/-- The measurements of stuck lines after a data byte (R149). -/
theorem State.openByte_measured {f : Channel → Channel} (mode : (s.chan ch).mode ≠ .isolated)
    (hf : (s.chan ch).SampledByte byte (f (s.chan ch))) :
    ((s.onChan ch f).retimeAll.chan ch).meters.stuckClock = none
      ∧ ((s.chan ch).staysLow byte = true → (s.chan ch).lastBit = false → (s.chan ch).ext.c.data = true →
        (s.chan ch).hold = none → ((s.onChan ch f).retimeAll.chan ch).meters.stuckData
          = some ((s.chan ch).meters.stuckData.getD ⟨0, (s.chan ch).settings.stuckLimit * 1000⟩)) := by
  have facts := State.stuckMeters_clockHigh (ch := ch) (s.onChan ch f)
  rw [State.chan_onChan_same, hf.mode, hf.highPhase, hf.highData, hf.data, hf.hold, hf.meters, hf.settings] at facts
  obtain ⟨clock, data⟩ := facts mode rfl
  refine ⟨clock, fun low last told held => ?_⟩
  rw [data last (Bool.and_eq_true_iff.2 ⟨told, low⟩) held, Channel.openByte_stuckData _ low]

/-- A data byte completes on a channel that knows where bytes begin and takes them (R21, R31, R149). -/
structure State.DataDue (s : State) (ch : Chan) : Prop where
  reset : s.inReset = false
  sync : (s.chan ch).sync = .synced
  stuck : (s.chan ch).health.stuckC = false
  mode : (s.chan ch).mode ≠ .isolated
  opened : (s.chan ch).byteOpen = false
  low : (s.chan ch).pull.c.clock = false
  kept : (s.chan ch).deferred = []

/-- The phases of an exchange in which a data byte may come. -/
theorem State.DataDue.takes (due : s.DataDue ch) (hx : (s.chan ch).exch = some x)
    (phase : (s.chan ch).phase ∈ [.relayWrite, .relayRead, .localAnswer, .observing, .refused]) :
    s.takesData ch = true := by
  obtain ⟨reset, sync, stuck, mode, opened, low, kept⟩ := due
  unfold State.takesData
  simp only [List.mem_cons, List.not_mem_nil, or_false] at phase
  rcases phase with h | h | h | h | h <;> simp [Channel.begins, Channel.framing, *]

/-- In REFUSED a data byte may come with no exchange in flight. -/
theorem State.DataDue.takes_refused (due : s.DataDue ch) (phase : (s.chan ch).phase = .refused) :
    s.takesData ch = true := by
  obtain ⟨reset, sync, stuck, mode, opened, low, kept⟩ := due
  unfold State.takesData
  simp [Channel.begins, Channel.framing, *]

/-- The channel of a data byte that is scanned: its byte sampled, the exchange marked by the scan (R56, R58). -/
def Channel.byteScanned (c : Channel) (byte : Byte) (w : Option (Nat × Copy)) : Channel :=
  { c.openByte byte with exch := (c.openByte byte).exch.map fun y => y.indexScanned w }

/-- The index-stage scan of data byte `byte` of exchange `x`. -/
def State.byteScan (s : State) (ch : Chan) (x : Exchange) (byte : Byte) : Scan :=
  scanFrom (indexCandidate ch x.address ((s.chan ch).lineByte byte)) 0 s.rules

/-- An index-stage scan on a channel just changed changes the table, and the exchange in flight. -/
theorem State.indexScan_onChan (f : Channel → Channel) (b : Byte) :
    (s.onChan ch f).indexScan ch x b
      = ((s.withRules (scanFrom (indexCandidate ch x.address b) 0 s.rules).rules).onChan ch fun c =>
          { f c with exch := (f c).exch.map fun y =>
              y.indexScanned (scanFrom (indexCandidate ch x.address b) 0 s.rules).winner },
        (scanFrom (indexCandidate ch x.address b) 0 s.rules).winner) := by
  cases ch <;> rfl

/-- The byte a scan sees is the one just sampled, as the line carried it. -/
theorem State.curByte_opened : ((s.onChan ch fun c => c.openByte byte).chan ch).curByte = (s.chan ch).lineByte byte :=
  congrArg Channel.curByte (s.chan_onChan_same ch _)

theorem State.phase_opened : ((s.onChan ch fun c => c.openByte byte).chan ch).phase = (s.chan ch).phase :=
  (congrArg Channel.phase (s.chan_onChan_same ch _)).trans (Channel.openByte_phase _ _)

theorem State.exec_observedByte (takes : s.takesData ch = true) (hx : (s.chan ch).exch = some x)
    (phase : (s.chan ch).phase = .observing) (h0 : x.count = 0) (ho : x.observesIndex = true) :
    exec (.dataByteComplete ch byte) s = .next (((s.withRules (s.byteScan ch x byte).rules).onChan ch fun c =>
      c.byteScanned byte (s.byteScan ch x byte).winner).ruleTrigger (s.byteScan ch x byte).winner).retimeAll := by
  rw [State.exec_dataByte takes hx, State.byteStage_observed _ (State.phase_opened.trans phase) h0 ho,
    State.curByte_opened, State.indexScan_onChan]
  rfl

theorem State.exec_firstByte (takes : s.takesData ch = true) (hx : (s.chan ch).exch = some x)
    (phase : (s.chan ch).phase = .relayWrite ∨ ((s.chan ch).phase = .localAnswer ∧ x.direction = .write))
    (h0 : x.count = 0) :
    exec (.dataByteComplete ch byte) s = .next ((((s.withRules (s.byteScan ch x byte).rules).onChan ch fun c =>
      (c.byteScanned byte (s.byteScan ch x byte).winner).stretch).ruleTrigger
        (s.byteScan ch x byte).winner).indexAct ch (s.byteScan ch x byte).winner).retimeAll := by
  rw [State.exec_dataByte takes hx, State.byteStage_first _ (by rwa [State.phase_opened]) h0,
    State.curByte_opened, State.onChan_onChan, State.indexStage, State.indexScan_onChan]
  rfl

theorem Exchange.counted_indexScanned (x : Exchange) (b : Byte) (w : Option (Nat × Copy)) :
    (x.counted b).indexScanned w = { (x.counted b) with
      indexEntry := w.map Prod.fst
      recordIt := x.recordIt || (match w with
        | none => false
        | some (_, w) => (w.head.map fun h => h.record).getD false) } := by
  unfold Exchange.indexScanned recordMark
  cases w with
  | none => rfl
  | some p => cases h : p.2.head <;> simp [h] <;> rfl

/-- Settles O51: the byte sampled is the same step in every phase; what follows it is the byte stage of the phase, and at
the index stage the outcome of the scan's winner. -/
theorem dataBytes : Obligations.DataBytes := by
  intro s ch byte c reset sync stuck mode opened low kept i b lowB opd measured
  have due : s.DataDue ch := ⟨reset, sync, stuck, mode, opened, low, kept⟩
  refine ⟨fun hp hx => ⟨_, State.exec_dataByte_none (due.takes_refused hp) hx, s.onlyChannel_onChan ch _, ?_,
    State.openByte_measured mode (.openByte _ _)⟩, ?_⟩
  · rw [State.chan_onChan_retimeAll, Channel.openByte_eq, show (s.chan ch).exch = none from hx]
    rfl
  intro x hx y plain r z quiet reaches
  have phase : ((s.onChan ch fun c => c.openByte byte).chan ch).phase = c.phase := by
    rw [State.chan_onChan_same]; rfl
  have sampled : ((s.onChan ch fun c => c.openByte byte).chan ch).curByte = b := by
    rw [State.chan_onChan_same]; rfl
  have counted : c.openByte byte = { opd with exch := some y, meters := (c.openByte byte).meters } := by
    rw [Channel.openByte_eq, show c.exch = _ from hx]
    rfl
  have hz : (x.counted b).indexScanned r.winner = z := Exchange.counted_indexScanned x b r.winner
  have scanned : c.byteScanned byte r.winner = { opd with exch := some z, meters := (c.openByte byte).meters } := by
    rw [← hz]
    unfold Channel.byteScanned
    rw [counted]
    rfl
  let V := (s.withRules r.rules).onChan ch fun c => c.byteScanned byte r.winner
  have here : V.chan ch = { opd with exch := some z, meters := (c.openByte byte).meters } := by
    rw [State.chan_onChan_same, State.withRules_chan]
    exact scanned
  let W := (s.withRules r.rules).onChan ch fun c => (c.byteScanned byte r.winner).stretch
  have stretched : W.chan ch = { opd with
      exch := some z, meters := (c.openByte byte).meters, pull := { c.pull with c := ⟨true, false⟩ } } := by
    rw [State.chan_onChan_same, State.withRules_chan]
    exact congrArg Channel.stretch scanned
  have alone : ∀ (f : Channel → Channel) (d : Channel), c.SampledByte byte (f c) →
      f c = { d with exch := some y, meters := (f c).meters } → plain (s.onChan ch f).retimeAll d := fun f d hf hd =>
    ⟨s.onlyChannel_onChan ch f, State.openByte_measured mode hf,
      (s.chan_onChan_retimeAll ch f).trans (congrArg (fun e : Channel =>
        { e with meters := ((s.onChan ch f).retimeAll.chan ch).meters }) hd)⟩
  refine ⟨fun hp => ?_, fun hp hr => ?_, fun hp h0 => ?_, fun hp hd h0 => ?_, fun hp h0 => ?_⟩
  case refine_1 =>
    have takes : s.takesData ch = true := due.takes hx (by
      rcases hp with h | h | ⟨h, -⟩ | ⟨h, -⟩ <;> simp [show (s.chan ch).phase = _ from h])
    refine ⟨_, State.exec_dataByte takes hx, ?_⟩
    rw [State.byteStage_counted]
    · exact alone _ _ (.openByte _ _) counted
    · rw [phase]
      exact hp.imp_right (Or.imp_right (Or.imp_right (And.imp_right fun h k => h ⟨k.1, x.observesIndex_iff.1 k.2⟩)))
  case refine_2 =>
    have taken : exec i s = .next (V.ruleTrigger r.winner).retimeAll :=
      State.exec_observedByte (due.takes hx (by simp [show (s.chan ch).phase = _ from hp])) hx hp hr.1
        (x.observesIndex_iff.2 hr.2)
    refine ⟨_, taken, ?_⟩
    have routed := (V.ruleTrigger_routed r.winner ch).eq
    rw [here] at routed
    refine ⟨by simp [V], ?_, ?_, ?_, ?_, ?_, fun hq => ?_⟩
    · rw [State.retimeAll_chan_exch, routed]
    · rw [State.retimeAll_chan_phase, routed]
      exact hp
    · rw [State.retimeAll_chan_byteOpen, routed]
    · rw [State.retimeAll_chan_curByte, routed]
    · rw [State.retimeAll_chan_pull, routed]
    · rw [State.ruleTrigger_untriggered hq]
      refine ⟨State.onlyChannel_onChan _ ch _, (State.chan_onChan_retimeAll _ ch _).trans ?_⟩
      rw [State.withRules_chan, scanned]
  case refine_3 =>
    refine ⟨_, State.exec_dataByte (due.takes hx (by simp [show (s.chan ch).phase = _ from hp])) hx, ?_⟩
    rw [State.byteStage_relayed _ (phase.trans hp) h0, State.onChan_onChan]
    refine alone _ _ (Channel.SampledByte.openByte _ _).relayByte ?_
    rw [State.retimeAll_chan_dSpan, State.chan_onChan_same, counted]
    simp [Channel.relayByte, Channel.beginD, Channel.stretch, Channel.inUse, opd, hp]
  case refine_4 =>
    refine ⟨_, State.exec_dataByte (due.takes hx (by simp [show (s.chan ch).phase = _ from hp])) hx, ?_⟩
    rw [State.byteStage_stored _ (phase.trans hp) hd h0, State.onChan_onChan]
    refine alone _ _ ((Channel.SampledByte.openByte _ _).answer .ack) ?_
    rw [counted]
    rfl
  case refine_5 =>
    have taken : exec i s = .next ((W.ruleTrigger r.winner).indexAct ch r.winner).retimeAll :=
      State.exec_firstByte (due.takes hx (by
        rcases hp with h | ⟨h, -⟩ <;> simp [show (s.chan ch).phase = _ from h])) hx hp h0
    have stays := ((Staged.ruleTrigger (ch := ch) W r.winner).trans (.indexAct _ r.winner)).here
    refine ⟨_, taken, by simp [W], ?_, ?_, fun hq => ?_⟩
    · rw [State.retimeAll_chan_byteOpen, stays.byteOpen, stretched]
    · rw [State.retimeAll_chan_curByte, stays.curByte, stretched]
    have exch : (W.chan ch).exch = some z := congrArg Channel.exch stretched
    rw [State.ruleTrigger_untriggered hq]
    refine ⟨fun hw => ?_, fun k h v m hw => ?_, fun k h v m tm hw => ?_⟩
    · have used : W.indexAct ch r.winner = W.useByte ch := by
        rcases hw with hw | ⟨k, h, v, m, hw⟩ <;> rw [hw] <;> rfl
      rw [used]
      exact ⟨State.useByte_carried exch, by simp [W]⟩
    · rw [hw]
      refine ⟨State.refuseByte_carried exch ?_ ?_ ?_ ?_ ?_ ?_, by simp [W, State.indexAct]⟩ <;> rw [stretched]
    · rw [hw]
      refine (State.beginHold_holds ⟨by simp [W], by simp [W], by simp [W]⟩ exch ?_ ?_ ?_ ?_).1.retimeAll
      all_goals rw [stretched]
      rfl

end Sys2Proof.Machine
end

section
/-! The address byte: what the front end makes of it and what its address stage decides (R20 to R26, R53, R88): O49. -/

namespace Sys2Proof.Machine

variable {s v : State} {ch : Chan} {x : Exchange} {byte : Byte}

/-! ### The eighth bit of an address byte -/

/-- An address byte's eighth bit sampled, as the statement of log entries 7 and 8 lists it. -/
theorem Channel.sampleByte_eq (c : Channel) (byte : Byte) : c.sampleByte byte = { c with
    ext := c.byteLines byte, dataTold := false, highPhase := true, highData := c.pull.c.data
    meters := (c.sampleByte byte).meters } := rfl

theorem State.exec_followedByte (reset : s.inReset = false) (sync : (s.chan ch).sync = .synced)
    (stuck : (s.chan ch).health.stuckC = true) (mode : (s.chan ch).mode ≠ .isolated)
    (opened : (s.chan ch).byteOpen = false) (low : (s.chan ch).pull.c.clock = false) {i : Instr}
    (hi : i = .addressByteComplete ch byte ∨ i = .dataByteComplete ch byte) :
    exec i s = .next (s.onChan ch fun c => c.followByte byte).retimeAll := by
  have follows : s.followsByte ch = true := by simp [State.followsByte, Channel.framing, *]
  have begins : (s.chan ch).begins = false := by simp [Channel.begins, stuck]
  rcases hi with rfl | rfl
  · show execAddressByteComplete ch byte s = _
    unfold execAddressByteComplete
    rw [if_neg (by simp [State.takesAddress, begins]), if_neg (by simp [State.keepsAddress, begins]), if_pos follows]
  · show execDataByteComplete ch byte s = _
    unfold execDataByteComplete
    rw [if_neg (by simp [State.takesData, begins]), if_pos follows]

/-- An address byte completes on a channel that knows where bytes begin and begins exchanges (R21, R149). -/
structure State.AddressDue (s : State) (ch : Chan) : Prop where
  reset : s.inReset = false
  sync : (s.chan ch).sync = .synced
  stuck : (s.chan ch).health.stuckC = false
  opened : (s.chan ch).byteOpen = false

theorem State.AddressDue.begins (due : s.AddressDue ch) : (s.chan ch).begins = true := by
  simp [Channel.begins, Channel.framing, due.sync, due.stuck]

/-- Behind a START kept to the end of a D-side bit (R31). -/
theorem State.AddressDue.exec_kept (due : s.AddressDue ch) (mode : (s.chan ch).mode = .active) {l : List Kept}
    {inByte : Bool} {time : Tick} (kept : (s.chan ch).deferred = l ++ [.cond .start inByte time]) :
    exec (.addressByteComplete ch byte) s = .next (s.onChan ch fun c => c.keepAddress byte).retimeAll := by
  have keeps : s.keepsAddress ch = true := by
    simp [State.keepsAddress, Channel.keptStart, due.reset, due.begins, due.opened, mode, kept]
  show execAddressByteComplete ch byte s = _
  unfold execAddressByteComplete
  rw [if_neg (by simp [State.takesAddress, kept]), if_pos keeps]

theorem State.AddressDue.exec_taken (due : s.AddressDue ch) (none : (s.chan ch).exch = none)
    (kept : (s.chan ch).deferred = []) (phase : ((s.chan ch).mode = .active ∧ (s.chan ch).phase = .address)
      ∨ ((s.chan ch).mode = .monitor ∧ (s.chan ch).phase = .observing)) : exec (.addressByteComplete ch byte) s
        = .next ((s.onChan ch fun c => c.sampleByte byte).takeAddress ch byte).retimeAll := by
  have takes : s.takesAddress ch = true := by
    simp [State.takesAddress, due.reset, due.begins, due.opened, none, kept, phase]
  show execAddressByteComplete ch byte s = _
  unfold execAddressByteComplete
  rw [if_pos takes]

/-! ### The exchange and its lookup -/

/-- The address and the direction of an address byte (R20), as numbers. -/
theorem newExchange_eq (c : Channel) (byte : Byte) : newExchange c byte =
    { address := BitVec.ofNat 7 (byte.toNat / 2), direction := if byte.toNat % 2 = 1 then .read else .write
      disposition := none, action := none, addressEntry := none, indexEntry := none
      recordIt := c.settings.defaultRecord, addressAck := none, count := 0, shown := [], firstNack := none
      startTime := c.startTick, misframe := false, onImage := none, stored := false } := by
  have address : (byte >>> 1).setWidth 7 = BitVec.ofNat 7 (byte.toNat / 2) := by
    apply BitVec.eq_of_toNat_eq
    simp [Nat.shiftRight_eq_div_pow]
  have direction : byte.getLsbD 0 = decide (byte.toNat % 2 = 1) := by
    simp [BitVec.getLsbD, Nat.testBit_zero]
  rw [newExchange, address, direction]
  simp

/-- The lookup of address byte `byte` on channel `ch` (R51). -/
def State.lookup (s : State) (ch : Chan) (byte : Byte) : Scan :=
  scanFrom (addressCandidate ch (newExchange (s.chan ch) byte).address (newExchange (s.chan ch) byte).direction) 0
    s.rules

/-- The exchange of an address byte once looked up (R20, R54, R58). -/
def Channel.newScanned (c : Channel) (byte : Byte) (w : Option (Nat × Copy)) : Exchange :=
  (newExchange c byte).scanned (addressAction c w) w

theorem Channel.newScanned_eq {c : Channel} {w : Option (Nat × Copy)} {a : AddrAction} : newExchange c byte = x →
    addressAction c w = a → c.newScanned byte w = { x with
      action := some a, addressEntry := w.map Prod.fst
      recordIt := match w with
        | none => c.settings.defaultRecord
        | some (_, w) => (w.head.map fun h => h.record).getD false } := by
  rintro rfl rfl
  unfold Channel.newScanned Exchange.scanned recordMark
  cases w with
  | none => rfl
  | some p => cases h : p.2.head <;> simp [h]

/-- The channel of an address byte looked up, its eighth bit sampled (R21, R54). -/
def Channel.lookedUp (c : Channel) (byte : Byte) (w : Option (Nat × Copy)) : Channel :=
  let d := (c.sampleByte byte).openExchange byte
  { d with exch := d.exch.map fun x => x.scanned (addressAction c w) w }

theorem Channel.lookedUp_observed (c : Channel) (mode : c.mode = .monitor) (w : Option (Nat × Copy)) :
    c.lookedUp byte w = { c with
      ext := c.byteLines byte, dataTold := false, highPhase := true, highData := c.pull.c.data
      byteOpen := true, noted := false, exch := some { c.newScanned byte w with disposition := some .observed }
      meters := (c.sampleByte byte).meters } := by
  have seen : (c.sampleByte byte).mode = .monitor := mode
  unfold Channel.lookedUp Channel.openExchange
  dsimp only
  rw [if_pos seen]
  rfl

theorem Channel.openExchange_active (c : Channel) (mode : c.mode ≠ .monitor) : c.openExchange byte = { c with
    byteOpen := true, noted := false, phase := .decide, pull := { c.pull with c := ⟨true, false⟩ }
    exch := some (newExchange c byte) } := by
  unfold Channel.openExchange
  dsimp only
  rw [if_neg mode]
  rfl

theorem Channel.sampleByte_active (c : Channel) (mode : c.mode = .active) : (c.sampleByte byte).mode ≠ .monitor := by
  show c.mode ≠ _
  rw [mode]
  exact nofun

theorem Channel.lookedUp_active (c : Channel) (mode : c.mode = .active) (w : Option (Nat × Copy)) :
    c.lookedUp byte w = { c with
      ext := c.byteLines byte, dataTold := false, highPhase := true, highData := c.pull.c.data
      byteOpen := true, noted := false, exch := some (c.newScanned byte w), phase := .decide
      pull := { c.pull with c := ⟨true, false⟩ }, meters := (c.sampleByte byte).meters } := by
  unfold Channel.lookedUp
  rw [Channel.openExchange_active _ (c.sampleByte_active mode)]
  rfl

/-- A change of a channel is what it makes of that channel. -/
theorem State.onChan_congr {f g : Channel → Channel} (h : f (s.chan ch) = g (s.chan ch)) :
    s.onChan ch f = s.onChan ch g := by
  unfold State.onChan
  rw [h]

/-- An address-stage scan on a channel just changed changes the table, and the exchange in flight. -/
theorem State.addressScan_onChan (f : Channel → Channel) :
    (s.onChan ch f).addressScan ch x
      = ((s.withRules (scanFrom (addressCandidate ch x.address x.direction) 0 s.rules).rules).onChan ch fun c =>
          { f c with exch := (f c).exch.map fun y =>
              y.scanned (addressAction (f (s.chan ch)) (scanFrom (addressCandidate ch x.address x.direction) 0
                s.rules).winner) (scanFrom (addressCandidate ch x.address x.direction) 0 s.rules).winner },
        (scanFrom (addressCandidate ch x.address x.direction) 0 s.rules).winner) := by
  cases ch <;> rfl

theorem Channel.openExchange_kept (c : Channel) (byte : Byte) :
    (c.openExchange byte).settings = c.settings ∧ (c.openExchange byte).park = c.park := by
  unfold Channel.openExchange
  dsimp only
  split <;> exact ⟨rfl, rfl⟩

/-- A sampled address byte's channel has the default action and the park flag it had. -/
theorem addressAction_sampled (c : Channel) (byte : Byte) (w : Option (Nat × Copy)) :
    addressAction ((c.sampleByte byte).openExchange byte) w = addressAction c w := by
  unfold addressAction
  rw [(Channel.openExchange_kept _ byte).1]
  rfl

theorem Channel.park_sampled (c : Channel) (byte : Byte) : ((c.sampleByte byte).openExchange byte).park = c.park :=
  (Channel.openExchange_kept _ byte).2

/-- The lookup of an address byte just sampled. -/
theorem State.addressScan_sampled :
    (s.onChan ch fun c => (c.sampleByte byte).openExchange byte).addressScan ch (newExchange (s.chan ch) byte)
      = ((s.withRules (s.lookup ch byte).rules).onChan ch fun c => c.lookedUp byte (s.lookup ch byte).winner,
        (s.lookup ch byte).winner) := by
  rw [State.addressScan_onChan, addressAction_sampled]
  refine congrArg (fun u => (u, _)) (State.onChan_congr ?_)
  rw [State.withRules_chan]
  rfl

theorem newExchange_sampleByte (c : Channel) (byte : Byte) : newExchange (c.sampleByte byte) byte = newExchange c byte :=
  rfl

/-- An address byte observed in MONITOR (R43). -/
theorem State.takeAddress_observed (mode : (s.chan ch).mode = .monitor) :
    (s.onChan ch fun c => c.sampleByte byte).takeAddress ch byte
      = ((s.withRules (s.lookup ch byte).rules).onChan ch fun c =>
          c.lookedUp byte (s.lookup ch byte).winner).ruleTrigger (s.lookup ch byte).winner := by
  unfold State.takeAddress
  rw [if_pos (by rw [State.chan_onChan_same]; exact mode), State.lookAddress, State.chan_onChan_same,
    State.onChan_onChan, newExchange_sampleByte, State.addressScan_sampled]

/-- The channel whose address stage decides: looked up, its park flag used (R54, R90). -/
def Channel.addressTaken (c : Channel) (byte : Byte) (w : Option (Nat × Copy)) : Channel :=
  { c.lookedUp byte w with park := false }

/-- An address byte taken in ACTIVE outside STOPPING: the scan, its occurrence, and what is decided (R22, R54). -/
theorem State.takeAddress_decided (mode : (s.chan ch).mode = .active) (supply : s.supply.state ≠ .stopping) :
    (s.onChan ch fun c => c.sampleByte byte).takeAddress ch byte
      = (((s.withRules (s.lookup ch byte).rules).onChan ch fun c =>
          c.addressTaken byte (s.lookup ch byte).winner).ruleTrigger (s.lookup ch byte).winner).decided ch
            (addressNext (addressAction (s.chan ch) (s.lookup ch byte).winner) (s.lookup ch byte).winner
              (s.chan ch).park) := by
  have seen := (s.chan ch).sampleByte_active (byte := byte) mode
  unfold State.takeAddress
  rw [State.chan_onChan_same, if_neg seen, if_neg (by rwa [State.onChan_supply]), State.addressStage,
    State.onChan_onChan, newExchange_sampleByte, State.addressScan_sampled]
  dsimp only
  rw [State.onChan_onChan, State.chan_onChan_same, addressAction_sampled, Channel.park_sampled]
  rfl

/-- An address byte that STOPPING refuses (R22, R32). -/
theorem State.takeAddress_stopping (mode : (s.chan ch).mode = .active) (supply : s.supply.state = .stopping) :
    (s.onChan ch fun c => c.sampleByte byte).takeAddress ch byte
      = (s.onChan ch fun c => (c.sampleByte byte).openExchange byte).refuseStopping ch := by
  have seen := (s.chan ch).sampleByte_active (byte := byte) mode
  unfold State.takeAddress
  rw [State.chan_onChan_same, if_neg seen, if_pos (by rwa [State.onChan_supply]), State.onChan_onChan]

/-! ### What is decided (R22, R88, R89) -/

/-- A hold is the action of an entry only (R53). -/
theorem addressAction_hold {c : Channel} {w : Option (Nat × Copy)} {tm : TimeoutAction}
    (h : addressAction c w = .hold tm) : ∃ k e, w = some (k, e) := by
  cases w with
  | none =>
    unfold addressAction at h
    cases hd : c.settings.defaultAction <;> rw [hd] at h <;> cases h
  | some p => exact ⟨_, _, rfl⟩

theorem addressNext_plain {a : AddrAction} (h : ¬ ∃ tm, a = .hold tm) (w : Option (Nat × Copy)) (b : Bool) :
    addressNext a w b = if b then .hold .park a.planned .planned else .apply a.planned := by
  unfold addressNext
  split
  · exact absurd ⟨_, rfl⟩ h
  · rfl

/-- FORWARD at once: not for a hold and not under the park flag (R22, R89). -/
theorem addressNext_forward_iff (c : Channel) (w : Option (Nat × Copy)) (b : Bool) :
    addressNext (addressAction c w) w b = .apply .forward
      ↔ (addressAction c w).planned = .forward ∧ (¬ ∃ tm, addressAction c w = .hold tm) ∧ b = false := by
  by_cases h : ∃ tm, addressAction c w = .hold tm
  · obtain ⟨tm, ha⟩ := h
    obtain ⟨k, e, rfl⟩ := addressAction_hold ha
    rw [ha]
    simp [addressNext]
  · rw [addressNext_plain h]
    cases b <;> simp [h]

/-- What was decided is begun where the D-side need not be closed for it first. -/
theorem State.decided_begun {n : NextAct}
    (h : n = .apply .forward ∨ ((v.chan ch).relayOpen = false ∧ (v.chan ch).closesHere = false)) :
    v.decided ch n = v.takeNext ch n := by
  unfold State.decided
  rcases h with h | ⟨h, h'⟩
  · rw [if_pos h]
  · rw [h, h']
    simp

/-- The channel whose decision waits for the closing of the D-side (R26). -/
def Channel.waiting (c : Channel) (n : NextAct) : Channel :=
  if c.relayOpen then { c.beginStop true with nextAct := some n } else { c with nextAct := some n }

theorem Channel.waiting_facts (c : Channel) (n : NextAct) :
    (c.waiting n).dOp = (if c.relayOpen then .stop true else c.dOp) ∧ (c.waiting n).exch = c.exch
      ∧ (c.waiting n).phase = c.phase ∧ (c.waiting n).pull.c = c.pull.c ∧ (c.waiting n).park = c.park
      ∧ (c.waiting n).nextAct = some n := by
  unfold Channel.waiting
  split <;> exact ⟨rfl, rfl, rfl, rfl, rfl, rfl⟩

/-- What was decided waits where the D-side is closed for it first (log entry 10). -/
theorem State.decided_kept {n : NextAct} (hn : n ≠ .apply .forward)
    (h : (v.chan ch).relayOpen = true ∨ (v.chan ch).closesHere = true) :
    v.decided ch n = v.onChan ch fun c => c.waiting n := by
  unfold State.decided
  rw [if_neg hn]
  by_cases ho : (v.chan ch).relayOpen = true
  · rw [if_pos ho]
    exact State.onChan_congr (if_pos ho).symm
  · rw [if_neg ho, if_pos (h.resolve_left ho)]
    exact State.onChan_congr (if_neg ho).symm

theorem Channel.closesHere_iff (c : Channel) :
    c.closesHere = true ↔ c.arb.holder = .relay ∧ (c.dOp = .stop true ∨ c.dOp = .closing true) := by
  unfold Channel.closesHere
  cases c.dOp <;> simp

/-! ### What is carried out at once -/

/-- A disposition carried out changes its own channel alone, and not its park flag. -/
theorem State.apply_alone (v : State) (ch : Chan) (p : Planned) :
    ∃ f : Channel → Channel, v.apply ch p = v.onChan ch f ∧ (f (v.chan ch)).park = (v.chan ch).park := by
  have refuse : ∀ d, ∃ f : Channel → Channel, v.refuseAddress ch d = v.onChan ch f
      ∧ (f (v.chan ch)).park = (v.chan ch).park := fun d => ⟨_, rfl, rfl⟩
  cases p with
  | forward =>
    unfold State.apply State.applyForward
    refine ⟨_, rfl, ?_⟩
    dsimp only
    split
    · rfl
    · unfold Channel.askRelay
      dsimp only
      split <;> rfl
  | deny => exact refuse _
  | resume =>
    unfold State.apply State.useByte
    refine ⟨_, rfl, ?_⟩
    dsimp only
    (repeat' split) <;> rfl
  | emulate k =>
    unfold State.apply State.applyEmulate
    dsimp only
    split
    · exact refuse _
    · exact ⟨_, rfl, rfl⟩
  | console =>
    unfold State.apply State.applyConsole
    dsimp only
    (repeat' split)
    · exact refuse _
    · exact refuse _
    · exact ⟨_, rfl, rfl⟩

/-- The channel of an exchange that is forwarded (R23). -/
def Channel.forwarded (c : Channel) : Channel :=
  { c with exch := c.exch.map fun x => { x with disposition := some .forwarded } }

theorem State.applyForward_eq (v : State) (ch : Chan) : v.applyForward ch = v.onChan ch fun c =>
    if c.relayOpen then c.forwarded.restartRelay else c.forwarded.askRelay := rfl

/-- FORWARD carried out on a channel whose D-side is where that of `s` is (R23). -/
theorem State.applyForward_carried (hx : (v.chan ch).exch = some x) (arb : (v.chan ch).arb = (s.chan ch).arb)
    (dOp : (v.chan ch).dOp = (s.chan ch).dOp) (settings : (v.chan ch).settings = (s.chan ch).settings)
    (free : (v.chan ch).seenFree = (s.chan ch).seenFree) (health : (v.chan ch).health = (s.chan ch).health)
    {atIndex noted : Bool} : Carried ch atIndex noted .forward x s (v.applyForward ch).retimeAll := by
  have open_iff : (v.chan ch).relayOpen = (s.chan ch).relayOpen := by
    unfold Channel.relayOpen
    rw [arb, dOp]
  have grantable : (v.chan ch).grantable = (s.chan ch).grantable := by
    unfold Channel.grantable
    rw [arb, free, health]
  unfold Carried
  dsimp only
  rw [State.applyForward_eq, State.chan_onChan_retimeAll, ← open_iff, ← grantable, ← arb, ← settings]
  have marked : (v.chan ch).forwarded.exch = some { x with disposition := some .forwarded } := by
    rw [Channel.forwarded, hx]
    rfl
  by_cases ho : (v.chan ch).relayOpen = true
  · have holder : (v.chan ch).arb.holder = .relay := by
      simpa using (Bool.and_eq_true_iff.1 ho).1
    rw [if_pos ho, if_pos (Or.inl ho)]
    exact ⟨marked, rfl, holder, rfl⟩
  · rw [if_neg ho]
    unfold Channel.askRelay
    dsimp only
    by_cases hg : (v.chan ch).grantable = true ∧ (v.chan ch).arb.engineWaits = false
    · have asks : ((v.chan ch).forwarded.grantable && !(v.chan ch).forwarded.arb.engineWaits) = true :=
        Bool.and_eq_true_iff.2 ⟨hg.1, Bool.not_eq_true' _ ▸ hg.2⟩
      rw [if_pos (Or.inr hg), if_pos asks]
      exact ⟨marked, rfl, rfl, rfl⟩
    · have asks : ¬ ((v.chan ch).forwarded.grantable && !(v.chan ch).forwarded.arb.engineWaits) = true := fun h => by
        obtain ⟨h1, h2⟩ := Bool.and_eq_true_iff.1 h
        exact hg ⟨h1, Bool.not_eq_true' _ ▸ h2⟩
      have neither : ¬ ((v.chan ch).relayOpen = true
        ∨ ((v.chan ch).grantable = true ∧ (v.chan ch).arb.engineWaits = false)) := fun h => h.elim ho hg
      rw [if_neg neither, if_neg asks]
      exact ⟨marked, rfl, rfl, rfl, rfl⟩

/-! ### The state in which the address stage decides -/

/-- The state in which what was decided is begun: the table scanned, the channel looked up (R54). -/
def State.addressReady (s : State) (ch : Chan) (byte : Byte) : State :=
  (s.withRules (s.lookup ch byte).rules).onChan ch fun c => c.addressTaken byte (s.lookup ch byte).winner

/-- A channel at its decision, of which `c` was the channel and `x` is the exchange (R21, R22). -/
structure Channel.Deciding (c : Channel) (x : Exchange) (d : Channel) : Prop where
  exch : d.exch = some x
  phase : d.phase = .decide
  pull : d.pull.c = ⟨true, false⟩
  park : d.park = false
  settings : d.settings = c.settings
  health : d.health = c.health
  arb : d.arb = c.arb
  dOp : d.dOp = c.dOp
  seenFree : d.seenFree = c.seenFree
  byteOpen : d.byteOpen = true

theorem State.addressReady_deciding (mode : (s.chan ch).mode = .active) :
    (s.chan ch).Deciding ((s.chan ch).newScanned byte (s.lookup ch byte).winner) ((s.addressReady ch byte).chan ch) := by
  rw [State.addressReady, State.chan_onChan_same, State.withRules_chan, Channel.addressTaken,
    Channel.lookedUp_active _ mode]
  exact ⟨rfl, rfl, rfl, rfl, rfl, rfl, rfl, rfl, rfl, rfl⟩

theorem State.addressReady_other : (s.addressReady ch byte).chan (other ch) = s.chan (other ch) := by
  rw [State.addressReady, State.chan_onChan_other, State.withRules_chan]

theorem State.addressReady_like : LogAlike (s.addressReady ch byte) s :=
  ⟨by simp [State.addressReady], by simp [State.addressReady], by simp [State.addressReady]⟩

/-- A hold begun at the address (R22, R88, R89, R92). -/
theorem State.addressReady_holds (mode : (s.chan ch).mode = .active) {origin : HoldOrigin} {planned : Planned}
    {timeout : HoldTimeout} (ho : origin.atIndex = false) :
    let t := ((s.addressReady ch byte).beginHold ch origin planned timeout).retimeAll
    Held ch origin 0 planned timeout ((s.chan ch).newScanned byte (s.lookup ch byte).winner) s t
      ∧ ((∀ q ∈ s.routes, q.fits .holdStart none = false) → (t.chan ch).park = false) := by
  have here := s.addressReady_deciding (byte := byte) mode
  have held := State.beginHold_holds (origin := origin) (planned := planned) (timeout := timeout) (y := 0)
    (s.addressReady_like (ch := ch) (byte := byte)) here.exch here.settings here.health here.pull
    (by rw [ho]; rfl)
  refine ⟨held.1.retimeAll, fun hq => ?_⟩
  rw [State.retimeAll_chan_park, held.2 hq, here.park]

theorem Carried.withRules {atIndex noted : Bool} {p : Planned} {l : List Entry} {t : State}
    (h : Carried ch atIndex noted p x (s.withRules l) t) : Carried ch atIndex noted p x s t := by
  cases ch <;> exact h

/-- An action carried out at the address (R22, R23, R71, R81). -/
theorem State.addressReady_applies (mode : (s.chan ch).mode = .active) (p : Planned) :
    let t := ((s.addressReady ch byte).apply ch p).retimeAll
    Carried ch false false p ((s.chan ch).newScanned byte (s.lookup ch byte).winner) s t ∧ (t.chan ch).park = false
      ∧ t.log = s.log ∧ SameChannel (s.chan (other ch)) (t.chan (other ch)) := by
  have here := s.addressReady_deciding (byte := byte) mode
  obtain ⟨f, hf, park⟩ := (s.addressReady ch byte).apply_alone ch p
  refine ⟨?_, ?_, ?_, ?_⟩
  · by_cases hp : p = .forward
    · subst hp
      exact State.applyForward_carried here.exch here.arb here.dOp here.settings here.seenFree here.health
    · rw [State.addressReady, State.chan_onChan_same] at here
      have settings := here.settings.trans (congrArg Channel.settings
        (s.withRules_chan ch (s.lookup ch byte).rules).symm)
      exact (State.apply_carried (s := s.withRules (s.lookup ch byte).rules)
        (g := fun c => c.addressTaken byte (s.lookup ch byte).winner) hp here.exch settings).withRules
  · rw [hf, State.retimeAll_chan_park, State.chan_onChan_same, park, here.park]
  · rw [hf, State.retimeAll_log, State.onChan_log]
    exact State.addressReady_like.log
  · rw [hf, ← State.addressReady_other (byte := byte), ← (s.addressReady ch byte).chan_onChan_other ch f]
    exact State.sameChannel_retimeAll _ _

/-- A D-side that is closed before the action (log entry 10). -/
theorem Channel.Deciding.closes {c d : Channel} (h : c.Deciding x d) :
    (d.relayOpen = true ∨ d.closesHere = true) ↔ (c.relayOpen = true
      ∨ (c.arb.holder = .relay ∧ (c.dOp = .stop true ∨ c.dOp = .closing true))) := by
  rw [d.closesHere_iff, h.arb, h.dOp, Channel.relayOpen, h.arb, h.dOp, ← Channel.relayOpen]

/-- The channel of an address that is refused (R22). -/
def Channel.addressRefused (c : Channel) (d : Disposition) : Channel :=
  { c.answer .nack with
    phase := .refused, grantWait := none, grantLimitTaken := false, arb := { c.arb with relayWaits := false }
    exch := c.exch.map fun x => { x with disposition := some d, addressAck := some .nack } }

/-- An address refused by STOPPING (R22, R32). -/
theorem State.refuseStopping_refused (hx : (v.chan ch).exch = some x) : ∃ f : Channel → Channel,
    v.refuseStopping ch = v.onChan ch f ∧ RefusedAs .busy x (f (v.chan ch))
      ∧ (f (v.chan ch)).dOp = if (v.chan ch).relayOpen then .stop true else (v.chan ch).dOp := by
  refine ⟨fun c => if c.relayOpen then (c.addressRefused .busy).beginStop true else c.addressRefused .busy,
    State.onChan_onChan .., ?_⟩
  dsimp only
  have exch : ((v.chan ch).addressRefused .busy).exch
      = some { x with disposition := some .busy, addressAck := some .nack } := by
    rw [Channel.addressRefused, hx]
    rfl
  split
  · exact ⟨⟨rfl, rfl, exch⟩, rfl⟩
  · exact ⟨⟨rfl, rfl, exch⟩, rfl⟩

theorem AddrAction.planned_eq (a : AddrAction) : a.planned = match a with
    | .emulate k => .emulate k
    | .deny => .deny
    | .console => .console
    | _ => .forward := by
  cases a <;> rfl

theorem addressAction_eq (c : Channel) (w : Option (Nat × Copy)) : addressAction c w = match w with
    | some (_, .address _ _ a) => a
    | _ => if c.settings.defaultAction = .deny then .deny else .forward := by
  unfold addressAction
  generalize c.settings.defaultAction = d
  rcases w with - | ⟨k, - | - | -⟩ <;> cases d <;> rfl

/-- Settles O49: the byte is followed, kept, observed, refused or decided; what is decided is carried out, held or kept
for the closing of the D-side. -/
theorem addressByteDecided : Obligations.AddressByteDecided := by
  intro s ch byte c b low lines reset sync opened
  refine ⟨fun stuck mode clock i hi => ⟨_, State.exec_followedByte reset sync stuck mode opened clock hi,
    s.onlyChannel_onChan ch _, ?_⟩, ?_⟩
  · rw [State.chan_onChan_retimeAll, Channel.followByte, Channel.sampleByte_eq]
    rfl
  intro stuck x0 r action x1 quiet holds timeout planned forwards closing unparked i
  have due : s.AddressDue ch := ⟨reset, sync, stuck, opened⟩
  have new : newExchange (s.chan ch) byte = x0 := newExchange_eq _ byte
  have look : s.lookup ch byte = r := by rw [State.lookup, new]
  have act : addressAction (s.chan ch) r.winner = action := addressAction_eq _ _
  have plan : action.planned = planned := action.planned_eq
  have scanned : (s.chan ch).newScanned byte r.winner = x1 := Channel.newScanned_eq new act
  refine ⟨fun l inB time mode kept => ⟨_, due.exec_kept mode kept, s.onlyChannel_onChan ch _, ?_⟩, fun none kept =>
    ⟨fun mode hp => ?_, fun mode hp stopping => ?_, fun mode hp going => ?_⟩⟩
  · rw [State.chan_onChan_retimeAll, Channel.keepAddress, Channel.sampleByte_eq]
    rfl
  · have taken := due.exec_taken (byte := byte) none kept (.inr ⟨mode, hp⟩)
    rw [State.takeAddress_observed mode, look] at taken
    obtain ⟨V, hV⟩ : ∃ V, V = (s.withRules r.rules).onChan ch fun c => c.lookedUp byte r.winner := ⟨_, rfl⟩
    have here : V.chan ch = (s.chan ch).lookedUp byte r.winner := by
      rw [hV, State.chan_onChan_same, State.withRules_chan]
    rw [Channel.lookedUp_observed _ mode, scanned] at here
    have rules : V.rules = r.rules := by simp [hV]
    have log : V.log = s.log := by simp [hV]
    rw [← hV] at taken
    have routed := (V.ruleTrigger_routed r.winner ch).eq
    rw [here] at routed
    refine ⟨_, taken, ?_, ?_, ?_, ?_, by simp [rules], fun hq => ?_⟩
    · rw [State.retimeAll_chan_exch, routed]
    · rw [State.retimeAll_chan_phase, routed]
      exact hp
    · rw [State.retimeAll_chan_byteOpen, routed]
    · rw [State.retimeAll_chan_pull, routed]
    · rw [State.ruleTrigger_untriggered hq, State.retimeAll_log, State.retimeAll_chan_park, here]
      exact ⟨log, rfl⟩
  · have taken := due.exec_taken (byte := byte) none kept (.inl ⟨mode, hp⟩)
    rw [State.takeAddress_stopping mode stopping] at taken
    have ready : (((s.chan ch).sampleByte byte).openExchange byte).exch = some x0
        ∧ (((s.chan ch).sampleByte byte).openExchange byte).arb = (s.chan ch).arb
        ∧ (((s.chan ch).sampleByte byte).openExchange byte).dOp = (s.chan ch).dOp := by
      rw [Channel.openExchange_active _ (Channel.sampleByte_active _ mode), newExchange_sampleByte, new]
      exact ⟨rfl, rfl, rfl⟩
    obtain ⟨f, hf, refused, dOp⟩ := State.refuseStopping_refused (v := s.onChan ch fun c =>
      (c.sampleByte byte).openExchange byte) ((congrArg Channel.exch (s.chan_onChan_same ch _)).trans ready.1)
    rw [hf, State.onChan_onChan] at taken
    rw [State.chan_onChan_same] at refused dOp
    refine ⟨_, taken, s.onlyChannel_onChan ch _, ?_, ?_⟩
    · refine RefusedAs.retimeAll ?_
      rwa [State.chan_onChan_same]
    · rw [State.retimeAll_chan_dOp, State.chan_onChan_same, dOp, Channel.relayOpen, ready.2.1, ready.2.2,
        ← Channel.relayOpen]
  · have taken := due.exec_taken (byte := byte) none kept (.inl ⟨mode, hp⟩)
    have ready := s.addressReady_deciding (byte := byte) mode
    rw [State.takeAddress_decided mode going, ← State.addressReady, look, act] at taken
    rw [look, scanned] at ready
    have next_forward : addressNext action r.winner (s.chan ch).park = .apply .forward ↔ forwards := by
      have forward := addressNext_forward_iff (s.chan ch) r.winner (s.chan ch).park
      rwa [act, plan] at forward
    have held : ∀ k w tm, r.winner = some (k, w) → action = .hold tm →
        addressNext action r.winner (s.chan ch).park = .hold (.entryAddress k) .forward tm.toHold :=
      fun k w tm hw ha => by
        rw [ha, hw]
        rfl
    have stays := ((Staged.ruleTrigger (ch := ch) (s.addressReady ch byte) r.winner).trans (.decided _
      (addressNext action r.winner (s.chan ch).park))).here
    refine ⟨_, taken, by simp [State.addressReady, look], ?_, by simp [State.addressReady], by simp [State.addressReady],
      fun hq => ?_, fun hq => ?_⟩
    · rw [State.retimeAll_chan_byteOpen, stays.byteOpen, ready.byteOpen]
    · intro free
      have begun : (s.addressReady ch byte).decided ch (addressNext action r.winner (s.chan ch).park)
          = (s.addressReady ch byte).takeNext ch (addressNext action r.winner (s.chan ch).park) := by
        refine State.decided_begun (free.symm.imp next_forward.2 fun h => ?_)
        have none := mt ready.closes.1 h
        simpa using none
      rw [State.ruleTrigger_untriggered hq, begun]
      refine ⟨fun k w tm hw ha => ?_, fun hh hk => ?_, fun hh hk => ?_⟩
      · rw [held k w tm hw ha, ← scanned, ← look]
        exact State.addressReady_holds mode rfl
      · rw [addressNext_plain hh, show (s.chan ch).park = _ from hk, ← scanned, ← look, ← plan]
        exact State.addressReady_holds mode rfl
      · rw [addressNext_plain hh, show (s.chan ch).park = _ from hk, ← scanned, ← look, ← plan]
        exact State.addressReady_applies mode _
    · intro closed hn
      obtain ⟨dOp, exch, phase, pull, park, next⟩ :=
        ((s.addressReady ch byte).chan ch).waiting_facts (addressNext action r.winner (s.chan ch).park)
      have opened : ((s.addressReady ch byte).chan ch).relayOpen = c.relayOpen := by
        rw [Channel.relayOpen, ready.arb, ready.dOp, ← Channel.relayOpen]
      rw [opened, ready.dOp] at dOp
      rw [State.ruleTrigger_untriggered hq, State.decided_kept (mt next_forward.1 hn) (ready.closes.2 closed),
        State.chan_onChan_retimeAll]
      refine ⟨dOp, exch.trans ready.exch, phase.trans ready.phase, pull.trans ready.pull, by simp [State.addressReady],
        park.trans ready.park, fun k w tm hw ha => next.trans (congrArg some (held k w tm hw ha)), fun hh => ?_⟩
      refine next.trans (congrArg some ?_)
      rw [addressNext_plain hh, plan]

end Sys2Proof.Machine
end

section
/-! The wait for the grant, the grant, and the relay's D-side operations (R23, R24, R27 to R29, R31, R164): O50. -/

namespace Sys2Proof.Machine

variable {s : State} {ch : Chan} {x : Exchange} {m : Timer}

/-! ### The wait for the grant (R23) -/

theorem timerDue_some : timerDue (some m) = true ↔ m.limit ≤ m.elapsed := by simp [timerDue]

theorem State.exec_grantWaitStuckLimit (reset : s.inReset = false) (phase : (s.chan ch).phase = .grantWait)
    (wait : (s.chan ch).grantWait = some m) (due : m.limit ≤ m.elapsed) (first : (s.chan ch).grantLimitTaken = false) :
    exec (.grantWaitStuckLimit ch) s
      = .next ((s.onChan ch fun c => { c with grantLimitTaken := true }).grantLost ch).retimeAll := by
  show execGrantWaitStuckLimit ch s = _
  unfold execGrantWaitStuckLimit
  dsimp only
  rw [if_pos ⟨reset, phase, wait ▸ timerDue_some.2 due, first⟩]

/-- A wait refused or not, of the whole state its channel alone changes. -/
theorem State.grantLost_onChan (s : State) (ch : Chan) : ∃ f : Channel → Channel, s.grantLost ch = s.onChan ch f := by
  unfold State.grantLost
  dsimp only
  split
  · exact ⟨_, rfl⟩
  · exact ⟨id, (State.onChan_self (s := s) (ch := ch) rfl).symm⟩

theorem State.refuseAddress_relayWaits (s : State) (ch : Chan) (d : Disposition) :
    ((s.refuseAddress ch d).chan ch).arb.relayWaits = false := by
  rw [State.refuseAddress, State.chan_onChan_same]

theorem State.grantLost_relayWaits (phase : (s.chan ch).phase = .grantWait)
    (limit : (s.chan ch).grantLimitTaken = true) (free : (s.chan ch).seenFree = false) :
    ((s.grantLost ch).chan ch).arb.relayWaits = false := by
  unfold State.grantLost
  dsimp only
  rw [if_pos ⟨phase, limit, free⟩, State.refuseAddress_relayWaits]

theorem State.grantLost_waits (free : (s.chan ch).seenFree = true) : s.grantLost ch = s := by
  unfold State.grantLost
  dsimp only
  rw [if_neg (by simp [free])]

/-! ### The grant (R164, R166 to R169) -/

theorem State.exec_dSideGrant (reset : s.inReset = false) (grantable : (s.chan ch).grantable = true) :
    exec (.dSideGrant ch) s = .next (s.grantWaiter ch).retimeAll := by
  show execDSideGrant ch s = _
  rw [execDSideGrant, if_pos ⟨reset, grantable⟩]

theorem State.exec_dSideGrant_idle (grantable : (s.chan ch).grantable = false) : exec (.dSideGrant ch) s = .next s := by
  show execDSideGrant ch s = _
  rw [execDSideGrant, if_neg (by simp [grantable])]

theorem State.grantWaiter_relay (waits : (s.chan ch).arb.relayWaits = true)
    (turn : (s.chan ch).arb.engineWaits = false ∨ (s.chan ch).arb.last ≠ .relay) :
    s.grantWaiter ch = s.onChan ch Channel.grantRelay := by
  unfold State.grantWaiter
  dsimp only
  rw [if_pos ⟨waits, turn⟩]

theorem State.grantWaiter_engine {j : Job} (waits : (s.chan ch).arb.engineWaits = true)
    (turn : (s.chan ch).arb.relayWaits = false ∨ (s.chan ch).arb.last = .relay) (job : s.engine.job = some j) :
    s.grantWaiter ch = s.grantUnit ch j := by
  have neither : ¬ ((s.chan ch).arb.relayWaits = true
      ∧ ((s.chan ch).arb.engineWaits = false ∨ (s.chan ch).arb.last ≠ .relay)) := by
    rcases turn with h | h <;> simp [h, waits]
  unfold State.grantWaiter
  dsimp only
  rw [if_neg neither, if_pos waits, job]

theorem State.grantWaiter_none (relay : (s.chan ch).arb.relayWaits = false)
    (engine : (s.chan ch).arb.engineWaits = false) : s.grantWaiter ch = s := by
  simp [State.grantWaiter, relay, engine]

theorem State.grantUnit_chan (s : State) (ch : Chan) (j : Job) : (s.grantUnit ch j).retimeAll.chan ch
    = { (s.chan ch).grantEngine j.unitBytes j.unitRestarts with
      meters := ((s.grantUnit ch j).retimeAll.chan ch).meters } := by
  cases ch <;> rfl

/-- Measurements brought up to date, and nothing else. -/
theorem State.measured_retimeAll (s : State) : Measured s s.retimeAll := ⟨rfl, fun ch => s.sameChannel_retimeAll ch⟩

/-! ### The relay's D-side operations (R24, R27 to R29) -/

theorem State.relayDoes_of {op : DOp} (reset : s.inReset = false) (holder : (s.chan ch).arb.holder = .relay)
    (doing : (s.chan ch).dOp = op) : s.relayDoes ch op = true := by
  simp [State.relayDoes, reset, holder, doing]

theorem State.exec_dAddressAck {bit : AckBit} (does : s.relayDoes ch .address = true)
    (hx : (s.chan ch).exch = some x) : exec (.dAddressAck ch bit) s = .next (s.onChan ch fun c =>
      { c.restD.answer bit with
        phase := ackPhase x.direction bit, exch := some { x with addressAck := some bit } }).retimeAll := by
  show execDAddressAck ch bit s = _
  unfold execDAddressAck
  rw [hx]
  dsimp only
  rw [if_pos does]

theorem ackPhase_eq (dir : Dir) (bit : AckBit) : ackPhase dir bit
    = if bit = .nack then .refused else if dir = .write then .relayWrite else .relayRead := by
  cases bit <;> cases dir <;> rfl

theorem State.exec_dWriteByteDone_ack (does : s.relayDoes ch .writeByte = true) :
    exec (.dWriteByteDone ch .ack) s = .next (s.onChan ch fun c => c.restD.answer .ack).retimeAll := by
  show execDWriteByteDone ch .ack s = _
  unfold execDWriteByteDone
  rw [if_pos does, ← State.onChan_onChan s ch Channel.restD fun c => c.answer .ack]

theorem State.exec_dWriteByteDone_nack (does : s.relayDoes ch .writeByte = true) :
    exec (.dWriteByteDone ch .nack) s = .next ((s.onChan ch Channel.restD).refuseByte ch).retimeAll := by
  show execDWriteByteDone ch .nack s = _
  unfold execDWriteByteDone
  rw [if_pos does]

theorem State.exec_dReadByteDone {byte : Byte} (does : s.relayDoes ch .readByte = true) :
    exec (.dReadByteDone ch byte) s = .next (s.onChan ch fun c => c.restD.give byte).retimeAll := by
  show execDReadByteDone ch byte s = _
  rw [execDReadByteDone, if_pos does]

/-- The ninth pulse of a read byte over, and what was kept for its end taken up (R31). -/
def Channel.readAcked (c : Channel) : Channel := { c.restD with deferred := [] }

theorem Channel.fetch_eq (c : Channel) (span : Nat) : c.fetch span = { c with
    pull := ⟨⟨true, false⟩, ⟨false, false⟩⟩, dOp := .readByte, dSpan := span, giving := none } := rfl

theorem Channel.readAcked_fetch (c : Channel) (span : Nat) : (c.readAcked.fetch span).exch = c.exch
    ∧ (c.readAcked.fetch span).phase = c.phase ∧ (c.readAcked.fetch span).arb = c.arb
    ∧ (c.readAcked.fetch span).dOp = .readByte ∧ (c.readAcked.fetch span).pull.c = ⟨true, false⟩ := by
  rw [Channel.fetch_eq, Channel.readAcked, Channel.restD]
  exact ⟨rfl, rfl, rfl, rfl, rfl⟩

theorem State.exec_dReadAckDone_next (does : s.relayDoes ch .readAck = true) (kept : (s.chan ch).deferred = [])
    (phase : (s.chan ch).phase = .relayRead) : exec (.dReadAckDone ch) s
      = .next (s.onChan ch fun c => c.readAcked.fetch c.readAcked.inUse.nextReadByte).retimeAll := by
  show execDReadAckDone ch s = _
  unfold execDReadAckDone
  dsimp only
  rw [if_pos does, if_neg (not_not.2 kept), if_pos phase, State.onChan_onChan]
  rfl

theorem State.exec_dReadAckDone_rest (does : s.relayDoes ch .readAck = true) (kept : (s.chan ch).deferred = [])
    (phase : (s.chan ch).phase ≠ .relayRead) :
    exec (.dReadAckDone ch) s = .next (s.onChan ch Channel.readAcked).retimeAll := by
  show execDReadAckDone ch s = _
  unfold execDReadAckDone
  dsimp only
  rw [if_pos does, if_neg (not_not.2 kept), if_neg phase]
  rfl

theorem State.exec_dReadAckDone_kept (does : s.relayDoes ch .readAck = true) (kept : (s.chan ch).deferred ≠ []) :
    exec (.dReadAckDone ch) s
      = .next ((s.onChan ch Channel.readAcked).takeKept ch (s.chan ch).deferred).retimeAll := by
  show execDReadAckDone ch s = _
  unfold execDReadAckDone
  dsimp only
  rw [if_pos does, if_pos kept]
  rfl

/-- A NACK noted once for the byte in hand (R154, log entry 20). -/
theorem Channel.nackNoted_once {c : Channel} (hx : c.exch = some x) :
    (c.nackNoted x).health.running.dataNacks = nacksAfter c c.noted x
      ∧ (c.nackNoted x).exch = some (if c.noted then x else { x with firstNack := some (x.firstNack.getD (x.count - 1)) })
      := by
  cases noted : c.noted with
  | true =>
    have same : c.nackNoted x = c := if_pos noted
    rw [same, hx]
    simp [nacksAfter]
  | false =>
    obtain ⟨exch, nacks⟩ := c.nackNoted_fresh x noted
    refine ⟨(congrArg Stats.dataNacks nacks).trans ?_, exch⟩
    simp [nacksAfter]

/-- The channel of a byte that is refused: its NACK noted where there is an exchange (R27, R57). -/
def Channel.byteRefused (c : Channel) : Channel :=
  { (c.exch.elim c fun x => c.nackNoted x).answer .nack with phase := .refused }

theorem State.refuseByte_eq (v : State) (ch : Chan) : v.refuseByte ch = v.onChan ch Channel.byteRefused := by
  have noted : v.noteNack ch = v.onChan ch fun c => c.exch.elim c fun x => c.nackNoted x := by
    cases hx : (v.chan ch).exch with
    | none =>
      have same : v.noteNack ch = v := by simp [State.noteNack, hx]
      rw [same]
      exact (State.onChan_self (by rw [hx]; rfl)).symm
    | some x =>
      rw [v.noteNack_eq ch hx]
      exact State.onChan_congr (by rw [hx]; rfl)
  rw [State.refuseByte, noted, State.onChan_onChan]
  rfl

theorem Channel.byteRefused_shown (c : Channel) : c.byteRefused.phase = .refused
    ∧ c.byteRefused.pull = ⟨.nack, c.pull.d⟩ ∧ c.byteRefused.dOp = c.dOp := by
  unfold Channel.byteRefused
  cases c.exch with
  | none => exact ⟨rfl, rfl, rfl⟩
  | some x =>
    obtain ⟨-, pull, -, dOp⟩ := Channel.nackNoted_keeps x c
    exact ⟨rfl, congrArg (fun p : Lines => { p with c := .nack }) pull, dOp⟩

theorem Channel.byteRefused_noted {c : Channel} (hx : c.exch = some x) :
    c.byteRefused.health.running.dataNacks = nacksAfter c c.noted x ∧ c.byteRefused.exch
      = some (if c.noted then x else { x with firstNack := some (x.firstNack.getD (x.count - 1)) }) := by
  have once := Channel.nackNoted_once hx
  unfold Channel.byteRefused
  rw [hx]
  exact once

/-! ### A condition kept to the end of the bit (R31, R34) -/

/-- What an exchange's end hands on is the same with the ninth pulse over. -/
theorem State.readAcked_endAlike (s : State) (ch : Chan) (k : EndKind) :
    EndAlike ch (s.endExchange ch k) ((s.onChan ch Channel.readAcked).endExchange ch k) :=
  ((EndAlike.refl s).changed (f := Channel.readAcked) rfl).endExchange k

/-- What the end of an exchange leaves of its channel, for the conditions that follow it. -/
structure Channel.EndKeeps (c d : Channel) : Prop where
  mode : d.mode = c.mode
  holder : d.arb.holder = c.arb.holder
  deferred : d.deferred = c.deferred
  cFree : d.cFree = c.cFree
  freePoint : d.freePoint = c.freePoint
  sync : d.sync = c.sync

theorem State.endExchange_keeps (s : State) (ch : Chan) (k : EndKind) :
    (s.chan ch).EndKeeps ((s.endExchange ch k).chan ch) := by
  rw [(s.endExchange_chans ch k).2]
  split <;> exact ⟨rfl, rfl, rfl, rfl, rfl, rfl⟩

/-- The channel of an exchange that ends with the ninth pulse over. -/
theorem State.readAcked_ended (s : State) (ch : Chan) (k : EndKind) :
    ((s.onChan ch Channel.readAcked).endExchange ch k).chan ch = ((s.endExchange ch k).chan ch).readAcked := by
  have alike := s.readAcked_endAlike ch k
  rw [((s.onChan ch Channel.readAcked).endExchange_chans ch k).2, alike.health, alike.fallback, alike.console,
    (s.endExchange_chans ch k).2, State.chan_onChan_same]
  by_cases hx : (s.chan ch).exch = none
  · have hx' : (s.chan ch).readAcked.exch = none := hx
    rw [if_pos hx, if_pos hx']
    rfl
  · have hx' : ¬ (s.chan ch).readAcked.exch = none := hx
    rw [if_neg hx, if_neg hx']
    rfl

/-- The end of a transaction, with its bus-free point where the C-side was not free already (R5, R33, log entry 44). -/
theorem Channel.endTransaction_eq (c : Channel) : c.endTransaction = { c with
    highData := false, pull := { c.pull with c := ⟨false, false⟩ }, phase := .free, byteOpen := false, noted := false
    dOp := c.dOp.disown, cFree := true, freePoint := if c.cFree then c.freePoint else true
    sync := if c.cFree = true ∨ c.mode = .isolated then c.sync else .synced } := by
  cases free : c.cFree with
  | true =>
    have same : c.endTransaction = { c.releaseC with
        phase := .free, byteOpen := false, noted := false, dOp := c.dOp.disown } := if_pos free
    rw [same, Channel.releaseC, Channel.restC]
    simp [free]
  | false =>
    have point : c.endTransaction = ({ c.releaseC with
        phase := .free, byteOpen := false, noted := false, dOp := c.dOp.disown } : Channel).cFreePoint :=
      if_neg fun h => Bool.false_ne_true (free.symm.trans h)
    rw [point, Channel.cFreePoint, Channel.releaseC, Channel.restC]
    simp

theorem Channel.beginAddress_eq (c : Channel) (time : Tick) : c.beginAddress time = { c with
    highData := false, pull := { c.pull with c := ⟨false, false⟩ }
    phase := if c.mode = .monitor then .observing else .address
    startTick := time, byteOpen := false, noted := false, cFree := false, freePoint := false } := rfl

/-! A condition's channel, case by case (R14, R32, R33). -/

section
variable (c : Channel) (time : Tick)

theorem Channel.afterCond_start : c.afterCond .start false time = c.beginAddress time := rfl
theorem Channel.afterCond_start_misframe : c.afterCond .start true time = (c.closeD true).beginAddress time := rfl
theorem Channel.afterCond_stop : c.afterCond .stop false time = c.stopD.endTransaction := rfl
theorem Channel.afterCond_stop_misframe : c.afterCond .stop true time = (c.closeD true).stopD.endTransaction := rfl

end

section
variable {d : Channel} (holder : d.arb.holder = .relay)
include holder

theorem Channel.readAcked_relayOpen : d.readAcked.relayOpen = true := by
  simp [Channel.relayOpen, Channel.readAcked, Channel.restD, holder]

/-- The closing pulses of a misframe behind the ninth pulse (R14). -/
theorem Channel.closeD_readAcked : d.readAcked.closeD true
    = { d with
        deferred := [], dOp := .closing true, dSpan := d.readAcked.inUse.heldStop
        pull := { d.pull with d := ⟨false, false⟩ } } := by
  rw [Channel.closeD, if_pos (Channel.readAcked_relayOpen holder)]
  rfl

/-- A channel after a START kept to the end of the ninth pulse, acted on (R31, R32, log entry 25). -/
theorem Channel.afterStart_readAcked (brk : Bool) (time : Tick) :
    d.readAcked.afterCond .start brk time = { d with
      deferred := [], highData := false, pull := ⟨⟨false, false⟩, ⟨!brk, false⟩⟩, byteOpen := false
      phase := if d.mode = .monitor then .observing else .address, startTick := time, noted := false
      cFree := false, freePoint := false, dOp := if brk then .closing true else .idle
      dSpan := if brk then d.readAcked.inUse.heldStop else 0 } := by
  cases brk with
  | false =>
    rw [Channel.afterCond_start, Channel.beginAddress_eq, if_neg Bool.false_ne_true, if_neg Bool.false_ne_true]
    rfl
  | true =>
    rw [Channel.afterCond_start_misframe, Channel.closeD_readAcked holder, Channel.beginAddress_eq]
    rfl

/-- A channel after a STOP kept to the end of the ninth pulse, acted on (R31, R33, log entry 25). -/
theorem Channel.afterStop_readAcked (brk : Bool) (time : Tick) :
    d.readAcked.afterCond .stop brk time = { d with
      deferred := [], highData := false, pull := ⟨⟨false, false⟩, ⟨false, false⟩⟩, byteOpen := false
      phase := .free, noted := false, dOp := if brk then .closing false else .stop false
      dSpan := d.readAcked.inUse.heldStop, cFree := true, freePoint := if d.cFree then d.freePoint else true
      sync := if d.cFree = true ∨ d.mode = .isolated then d.sync else .synced } := by
  cases brk with
  | false =>
    have stop : d.readAcked.stopD = d.readAcked.beginStop false := if_pos (Channel.readAcked_relayOpen holder)
    rw [Channel.afterCond_stop, stop, Channel.endTransaction_eq]
    rfl
  | true =>
    have closed : (d.readAcked.closeD true).relayOpen = false := by
      simp [Channel.closeD_readAcked holder, Channel.relayOpen]
    have stop : (d.readAcked.closeD true).stopD = d.readAcked.closeD true := if_neg (by rw [closed]; exact nofun)
    rw [Channel.afterCond_stop_misframe, stop, Channel.closeD_readAcked holder, Channel.endTransaction_eq]
    rfl

end

/-! ### A longer list kept to the end of the bit (R31) -/

/-- What no item kept to the end of a D-side bit changes: the list, the relay's grant, and the other channel's
exchange. -/
structure KeptStays (ch : Chan) (s t : State) : Prop where
  deferred : (t.chan ch).deferred = (s.chan ch).deferred
  holder : (s.chan ch).arb.holder = .relay → (t.chan ch).arb.holder = .relay
  apart : (t.chan (other ch)).exch = (s.chan (other ch)).exch

section
variable {t u : State}

theorem KeptStays.trans (h : KeptStays ch s t) (k : KeptStays ch t u) : KeptStays ch s u :=
  ⟨k.deferred.trans h.deferred, fun hs => k.holder (h.holder hs), k.apart.trans h.apart⟩

theorem Staged.keptStays (h : Staged ch s t) : KeptStays ch s t :=
  ⟨h.here.deferred, h.here.holder, by rw [h.apart.eq]⟩

theorem KeptStays.onChan (s : State) {f : Channel → Channel} (deferred : ∀ c, (f c).deferred = c.deferred)
    (arb : ∀ c, (f c).arb = c.arb) : KeptStays ch s (s.onChan ch f) := by
  refine ⟨?_, ?_, by rw [State.chan_onChan_other]⟩
  · rw [State.chan_onChan_same, deferred]
  · rw [State.chan_onChan_same, arb]
    exact id

end

/-- What a new exchange is, observed or not (R20, R43). -/
theorem Channel.openExchange_shown (c : Channel) (byte : Byte) :
    (c.openExchange byte).deferred = c.deferred ∧ (c.openExchange byte).arb = c.arb
      ∧ (c.openExchange byte).byteOpen = true ∧ (c.openExchange byte).console = c.console
      ∧ ∃ d, (c.openExchange byte).exch = some { newExchange c byte with disposition := d } := by
  unfold Channel.openExchange
  dsimp only
  split <;> exact ⟨rfl, rfl, rfl, rfl, _, rfl⟩

theorem Staged.lookAddress (s : State) (byte : Byte) :
    Staged ch (s.onChan ch fun c => c.openExchange byte) (s.lookAddress ch byte) :=
  (Staged.addressScan _ _).trans (.ruleTrigger _ _)

theorem Staged.takeAddress (s : State) (byte : Byte) :
    Staged ch (s.onChan ch fun c => c.openExchange byte) (s.takeAddress ch byte) := by
  unfold State.takeAddress
  dsimp only
  (repeat' split)
  · exact .lookAddress s byte
  · exact .refuseStopping _
  · exact .addressStage _ _

theorem Staged.passAddress (s : State) (byte : Byte) :
    Staged ch (s.onChan ch fun c => c.openExchange byte) (s.passAddress ch byte) := by
  unfold State.passAddress
  split
  · exact .refl ch _
  · exact .lookAddress s byte

theorem Channel.afterCond_stays (k : Cond) (brk : Bool) (time : Tick) (c : Channel) :
    (c.afterCond k brk time).deferred = c.deferred ∧ (c.afterCond k brk time).arb = c.arb := by
  have close : ∀ same, (c.closeD same).deferred = c.deferred ∧ (c.closeD same).arb = c.arb := fun same => by
    unfold Channel.closeD
    split <;> exact ⟨rfl, rfl⟩
  have stop : ∀ d : Channel, d.stopD.endTransaction.deferred = d.deferred ∧ d.stopD.endTransaction.arb = d.arb :=
    fun d => by
      rw [Channel.endTransaction_eq]
      unfold Channel.stopD
      split <;> exact ⟨rfl, rfl⟩
  cases k <;> cases brk
  case start.false => exact ⟨rfl, rfl⟩
  case start.true =>
    rw [Channel.afterCond_start_misframe, Channel.beginAddress_eq]
    exact close true
  case stop.false =>
    rw [Channel.afterCond_stop]
    exact stop c
  case stop.true =>
    rw [Channel.afterCond_stop_misframe]
    exact ⟨(stop _).1.trans (close true).1, (stop _).2.trans (close true).2⟩

theorem KeptStays.takeCond (s : State) (k : Cond) (brk : Bool) (time : Tick) :
    KeptStays ch s (s.takeCond ch brk time k) := by
  have keeps := s.endExchange_keeps ch (condKind k brk)
  have ended : KeptStays ch s (s.endExchange ch (condKind k brk)) :=
    ⟨keeps.deferred, keeps.holder.trans, by rw [(s.endExchange_chans ch _).1]⟩
  rw [State.takeCond_eq]
  exact ended.trans (.onChan _ (fun c => (c.afterCond_stays k brk time).1) fun c => (c.afterCond_stays k brk time).2)

/-- A list kept is acted on with the grant kept by the relay and nothing new kept (R31). -/
theorem KeptStays.takeKept (l : List Kept) : ∀ {s : State}, KeptStays ch s (s.takeKept ch l) := by
  induction l with
  | nil => exact fun {_} => ⟨rfl, id, rfl⟩
  | cons k rest ih =>
    intro s
    cases k with
    | cond k brk time => exact (KeptStays.takeCond s k brk time).trans ih
    | address byte =>
      have opened : KeptStays ch s (s.onChan ch fun c => c.openExchange byte) :=
        .onChan s (fun c => (c.openExchange_shown byte).1) fun c => (c.openExchange_shown byte).2.1
      have first : KeptStays ch s (if rest = [] then s.takeAddress ch byte else s.passAddress ch byte) := by
        split
        · exact opened.trans (Staged.takeAddress s byte).keptStays
        · exact opened.trans (Staged.passAddress s byte).keptStays
      exact first.trans ih

/-! ### An address byte kept behind a START (R21, R22, R31) -/

/-- The scan of an address byte that is acted on, outside STOPPING. -/
theorem State.takeAddress_rules (v : State) (ch : Chan) (byte : Byte) : (v.takeAddress ch byte).rules
    = if (v.chan ch).mode ≠ .monitor ∧ v.supply.state = .stopping then v.rules else (v.lookup ch byte).rules := by
  have look : ((v.onChan ch fun c => c.openExchange byte).addressScan ch (newExchange (v.chan ch) byte)).1.rules
      = (v.lookup ch byte).rules := by
    rw [State.addressScan_onChan]
    simp [State.lookup]
  unfold State.takeAddress State.lookAddress
  dsimp only
  by_cases mode : (v.chan ch).mode = .monitor
  · rw [if_pos mode, if_neg (fun h => h.1 mode), State.ruleTrigger_rules, look]
  · rw [if_neg mode]
    by_cases stopping : v.supply.state = .stopping
    · rw [if_pos stopping, if_pos ⟨mode, stopping⟩]
      simp
    · rw [if_neg stopping, if_neg (fun h => stopping h.2), State.addressStage]
      simp [look]

theorem State.takeAddress_images (v : State) (ch : Chan) (byte : Byte) :
    (v.takeAddress ch byte).images = v.images := by
  unfold State.takeAddress State.lookAddress
  dsimp only
  (repeat' split) <;> simp [State.addressScan, State.onExch]

/-! ### The kept list acted on, case by case -/

section
variable (reset : s.inReset = false) (holder : (s.chan ch).arb.holder = .relay) (doing : (s.chan ch).dOp = .readAck)
include reset holder doing

/-- One condition kept: the exchange ends, and its channel is that of the condition (R31, R34). -/
theorem State.exec_oneKept {k : Cond} {brk : Bool} {time : Tick} (kept : (s.chan ch).deferred = [.cond k brk time]) :
    exec (.dReadAckDone ch) s = .next (((s.onChan ch Channel.readAcked).endExchange ch (condKind k brk)).onChan ch
      (Channel.afterCond k brk time)).retimeAll := by
  rw [State.exec_dReadAckDone_kept (State.relayDoes_of reset holder doing) (by rw [kept]; exact nofun), kept,
    ← State.takeCond_eq]
  rfl

end

/-- What one kept condition hands on and leaves (R31, R34). -/
theorem State.oneKept_ends (s : State) (ch : Chan) (k : Cond) (brk : Bool) (time : Tick) :
    let t := (((s.onChan ch Channel.readAcked).endExchange ch (condKind k brk)).onChan ch
      (Channel.afterCond k brk time)).retimeAll
    EndsAs ch (s.endExchange ch (condKind k brk)) t ∧ SameChannel (s.chan (other ch)) (t.chan (other ch))
      ∧ OnlyEnded s t := by
  refine ⟨(s.readAcked_endAlike ch _).endsAs.onChan fun c => c.afterCond_keeps k brk time, ?_, ?_⟩
  · have apart : ((((s.onChan ch Channel.readAcked).endExchange ch (condKind k brk)).onChan ch
        (Channel.afterCond k brk time)).chan (other ch)) = s.chan (other ch) := by
      rw [State.chan_onChan_other, (State.endExchange_chans _ ch _).1, State.chan_onChan_other]
    rw [← apart]
    exact State.sameChannel_retimeAll _ _
  · exact (((OnlyEnded.onChan s ch _).trans (.endExchange _ ch _)).trans (.onChan _ ch _)).trans (.retimeAll _)

theorem OnlyEnded.blocks {t : State} (h : OnlyEnded s t) : t = { s with
    ch0 := t.ch0, ch1 := t.ch1, rules := t.rules, images := t.images, log := t.log, link := t.link } := by
  unfold OnlyEnded at h
  rw [h]

/-- The state in which an address byte kept behind a START is acted on (R31, R34). -/
def State.keptBegun (s : State) (ch : Chan) (time : Tick) : State :=
  ((s.onChan ch Channel.readAcked).endExchange ch .restart).onChan ch fun c => c.beginAddress time

theorem State.keptBegun_chan (s : State) (ch : Chan) (time : Tick) :
    (s.keptBegun ch time).chan ch = ((s.endExchange ch .restart).chan ch).readAcked.beginAddress time := by
  rw [State.keptBegun, State.chan_onChan_same, State.readAcked_ended]

/-- What the kept START leaves of the channel for the address byte behind it. -/
theorem State.keptBegun_shown (s : State) (ch : Chan) (time : Tick) :
    ((s.keptBegun ch time).chan ch).deferred = [] ∧ ((s.keptBegun ch time).chan ch).startTick = time
      ∧ ((s.keptBegun ch time).chan ch).mode = (s.chan ch).mode
      ∧ ((s.keptBegun ch time).chan ch).console = ((s.endExchange ch .restart).chan ch).console := by
  rw [State.keptBegun_chan, Channel.beginAddress_eq, Channel.readAcked, Channel.restD,
    ← (s.endExchange_keeps ch .restart).mode]
  exact ⟨rfl, rfl, rfl, rfl⟩

theorem State.keptBegun_other (s : State) (ch : Chan) (time : Tick) :
    (s.keptBegun ch time).chan (other ch) = s.chan (other ch) := by
  rw [State.keptBegun, State.chan_onChan_other, (State.endExchange_chans _ ch _).1, State.chan_onChan_other]

theorem State.keptBegun_blocks (s : State) (ch : Chan) (time : Tick) :
    (s.keptBegun ch time).rules = (s.endExchange ch .restart).rules
      ∧ (s.keptBegun ch time).images = (s.endExchange ch .restart).images
      ∧ (s.keptBegun ch time).supply = s.supply := by
  have alike := s.readAcked_endAlike ch .restart
  exact ⟨by rw [State.keptBegun, State.onChan_rules, alike.rules],
    by rw [State.keptBegun, State.onChan_images, alike.images], by simp [State.keptBegun]⟩

/-- Settles O50: each clause is the equation of its command with what its channel becomes. -/
theorem relayOperations : Obligations.RelayOperations := by
  intro s ch reset c relays
  have does : ∀ {op}, relays op → s.relayDoes ch op = true := fun h => State.relayDoes_of reset h.1 h.2
  refine ⟨fun m x phase wait due first hx => ?_, fun grantable waits turn => ?_, fun j grantable waits turn job => ?_,
    fun grantable relay engine => ?_, State.exec_dSideGrant_idle, fun x bit hx h => ?_, fun h => ⟨?_, ?_⟩,
    fun byte h => ?_, fun h kept => ?_, fun k brk time h kept => ?_, fun h kept => ?_, fun time byte h kept => ?_⟩
  · have taken := State.exec_grantWaitStuckLimit reset phase wait due first
    obtain ⟨f, hf⟩ := State.grantLost_onChan (s.onChan ch fun c => { c with grantLimitTaken := true }) ch
    refine ⟨_, taken, by rw [hf]; exact State.onlyChannel_twice .., fun free => ⟨RefusedAs.retimeAll ?_, ?_⟩,
      fun free => ?_⟩
    · apply State.grantLost_refused <;> rw [State.chan_onChan_same]
      exacts [phase, free, hx]
    · rw [State.retimeAll_chan_arb]
      apply State.grantLost_relayWaits <;> rw [State.chan_onChan_same]
      exacts [phase, free]
    · rw [State.grantLost_waits (by rw [State.chan_onChan_same]; exact free), State.chan_onChan_retimeAll]
  · have taken := State.exec_dSideGrant reset grantable
    rw [State.grantWaiter_relay waits turn] at taken
    refine ⟨_, taken, s.onlyChannel_onChan ch _, ?_⟩
    rw [State.chan_onChan_retimeAll]
    exact ⟨rfl, rfl, rfl, rfl, rfl, rfl⟩
  · have taken := State.exec_dSideGrant reset grantable
    rw [State.grantWaiter_engine waits turn job] at taken
    have unit : ((s.grantUnit ch j).retimeAll).engine.unit = j.items s.engine.staging := by simp [State.grantUnit]
    refine ⟨_, taken, ?_, ?_, ?_⟩
    · rw [unit]
      exact State.onlyChannel_onChan _ ch _
    · rw [unit]
      exact j.unitIs_items _
    · rw [State.grantUnit_chan]
      exact ⟨rfl, rfl, rfl, rfl, rfl⟩
  · rw [State.exec_dSideGrant reset grantable, State.grantWaiter_none relay engine]
    exact ⟨_, rfl, s.measured_retimeAll⟩
  · refine ⟨_, State.exec_dAddressAck (does h) hx, s.onlyChannel_onChan ch _, ?_⟩
    rw [State.chan_onChan_retimeAll]
    exact ⟨ackPhase_eq _ _, rfl, rfl, rfl, rfl⟩
  · refine ⟨_, State.exec_dWriteByteDone_ack (does h), s.onlyChannel_onChan ch _, ?_⟩
    rw [State.chan_onChan_retimeAll]
    exact ⟨rfl, rfl, rfl, rfl⟩
  · have taken := State.exec_dWriteByteDone_nack (does h)
    rw [State.refuseByte_eq, State.onChan_onChan] at taken
    obtain ⟨phase, pull, dOp⟩ := c.restD.byteRefused_shown
    refine ⟨_, taken, s.onlyChannel_onChan ch _, ?_⟩
    rw [State.chan_onChan_retimeAll]
    exact ⟨phase, pull, dOp, fun x hx => Channel.byteRefused_noted (c := c.restD) hx⟩
  · refine ⟨_, State.exec_dReadByteDone (does h), s.onlyChannel_onChan ch _, ?_⟩
    rw [State.chan_onChan_retimeAll]
    exact ⟨rfl, rfl, rfl, rfl, rfl, rfl⟩
  · by_cases phase : c.phase = .relayRead
    · refine ⟨_, State.exec_dReadAckDone_next (does h) kept phase, s.onlyChannel_onChan ch _, ?_⟩
      obtain ⟨exch, kept, arb, dOp, pull⟩ := c.readAcked_fetch c.readAcked.inUse.nextReadByte
      rw [State.chan_onChan_retimeAll]
      exact ⟨exch, kept, arb, fun _ => ⟨dOp, pull⟩, fun hn => absurd phase hn⟩
    · refine ⟨_, State.exec_dReadAckDone_rest (does h) kept phase, s.onlyChannel_onChan ch _, ?_⟩
      rw [State.chan_onChan_retimeAll]
      exact ⟨rfl, rfl, rfl, fun hp => absurd hp phase, fun _ => ⟨rfl, rfl⟩⟩
  · have taken := State.exec_oneKept reset h.1 h.2 kept
    obtain ⟨ends, apart, only⟩ := s.oneKept_ends ch k brk time
    have keeps := s.endExchange_keeps ch (condKind k brk)
    have holder := keeps.holder.trans h.1
    have chan := State.chan_onChan_retimeAll ((s.onChan ch Channel.readAcked).endExchange ch (condKind k brk)) ch
      (Channel.afterCond k brk time)
    rw [State.readAcked_ended] at chan
    refine ⟨_, taken, ends, apart, only.blocks, ?_, ?_⟩
    · rintro rfl
      rw [Channel.afterStart_readAcked holder] at chan
      generalize (State.retimeAll _).chan ch = T at chan ⊢
      have span : (if brk then T.dSpan else 0)
          = if brk then ((s.endExchange ch (condKind .start brk)).chan ch).readAcked.inUse.heldStop else 0 := by
        rw [chan]
        cases brk <;> rfl
      rw [span, show c.mode = _ from keeps.mode.symm]
      exact chan
    · rintro rfl
      rw [Channel.afterStop_readAcked holder] at chan
      generalize (State.retimeAll _).chan ch = T at chan ⊢
      have span : T.dSpan = ((s.endExchange ch (condKind .stop brk)).chan ch).readAcked.inUse.heldStop := by
        rw [chan]
      rw [span, show c.mode = _ from keeps.mode.symm, show c.cFree = _ from keeps.cFree.symm,
        show c.freePoint = _ from keeps.freePoint.symm, show c.sync = _ from keeps.sync.symm]
      exact chan
  · refine ⟨_, State.exec_dReadAckDone_kept (does h) kept, ?_⟩
    have stays : KeptStays ch (s.onChan ch Channel.readAcked) _ := .takeKept (s.chan ch).deferred
    obtain ⟨deferred, holds, apart⟩ := stays
    rw [State.chan_onChan_same] at deferred holds
    rw [State.chan_onChan_other] at apart
    refine ⟨?_, ?_, by simp, by simp, ?_⟩
    · rw [State.retimeAll_chan_deferred, deferred]
      rfl
    · rw [State.retimeAll_chan_arb]
      exact holds h.1
    · rw [State.retimeAll_chan_exch, apart]
  · have taken := State.exec_dReadAckDone_kept (does h) (by rw [show (s.chan ch).deferred = _ from kept]; exact nofun)
    rw [show (s.chan ch).deferred = _ from kept, State.takeKept_start_address] at taken
    intro e r
    have began : (s.onChan ch Channel.readAcked).takeStart ch false time = s.keptBegun ch time := rfl
    rw [began] at taken
    obtain ⟨rules, images, supply⟩ := s.keptBegun_blocks ch time
    obtain ⟨begun_deferred, begun_start, begun_mode, begun_console⟩ := s.keptBegun_shown ch time
    obtain ⟨deferred, -, opened, console, d, exch⟩ := ((s.keptBegun ch time).chan ch).openExchange_shown byte
    obtain ⟨carried, apart⟩ := Staged.takeAddress (ch := ch) (s.keptBegun ch time) byte
    rw [State.chan_onChan_other, State.keptBegun_other] at apart
    rw [State.chan_onChan_same] at carried
    obtain ⟨y, hy, address, direction, start, count⟩ := carried.exch _ exch
    refine ⟨_, taken, ?_, ?_, ?_, ?_, ?_, ?_, ?_, ?_, ?_, y, ?_, ?_, ?_, ?_, ?_⟩
    · rw [State.retimeAll_chan_deferred, carried.deferred, deferred, begun_deferred]
    · rw [State.retimeAll_chan_byteOpen, carried.byteOpen, opened]
    · rw [State.retimeAll_rules, State.takeAddress_rules, begun_mode, supply, rules, State.lookup, newExchange_eq, rules]
    · rw [State.retimeAll_images, State.takeAddress_images, images]
    · simp [State.keptBegun]
    · simp [State.keptBegun]
    · rw [State.retimeAll_chan_console, carried.console, console, begun_console]
    · rw [State.retimeAll_chan_exch, apart.eq]
    · rw [State.retimeAll_chan_pull, apart.eq]
    · rw [State.retimeAll_chan_exch, hy]
    · rw [start, newExchange_eq, begun_start]
    · rw [address, newExchange_eq]
    · rw [direction, newExchange_eq]
    · rw [count, newExchange_eq]

end Sys2Proof.Machine
end

section
/-! SUPPORT. What the invariants of the rule table and of the images ask of a list of entries and of a list of images
(R46, R49, R69), and what each operation on an entry and on an image keeps of it. -/

namespace Sys2Proof.Machine

/-! ### Tables of a fixed length -/

/-- A list of `n` places with each of its items in order. -/
def Filled {α : Type} (n : Nat) (p : α → Prop) (l : List α) : Prop := l.length = n ∧ ∀ a ∈ l, p a

section
variable {α : Type} {n : Nat} {p : α → Prop} {l : List α}

theorem Filled.getElem? (h : Filled n p l) {k : Nat} {a : α} (ha : l[k]? = some a) : p a :=
  h.2 a (List.mem_of_getElem? ha)

theorem Filled.set (h : Filled n p l) (k : Nat) {a : α} (ha : p a) : Filled n p (l.set k a) :=
  ⟨by rw [List.length_set, h.1], fun b hb => (List.mem_or_eq_of_mem_set hb).elim (h.2 b) (· ▸ ha)⟩

theorem Filled.modify (h : Filled n p l) (k : Nat) {f : α → α} (hf : ∀ a, p a → p (f a)) :
    Filled n p (l.modify k f) := by
  refine ⟨by rw [List.length_modify, h.1], fun b hb => ?_⟩
  obtain ⟨i, hi⟩ := List.getElem?_of_mem hb
  rw [List.getElem?_modify] at hi
  obtain ⟨a, ha, rfl⟩ := Option.map_eq_some_iff.1 hi
  split
  · exact hf a (h.getElem? ha)
  · exact h.getElem? ha

theorem Filled.map (h : Filled n p l) {f : α → α} (hf : ∀ a, p a → p (f a)) : Filled n p (l.map f) :=
  ⟨by rw [List.length_map, h.1], List.forall_mem_map.2 fun a ha => hf a (h.2 a ha)⟩

end

/-! ### Entries of the rule table -/

/-- What R46 and R49 ask of one entry. -/
def Entry.Ok (e : Entry) : Prop := e.remaining ≤ e.live.passCount ∧ (e.live = .empty → e.hits = 0)

@[simp] theorem Copy.passCount_setEnabled (c : Copy) (b : Bool) : (c.setEnabled b).passCount = c.passCount := by
  cases c <;> rfl

@[simp] theorem Copy.setEnabled_eq_empty (c : Copy) (b : Bool) : c.setEnabled b = .empty ↔ c = .empty := by
  cases c <;> simp [Copy.setEnabled]

theorem Entry.promote_ok {e : Entry} (h : e.Ok) : e.promote.Ok := by
  unfold Entry.promote
  split
  · exact h
  · exact ⟨Nat.le_refl _, fun _ => rfl⟩

theorem Entry.settle_ok {e : Entry} (h : e.Ok) : e.settle.Ok := by
  unfold Entry.settle
  split
  · exact Entry.promote_ok h
  · exact h

theorem Entry.release_ok {e : Entry} (h : e.Ok) : e.release.Ok := Entry.settle_ok h

theorem writePending_ok {e : Entry} (c : Copy) (h : e.Ok) : (writePending c e).Ok := Entry.settle_ok h

theorem Entry.rearm_ok {e : Entry} (zero : Bool) (he : e.live ≠ .empty) : (e.rearm zero).Ok :=
  ⟨by simp [Entry.rearm], fun h => absurd ((Copy.setEnabled_eq_empty ..).1 h) he⟩

theorem Entry.setEnabled_ok {e : Entry} (b : Bool) (h : e.Ok) : ({ e with live := e.live.setEnabled b } : Entry).Ok :=
  ⟨by simpa using h.1, by simpa using h.2⟩

theorem Entry.passed_ok {e : Entry} (h : e.Ok) : e.passed.Ok := ⟨(Nat.sub_le ..).trans h.1, h.2⟩

/-- The live copy of a winner: ONESHOT disables it (R52). -/
theorem Entry.won_live (e : Entry) : e.won.live
    = if (e.live.head.map fun h => h.oneshot) = some true then e.live.setEnabled false else e.live := by
  unfold Entry.won
  cases e.live.head with
  | none => rfl
  | some h => simp

theorem Entry.won_ok {e : Entry} (he : e.live ≠ .empty) (h : e.Ok) : e.won.Ok := by
  have passes : e.won.live.passCount = e.live.passCount := by
    rw [e.won_live]
    split <;> simp
  have live : e.won.live ≠ .empty := by
    rw [e.won_live]
    split <;> simp [he]
  exact ⟨passes ▸ h.1, fun hw => absurd hw live⟩

/-- A scan keeps each entry in order: an EMPTY entry is no candidate and so wins none (R50). -/
theorem scanFrom_ok {cand : Copy → Bool} (hc : cand .empty = false) {n : Nat} {l : List Entry}
    (h : Filled n Entry.Ok l) (i : Nat) : Filled n Entry.Ok (scanFrom cand i l).rules := by
  induction l generalizing i n with
  | nil => exact h
  | cons e rest ih =>
    obtain ⟨rfl, hall⟩ := h
    obtain ⟨he, hrest⟩ := List.forall_mem_cons.1 hall
    obtain ⟨hlen, htail⟩ := ih ⟨rfl, hrest⟩ (i + 1)
    unfold scanFrom
    split
    · have live : e.live ≠ .empty := fun h => by simp_all
      split
      · exact ⟨rfl, List.forall_mem_cons.2 ⟨Entry.won_ok live he, hrest⟩⟩
      · exact ⟨congrArg (· + 1) hlen, List.forall_mem_cons.2 ⟨Entry.passed_ok he, htail⟩⟩
    · exact ⟨congrArg (· + 1) hlen, List.forall_mem_cons.2 ⟨he, htail⟩⟩

theorem releaseEntry_ok {n : Nat} {l : List Entry} (h : Filled n Entry.Ok l) (o : Option Nat) :
    Filled n Entry.Ok (releaseEntry o l) := by
  cases o with
  | none => exact h
  | some k => exact h.modify k fun _ => Entry.release_ok

/-! ### Images -/

/-- A write keeps every address of a buffer below a bound it keeps itself. -/
theorem memWrite_below {m : Mem} {n a : Nat} (h : ∀ p ∈ m, p.1 < n) (ha : a < n) (b : Byte) :
    ∀ p ∈ memWrite m a b, p.1 < n := by
  induction m with
  | nil =>
    unfold memWrite
    split <;> simp [ha]
  | cons q m ih =>
    obtain ⟨k, v⟩ := q
    obtain ⟨hk, hm⟩ := List.forall_mem_cons.1 h
    unfold memWrite
    split
    · split
      · exact h
      · exact List.forall_mem_cons.2 ⟨ha, h⟩
    · split
      · split
        · exact hm
        · exact List.forall_mem_cons.2 ⟨ha, hm⟩
      · exact List.forall_mem_cons.2 ⟨hk, ih hm⟩

theorem memWriteList_below {m : Mem} {n a : Nat} {l : List Byte} (h : ∀ p ∈ m, p.1 < n) (ha : a + l.length ≤ n) :
    ∀ p ∈ memWriteList m a l, p.1 < n := by
  induction l generalizing m a with
  | nil => exact h
  | cons b l ih =>
    rw [List.length_cons] at ha
    exact ih (memWrite_below h (by omega) b) (by omega)

theorem Image.busyUntil_ok {i : Image} (u : Option Tick) (h : i.Ok) : ({ i with busyUntil := u } : Image).Ok := h

theorem Image.protect_ok {i : Image} (p : BitVec 256) (h : i.Ok) : ({ i with protect := p } : Image).Ok := h

theorem Image.startWindow_ok {i : Image} (now : Tick) (h : i.Ok) : (i.startWindow now).Ok := by
  unfold Image.startWindow
  dsimp only
  (repeat' split) <;> exact h

/-- An image with its pointer moved inside its size. -/
theorem Image.pointer_ok {i : Image} (k : Nat) (h : i.Ok) : ({ i with pointer := k % i.size } : Image).Ok := by
  obtain ⟨size, size', time, -, rest⟩ := h
  exact ⟨size, size', time, Nat.mod_lt _ size, rest⟩

theorem Image.point_ok {i : Image} (b : Byte) (h : i.Ok) : (i.point b).Ok := Image.pointer_ok _ h

theorem Image.advance_ok {i : Image} (h : i.Ok) : i.advance.Ok := Image.pointer_ok _ h

/-- A target byte is written at the pointer, which lies inside the size (R72). -/
theorem Image.store_ok {i : Image} (b : Byte) (h : i.Ok) : (i.store b).Ok := by
  unfold Image.store
  refine Image.advance_ok ?_
  split
  · exact h
  · obtain ⟨size, size', time, pointer, -, wf, below⟩ := h
    exact ⟨size, size', time, pointer, Nat.min_le_left .., memWrite_wf wf,
      memWrite_below below (Nat.lt_of_lt_of_le pointer size') b⟩

theorem clampTo_mem {lo hi : Nat} (h : lo ≤ hi) (v : Nat) : lo ≤ clampTo lo hi v ∧ clampTo lo hi v ≤ hi := by
  unfold clampTo
  omega

/-- IMAGE CONFIG brings size and write time into their ranges, and zeroes the pointer with a changed size (R76). -/
theorem Image.config_ok {i : Image} (size time : Nat) (h : i.Ok) : ({ i with
    size := clampTo 1 Config.imageSize size, writeTime := clampTo 0 50 time
    pointer := if clampTo 1 Config.imageSize size = i.size then i.pointer else 0 } : Image).Ok := by
  obtain ⟨-, -, -, pointer, rest⟩ := h
  obtain ⟨low, high⟩ := clampTo_mem (lo := 1) (hi := Config.imageSize) (by decide) size
  refine ⟨low, high, (clampTo_mem (Nat.zero_le _) time).2, ?_, rest⟩
  dsimp only
  split
  · omega
  · exact low

theorem Image.write_ok {i : Image} (a : Nat) (l : List Byte) (hl : a + l.length ≤ Config.imageSize) (h : i.Ok) :
    ({ i with contents := memWriteList i.contents a l } : Image).Ok := by
  obtain ⟨size, size', time, pointer, count, wf, below⟩ := h
  exact ⟨size, size', time, pointer, count, memWriteList_wf wf, memWriteList_below below hl⟩

theorem Image.clearCount_ok {i : Image} (h : i.Ok) : ({ i with writeCount := 0 } : Image).Ok := by
  obtain ⟨size, size', time, pointer, -, rest⟩ := h
  exact ⟨size, size', time, pointer, Nat.zero_le _, rest⟩

end Sys2Proof.Machine
end

section
/-! SUPPORT. What the shared operations make of the rule table and of the images, whatever else they do (R46, R69). -/

namespace Sys2Proof.Machine

/-! ### Two states of a table -/

/-- The list `m` is in order where the list `l` is. -/
def Follows {α : Type} (n : Nat) (p : α → Prop) (l m : List α) : Prop := Filled n p l → Filled n p m

@[simp] theorem Follows.refl {α : Type} (n : Nat) (p : α → Prop) (l : List α) : Follows n p l l := id

/-- The rule table and the images of `t` are in order where those of `s` are. -/
abbrev StoresKept (s t : State) : Prop :=
  Follows 32 Entry.Ok s.rules t.rules ∧ Follows 4 Image.Ok s.images t.images

theorem storesKept_iff {s t : State} : StoresKept s t ↔ (s.TableOk → t.TableOk) ∧ (s.ImagesOk → t.ImagesOk) := .rfl

theorem StoresKept.refl (s : State) : StoresKept s s := ⟨id, id⟩

variable {s t : State} (ch : Chan)

/-- An operation that leaves both stores alone keeps them. -/
theorem StoresKept.of_eq {u : State} (h : StoresKept s t) (rules : u.rules = t.rules) (images : u.images = t.images) :
    StoresKept s u := by
  rwa [StoresKept, rules, images]

@[simp] theorem StoresKept.onImage (h : StoresKept s t) (k : Fin 4) {f : Image → Image} (hf : ∀ i, i.Ok → (f i).Ok) :
    StoresKept s (t.onImage k f) :=
  ⟨h.1, fun hs => (h.2 hs).modify k.val hf⟩

/-! ### The end of an exchange (R34) -/

@[simp] theorem StoresKept.endExchange (h : StoresKept s t) (k : EndKind) : StoresKept s (t.endExchange ch k) := by
  obtain ⟨rules, images⟩ := h
  rw [StoresKept, t.endExchange_rules_eq, t.endExchange_images_eq]
  cases (t.chan ch).exch with
  | none => exact ⟨rules, images⟩
  | some x =>
    refine ⟨fun hs => releaseEntry_ok (releaseEntry_ok (rules hs) _) _, fun hs => ?_⟩
    dsimp only
    unfold State.writeWindow
    (repeat' split)
    · exact images hs
    · exact (images hs).modify _ fun _ => Image.startWindow_ok _
    · exact images hs

@[simp] theorem StoresKept.cutFrame (h : StoresKept s t) : StoresKept s (t.cutFrame ch) := by
  simp [StoresKept, State.cutFrame, h]

@[simp] theorem StoresKept.takeCond (h : StoresKept s t) (b : Bool) (time : Tick) (k : Cond) :
    StoresKept s (t.takeCond ch b time k) := by
  cases k <;> cases b <;> simp [StoresKept, State.takeCond, State.takeStart, State.takeStop, h]

@[simp] theorem StoresKept.cCondition (h : StoresKept s t) (k : Cond) (n : Nat) :
    StoresKept s (t.cCondition ch k n) := by
  unfold State.cCondition
  dsimp only
  (repeat' split) <;> simp [StoresKept, h]

@[simp] theorem StoresKept.failExchange (h : StoresKept s t) : StoresKept s (t.failExchange ch) := by
  unfold State.failExchange
  split <;> simp [StoresKept, h]

@[simp] theorem StoresKept.abortStuck (h : StoresKept s t) : StoresKept s (t.abortStuck ch) := by
  simp [StoresKept, State.abortStuck, h]

@[simp] theorem StoresKept.clearStuckD (h : StoresKept s t) : StoresKept s (t.clearStuckD ch) := by
  simp [StoresKept, State.clearStuckD, h]

@[simp] theorem StoresKept.clearMade (h : StoresKept s t) : StoresKept s (t.clearMade ch) := by
  unfold State.clearMade
  dsimp only
  split <;> simp [StoresKept, h]

@[simp] theorem StoresKept.declareStuckC (h : StoresKept s t) : StoresKept s (t.declareStuckC ch) := by
  simp [StoresKept, State.declareStuckC, h]

@[simp] theorem StoresKept.clearStuckC (h : StoresKept s t) : StoresKept s (t.clearStuckC ch) := by
  simp [StoresKept, State.clearStuckC, h]

@[simp] theorem StoresKept.resetChannel (h : StoresKept s t) : StoresKept s (t.resetChannel ch) := by
  simp [StoresKept, State.resetChannel, h]

/-! ### The scans (R51, R56) -/

@[simp] theorem StoresKept.addressScan (h : StoresKept s t) (x : Exchange) : StoresKept s (t.addressScan ch x).1 :=
  .of_eq (t := { t with rules := (scanFrom (addressCandidate ch x.address x.direction) 0 t.rules).rules })
    ⟨fun hs => scanFrom_ok rfl (h.1 hs) 0, h.2⟩ (State.onExch_rules ..) (State.onExch_images ..)

@[simp] theorem StoresKept.indexScan (h : StoresKept s t) (x : Exchange) (b : Byte) :
    StoresKept s (t.indexScan ch x b).1 :=
  .of_eq (t := { t with rules := (scanFrom (indexCandidate ch x.address b) 0 t.rules).rules })
    ⟨fun hs => scanFrom_ok rfl (h.1 hs) 0, h.2⟩ (State.onExch_rules ..) (State.onExch_images ..)

@[simp] theorem StoresKept.lookAddress (h : StoresKept s t) (b : Byte) : StoresKept s (t.lookAddress ch b) := by
  simp [StoresKept, State.lookAddress, h]

@[simp] theorem StoresKept.addressStage (h : StoresKept s t) (x : Exchange) :
    StoresKept s (t.addressStage ch x) :=
  .of_eq (h.addressScan ch x) (by simp [State.addressStage]) (by simp [State.addressStage, State.addressScan])

@[simp] theorem StoresKept.takeAddress (h : StoresKept s t) (b : Byte) : StoresKept s (t.takeAddress ch b) := by
  unfold State.takeAddress
  dsimp only
  (repeat' split) <;> simp [StoresKept, h]

@[simp] theorem StoresKept.passAddress (h : StoresKept s t) (b : Byte) : StoresKept s (t.passAddress ch b) := by
  unfold State.passAddress
  split <;> simp [StoresKept, h]

/-- What was kept to the end of a D-side bit, acted on item by item (R31). -/
@[simp] theorem StoresKept.takeKept (h : StoresKept s t) (l : List Kept) : StoresKept s (t.takeKept ch l) := by
  induction l generalizing t with
  | nil => exact h
  | cons k rest ih =>
    cases k with
    | cond k b time => exact ih (h.takeCond ch b time k)
    | address b =>
      unfold State.takeKept
      split
      · exact ih (h.takeAddress ch b)
      · exact ih (h.passAddress ch b)

@[simp] theorem StoresKept.flushDeferred (h : StoresKept s t) : StoresKept s (t.flushDeferred ch) :=
  .takeKept ch (.of_eq h (State.onChan_rules ..) (State.onChan_images ..)) _

@[simp] theorem StoresKept.indexStage (h : StoresKept s t) (x : Exchange) (b : Byte) :
    StoresKept s (t.indexStage ch x b) := by
  refine .of_eq (h.indexScan ch x b) (by simp [State.indexStage]) ?_
  unfold State.indexStage State.indexAct
  dsimp only
  (repeat' split) <;> simp

@[simp] theorem StoresKept.byteStage (h : StoresKept s t) (x : Exchange) : StoresKept s (t.byteStage ch x) := by
  unfold State.byteStage
  dsimp only
  (repeat' split) <;> simp [StoresKept, h]

/-! ### Acknowledge bits (R28, R72, R73) -/

@[simp] theorem StoresKept.giveLocal (h : StoresKept s t) : StoresKept s (t.giveLocal ch) := by
  unfold State.giveLocal
  (repeat' split)
  · exact h
  · exact h
  · exact .of_eq (h.onImage _ fun _ => Image.advance_ok) (State.onChan_rules ..) (State.onChan_images ..)

@[simp] theorem StoresKept.storeByte (h : StoresKept s t) (x : Exchange) (k : Fin 4) :
    StoresKept s (t.storeByte ch x k) := by
  unfold State.storeByte
  dsimp only
  split
  · exact h.onImage k fun _ => Image.point_ok _
  · exact .of_eq (h.onImage k fun _ => Image.store_ok _) (State.onExch_rules ..) (State.onExch_images ..)

@[simp] theorem StoresKept.useLocal (h : StoresKept s t) : StoresKept s (t.useLocal ch) := by
  unfold State.useLocal
  (repeat' split) <;> simp [StoresKept, h]

@[simp] theorem StoresKept.addressAcked (h : StoresKept s t) (b : AckBit) : StoresKept s (t.addressAcked ch b) := by
  unfold State.addressAcked
  (repeat' split) <;> simp [StoresKept, h]

@[simp] theorem StoresKept.localReadAcked (h : StoresKept s t) (b : AckBit) :
    StoresKept s (t.localReadAcked ch b) := by
  cases b <;> simp [StoresKept, State.localReadAcked, h]

@[simp] theorem StoresKept.dataAcked (h : StoresKept s t) (x : Exchange) (b : AckBit) :
    StoresKept s (t.dataAcked ch x b) := by
  unfold State.dataAcked State.readAcked State.observedAck
  dsimp only
  (repeat' split) <;> simp [StoresKept, h]

/-! ### D-side failures (R40 to R42, R150) -/

@[simp] theorem StoresKept.relayLost (h : StoresKept s t) (op : DOp) : StoresKept s (t.relayLost ch op) := by
  unfold State.relayLost
  refine .flushDeferred ch ?_
  split <;> simp [StoresKept, h]

@[simp] theorem StoresKept.declareStuckD (h : StoresKept s t) : StoresKept s (t.declareStuckD ch) := by
  unfold State.declareStuckD State.setStuckD
  dsimp only
  (repeat' split) <;> simp [StoresKept, h]

@[simp] theorem StoresKept.loseD (h : StoresKept s t) : StoresKept s (t.loseD ch) := by
  unfold State.loseD
  dsimp only
  split <;> simp [StoresKept, h]

@[simp] theorem StoresKept.stretchOut (h : StoresKept s t) : StoresKept s (t.stretchOut ch) := by
  unfold State.stretchOut
  dsimp only
  (repeat' split) <;> simp [StoresKept, h]

@[simp] theorem StoresKept.closeFailed (h : StoresKept s t) : StoresKept s (t.closeFailed ch) := by
  unfold State.closeFailed
  dsimp only
  split <;> simp [StoresKept, h]

/-! ### The entry to ISOLATED and the supply (R9, R181, R183) -/

@[simp] theorem StoresKept.isolate (h : StoresKept s t) (c : JobCause) : StoresKept s (t.isolate ch c) := by
  simp [StoresKept, State.isolate, h]

@[simp] theorem StoresKept.isolateIfDue (h : StoresKept s t) (u : State) (c : JobCause) :
    StoresKept s (u.isolateIfDue c ch t) := by
  unfold State.isolateIfDue
  split
  · exact h.isolate ch c
  · exact h

/-- Both channels, whichever comes first (log entry 13). -/
theorem StoresKept.onBoth (h : StoresKept s t) (b : Bool) {f : Chan → State → State}
    (hf : ∀ ch u, StoresKept s u → StoresKept s (f ch u)) : StoresKept s (t.onBoth b f) := by
  unfold State.onBoth
  (repeat' split) <;> exact hf _ _ (hf _ _ h)

@[simp] theorem StoresKept.isolateBoth (h : StoresKept s t) (c : JobCause) : StoresKept s (t.isolateBoth c) :=
  .onBoth h _ fun ch _ hu => hu.isolateIfDue ch t c

@[simp] theorem StoresKept.supplyEvent (h : StoresKept s t) : StoresKept s t.supplyEvent := by
  simp [StoresKept, State.supplyEvent, h]

@[simp] theorem StoresKept.trip (h : StoresKept s t) (c : TripCause) : StoresKept s (t.trip c) := by
  simp [StoresKept, State.trip, h]

@[simp] theorem StoresKept.endStopping (h : StoresKept s t) (r : StopResult) : StoresKept s (t.endStopping r) := by
  simp [StoresKept, State.endStopping, h]

@[simp] theorem StoresKept.enterStopping (h : StoresKept s t) : StoresKept s t.enterStopping := by
  have refused : ∀ (u : State) (b : Bool), StoresKept s u → StoresKept s (u.onBoth b fun ch v => v.refuseHeld ch) :=
    fun u b hu => .onBoth hu b fun ch v hv => by simp [StoresKept, hv]
  have entered : StoresKept s (t.onSupply Supply.stop).supplyEvent := by simp [StoresKept, h]
  unfold State.enterStopping
  dsimp only
  split <;> simp [StoresKept, refused _ _ entered]

/-! ### The engine (R166 to R173) -/

@[simp] theorem StoresKept.unitStop (h : StoresKept s t) : StoresKept s t.unitStop := by
  unfold State.unitStop
  (repeat' split) <;> simp [StoresKept, h]

@[simp] theorem StoresKept.unitStops (h : StoresKept s t) : StoresKept s t.unitStops := by
  unfold State.unitStops
  (repeat' split) <;> simp [StoresKept, h]

@[simp] theorem StoresKept.useBurst (h : StoresKept s t) : StoresKept s t.useBurst := by
  unfold State.useBurst State.burstUsed
  dsimp only
  (repeat' split) <;> simp [StoresKept, h]

@[simp] theorem StoresKept.admitJob (h : StoresKept s t) (j : Job) : StoresKept s (t.admitJob j) := by
  unfold State.admitJob
  dsimp only
  split <;> simp [StoresKept, h]

end Sys2Proof.Machine
end

section
/-! Every step keeps the rule table and the images in order (O56). -/

namespace Sys2Proof.Machine

variable (s : State)

/-! ### The requests of the two stores (R61 to R67, R76 to R79) -/

/-- An entry replaced by one in order where the old one is. -/
theorem StoresKept.setRule {k : Nat} {e e' : Entry} (he : s.rules[k]? = some e) (ok : e.Ok → e'.Ok) :
    StoresKept s { s with rules := s.rules.set k e' } :=
  ⟨fun h => h.set k (ok (h.getElem? he)), id⟩

theorem ownWriteRule_kept (index : Byte) (r : RawRule) : StoresKept s (ownWriteRule index r s).1 := by
  unfold ownWriteRule
  split
  case h_1 he _ => exact .setRule s he (writePending_ok _)
  case h_2 => exact .refl s

theorem ownEraseRule_kept (index : Byte) : StoresKept s (ownEraseRule index s).1 := by
  unfold ownEraseRule
  split
  case h_1 => exact .refl s
  case h_2 he => exact .setRule s he (writePending_ok _)

theorem ownRearm_kept (index z : Byte) : StoresKept s (ownRearm index z s).1 := by
  unfold ownRearm
  split
  case h_1 he _ =>
    split
    · exact .refl s
    · exact .setRule s he fun _ => Entry.rearm_ok _ ‹_›
  case h_2 => exact .refl s

theorem ownSetEnabled_kept (index : Byte) (b : Bool) : StoresKept s (ownSetEnabled index b s).1 := by
  unfold ownSetEnabled
  split
  case h_1 => exact .refl s
  case h_2 he =>
    split
    · exact .refl s
    · exact .setRule s he (Entry.setEnabled_ok b)

theorem ownImageConfig_kept (image : Byte) (size : Half) (time : Byte) :
    StoresKept s (ownImageConfig image size time s).1 := by
  unfold ownImageConfig
  (repeat' split)
  case h_2.isFalse => exact (StoresKept.refl s).onImage _ fun _ => Image.config_ok _ _
  all_goals exact .refl s

theorem ownImageWrite_kept (image start : Byte) (l : List Byte) : StoresKept s (ownImageWrite image start l s).1 := by
  unfold ownImageWrite
  (repeat' split)
  case h_2.isFalse h => exact (StoresKept.refl s).onImage _ fun _ => Image.write_ok _ l (by omega)
  all_goals exact .refl s

theorem ownImageProtect_kept (image : Byte) (p : BitVec 256) : StoresKept s (ownImageProtect image p s).1 := by
  unfold ownImageProtect
  split
  · exact .refl s
  · exact (StoresKept.refl s).onImage _ fun _ => Image.protect_ok p

theorem ownImageRead_kept (image start : Byte) (count : Half) (z : Byte) :
    StoresKept s (ownImageRead image start count z s).1 := by
  unfold ownImageRead
  (repeat' split)
  case h_1.isFalse.isTrue => exact (StoresKept.refl s).onImage _ fun _ => Image.clearCount_ok
  all_goals exact .refl s

/-- TIME SET moves the until-times of the images and nothing else of them (R129). -/
theorem ownTimeSet_kept (count : Word) : StoresKept s (ownTimeSet count s).1 :=
  ⟨id, fun h => h.map fun _ => Image.busyUntil_ok _⟩

/-! ### Every request, and every event -/

theorem requestOwner_kept {i : Instr} {p : Byte × (State → State × Answer)} (h : requestOwner i = some p) :
    StoresKept s (p.2 s).1 := by
  cases i <;> cases h
  case writeRule => exact ownWriteRule_kept ..
  case eraseRule => exact ownEraseRule_kept ..
  case rearm => exact ownRearm_kept ..
  case enableRule => exact ownSetEnabled_kept ..
  case disableRule => exact ownSetEnabled_kept ..
  case imageConfig => exact ownImageConfig_kept ..
  case imageWrite => exact ownImageWrite_kept ..
  case imageProtect => exact ownImageProtect_kept ..
  case imageRead => exact ownImageRead_kept ..
  case timeSet => exact ownTimeSet_kept ..
  all_goals
    simp only [ownIdentify, ownSoftReset, ownNoticeNow, ownLinkConfig, ownChannelReset, ownReadRule, ownRelease,
      ownPark, ownHoldStatus, ownLogConfig, ownLogRead, ownLogClear, ownLogStatus, ownTimeRead, ownCompareConfig,
      ownCompareArm, ownCompareDisarm, ownTrigInConfig, ownTrigOut, ownRouteWrite, ownRouteRead, ownTriggerStatus,
      ownBusClear, ownHealthConfig, ownHealthStatus, ownStatsSnapshot, ownStatsRead, ownStageWrite, ownStageRead,
      ownStageCheck, ownJobStart, ownJobAbort, ownJobStatus, ownSetChannel, ownGetChannel, ownSupplyConfig, ownPowerOn,
      ownPowerOff, ownClearTrip, ownTripTest, ownResetAssert, ownResetRelease, ownResetPulse, ownSupplyStatus, State.supplyAnswer]
    (repeat' split) <;> simp [StoresKept]

theorem State.answerFrame_kept (r : Request) : StoresKept s (s.answerFrame r) := by
  unfold State.answerFrame
  split
  · exact .of_eq (.refl s) (State.reply_rules ..) (State.reply_images ..)
  · split
    · exact .refl s
    · exact .of_eq (requestOwner_kept s ‹_›) (State.reply_rules ..) (State.reply_images ..)

theorem execDispatch_kept : Leads (execDispatch s) (StoresKept s) := by
  unfold execDispatch
  (repeat' split)
  case h_2.isTrue => exact (leads_next ..).2 (State.answerFrame_kept (s.onLink _) _)
  all_goals exact (leads_next ..).2 (.refl s)

/-- The link's receiver and transmitter touch neither store. -/
theorem State.receive_kept (b : Byte) : StoresKept s (s.receive b) := by
  unfold State.receive State.headerDone State.judgeFrame State.acceptFrame State.discardFrame
  dsimp only
  (repeat' split) <;> simp [StoresKept]

theorem State.startFrame_kept : StoresKept s s.startFrame := by
  unfold State.startFrame State.startReport
  (repeat' split) <;> simp [StoresKept]

/-- A reset leaves the stores of power-on reset (R19, R195). -/
theorem StoresKept.of_reset {t : State} (rules : t.rules = State.reset.rules) (images : t.images = State.reset.images) :
    StoresKept s t := by
  obtain ⟨table, store, -⟩ := resetInOrder
  rw [StoresKept, rules, images]
  exact ⟨fun _ => table, fun _ => store⟩

theorem execSoftResetTaken_kept : Leads (execSoftResetTaken s) (StoresKept s) := by
  have kept : StoresKept s s.softReset := .of_reset s rfl rfl
  unfold execSoftResetTaken
  dsimp only
  (repeat' split) <;> simp [StoresKept, kept]

/-- The end of a write window touches no more of an image than its until-time (R70). -/
theorem execImageWindowExpiry_kept (k : Fin 4) : Leads (execImageWindowExpiry k s) (StoresKept s) := by
  unfold execImageWindowExpiry
  (repeat' split)
  case h_2.isTrue => exact (leads_next ..).2 ((StoresKept.refl s).onImage k fun _ => Image.busyUntil_ok _)
  all_goals exact (leads_next ..).2 (.refl s)

theorem exec_event_kept {i : Instr} (h : requestOwner i = none) : Leads (exec i s) (StoresKept s) := by
  cases i <;> simp only [requestOwner, reduceCtorEq] at h
  case softResetTaken => exact execSoftResetTaken_kept s
  case powerOnReset => exact (leads_next ..).2 (.of_reset s rfl rfl)
  case dispatch => exact execDispatch_kept s
  case imageWindowExpiry k => exact execImageWindowExpiry_kept s k
  case tick => exact (leads_ite ..).2 ⟨fun _ => (leads_next ..).2 (.refl s), fun _ => (leads_next ..).2 (.refl s)⟩
  case lrxByte b =>
    exact (leads_ite ..).2 ⟨fun _ => (leads_next ..).2 (.refl s), fun _ => (leads_next ..).2 (s.receive_kept b)⟩
  case transmitStart =>
    exact (leads_ite ..).2 ⟨fun _ => (leads_next ..).2 s.startFrame_kept, fun _ => (leads_next ..).2 (.refl s)⟩
  all_goals
    simp only [exec, execPowerOnResetEnd, execReceiveTimeout, execFrameSent, execLholdChange,
      execNoticeIntervalExpiry, execCStart, execCStop, execBusFreeTimeElapsed, execAddressByteComplete,
      execDataByteComplete, execCAckComplete, execGrantWaitStuckLimit, execDSideGrant, execDAddressAck,
      execDWriteByteDone, execDReadByteDone, execDReadAckDone, execDStopComplete, execDStopFailed,
      execClosePulsesFailed, execArbitrationLoss, execDStretchTimeout, execModeChange, execHoldTimeout,
      execCompareFire, execTriginEdge, execTrigOutPulseEnd, execStuckCDeclare, execStuckCClear,
      execStuckDLineTimeout, execStuckDClear, execBusClearPulseDone, execBusClearStopDone, execStatsPeriodExpiry,
      execChunkEnd, execProbeEnd, execBurstEnd, execPollLimitExpiry, execSettleTimeElapsed, execStoppingQuiesced,
      execQuiesceLimitExpiry, execOcsenseChange, execOvercurrentFilterExpiry, execResetPulseEnd,
      execDSideCondition, execBusLineChange, State.discardFrame, State.leaveReset, State.grantWaiter]
    (repeat' split) <;> simp [StoresKept]

theorem exec_kept (i : Instr) : Leads (exec i s) (StoresKept s) := by
  cases h : requestOwner i with
  | none => exact exec_event_kept s h
  | some p =>
    obtain ⟨tag, e⟩ := exec_request h s
    rw [e, leads_next, State.serve]
    split
    · exact .of_eq (requestOwner_kept s h) (State.reply_rules ..) (State.reply_images ..)
    · exact .refl s

/-- Settles O56: each command makes of the two stores what the operations on an entry and on an image make of them, and
each of those keeps its item in order. -/
theorem stepKeepsTableAndImages : Obligations.StepKeepsTableAndImages := by
  intro s t h
  unfold step at h
  split at h
  · cases h
    exact storesKept_iff.1 (.refl s)
  · rename_i i rest _
    exact storesKept_iff.1 (exec_kept { s with pending := rest } i t h)

end Sys2Proof.Machine
end

section
/-! The requests of the rule table (R61 to R67): O16, O18, O19, O20. -/

namespace Sys2Proof.Machine

variable {s : State} {tag index : Byte} {e : Entry}

/-! ### What each request makes of its entry -/

/-- A copy written to an entry: live at once where nothing refers to the entry, and pending otherwise (R61, R62). -/
theorem writePending_eq (c : Copy) (e : Entry) : writePending c e
    = if e.refs = 0 then ⟨c, none, c.passCount, 0, 0⟩ else { e with pending := some c } := by
  unfold writePending Entry.settle Entry.promote
  dsimp only
  split
  · rw [‹e.refs = 0›]
  · rfl

theorem ownWriteRule_refused {r : RawRule} (h : s.rules.length ≤ index.toNat ∨ ruleOf r = none) :
    ownWriteRule index r s = (s, refuse .badParam) := by
  unfold ownWriteRule
  split
  case h_1 he hc =>
    rcases h with h | h
    · rw [List.getElem?_eq_none h] at he
      cases he
    · rw [h] at hc
      cases hc
  case h_2 => rfl

theorem ownWriteRule_accepted {r : RawRule} {c : Copy} (he : s.rules[index.toNat]? = some e) (hc : ruleOf r = some c) :
    ownWriteRule index r s
      = (s.withEntry index.toNat (writePending c e), okWith [if e.refs = 0 then 1 else 0]) := by
  unfold ownWriteRule
  rw [he, hc]
  simp [State.withEntry, yesNo]

theorem ownEraseRule_refused (h : s.rules.length ≤ index.toNat) :
    ownEraseRule index s = (s, refuse .badParam) := by
  rw [ownEraseRule, List.getElem?_eq_none h]

theorem ownEraseRule_accepted (he : s.rules[index.toNat]? = some e) : ownEraseRule index s
    = (s.withEntry index.toNat (writePending .empty e), okWith [if e.refs = 0 then 1 else 0]) := by
  rw [ownEraseRule, he]
  simp [State.withEntry, yesNo]

theorem ownRearm_refused {z : Byte} (h : s.rules.length ≤ index.toNat) :
    ownRearm index z s = (s, refuse .badParam) := by
  rw [ownRearm, List.getElem?_eq_none h]

theorem ownRearm_empty {z : Byte} (he : s.rules[index.toNat]? = some e) (hl : e.live = .empty) :
    ownRearm index z s = (s, refuse .badParam) := by
  rw [ownRearm, he]
  cases boolOf z with
  | none => rfl
  | some zero => exact if_pos hl

/-- A choice byte of yes or no read back (R196). -/
theorem boolOf_ite (b : Bool) : boolOf (if b then 1 else 0) = some b := by cases b <;> rfl

theorem ownRearm_accepted (he : s.rules[index.toNat]? = some e) (hl : e.live ≠ .empty) (zero : Bool) :
    ownRearm index (if zero then 1 else 0) s = (s.withEntry index.toNat (e.rearm zero), okWith []) := by
  rw [ownRearm, he, boolOf_ite]
  exact if_neg hl

theorem ownSetEnabled_refused {b : Bool} (h : s.rules.length ≤ index.toNat) :
    ownSetEnabled index b s = (s, refuse .badParam) := by
  rw [ownSetEnabled, List.getElem?_eq_none h]

theorem ownSetEnabled_empty {b : Bool} (he : s.rules[index.toNat]? = some e) (hl : e.live = .empty) :
    ownSetEnabled index b s = (s, refuse .badParam) := by
  rw [ownSetEnabled, he]
  exact if_pos hl

theorem ownSetEnabled_accepted {b : Bool} (he : s.rules[index.toNat]? = some e) (hl : e.live ≠ .empty) :
    ownSetEnabled index b s
      = (s.withEntry index.toNat { e with live := e.live.setEnabled b }, okWith []) := by
  rw [ownSetEnabled, he]
  exact if_neg hl

theorem ownReadRule_refused (h : s.rules.length ≤ index.toNat) : ownReadRule index s = (s, refuse .badParam) := by
  rw [ownReadRule, List.getElem?_eq_none h]

theorem ownReadRule_answered (he : s.rules[index.toNat]? = some e) : ownReadRule index s
    = (s, okWith (e.live.bytes ++ le16 e.remaining ++ le32 e.hits
      ++ [BitVec.ofNat 8 e.refs, if e.pending.isSome then 1 else 0])) := by
  rw [ownReadRule, he]
  simp [le8, yesNo]

/-! ### The commands -/

/-- Settles O16. -/
theorem writeAndEraseRule : Obligations.WriteAndEraseRule := by
  intro s tag index hr
  have write (r : RawRule) : exec (.writeRule tag index r) s = .next (s.serve tag 0x20 (ownWriteRule index r)) := rfl
  have erase : exec (.eraseRule tag index) s = .next (s.serve tag 0x21 (ownEraseRule index)) := rfl
  simp only [write, erase, s.serve_of_ready hr]
  refine ⟨fun r h => ?_, fun h => ?_, fun e he => ⟨fun r c hc => ?_, ?_⟩⟩
  · rw [ownWriteRule_refused h]
    rfl
  · rw [ownEraseRule_refused h]
    rfl
  · rw [ownWriteRule_accepted he hc, writePending_eq]
    rfl
  · rw [ownEraseRule_accepted he, writePending_eq]
    rfl

/-- Settles O18. -/
theorem rearmRule : Obligations.RearmRule := by
  intro s tag index z hr len
  have rearm : exec (.rearm tag index z) s = .next (s.serve tag 0x23 (ownRearm index z)) := rfl
  rw [rearm, s.serve_of_ready hr]
  refine ⟨fun h => ?_, fun e he => ⟨fun hl => ?_, ?_⟩⟩
  · rw [ownRearm_refused (len ▸ h)]
    rfl
  · rw [ownRearm_empty he hl]
    rfl
  · rintro b rfl c hc rfl
    rw [ownRearm_accepted he hc]
    rfl

/-- Settles O19. -/
theorem enableDisableRule : Obligations.EnableDisableRule := by
  intro s tag index b hr len i code
  have enable : exec i s = .next (s.serve tag code (ownSetEnabled index b)) := by cases b <;> rfl
  rw [enable, s.serve_of_ready hr]
  refine ⟨fun h => ?_, fun e he => ⟨fun hl => ?_, fun h d a hl => ?_, fun h v m a hl => ?_⟩⟩
  · rw [ownSetEnabled_refused (len ▸ h)]
    rfl
  · rw [ownSetEnabled_empty he hl]
    rfl
  · rw [ownSetEnabled_accepted he (by simp [hl]), hl]
    rfl
  · rw [ownSetEnabled_accepted he (by simp [hl]), hl]
    rfl

/-- Settles O20: the layout of a live copy is read off kind by kind and action by action. -/
theorem readRule : Obligations.ReadRule := by
  intro s tag index hr
  have read : exec (.readRule tag index) s = .next (s.serve tag 0x22 (ownReadRule index)) := rfl
  rw [read, s.serve_of_ready hr]
  refine ⟨fun h => ?_, fun e he => ?_⟩
  · rw [ownReadRule_refused h]
    rfl
  · intro bit front marks timeout
    rw [ownReadRule_answered he]
    refine congrArg (fun l => Host.Outcome.next (s.withReply ⟨tag, 0x22, .ok, l ++ le16 e.remaining ++ le32 e.hits
      ++ [BitVec.ofNat 8 e.refs, bit e.pending.isSome]⟩)) (?_ : e.live.bytes = _)
    have addressBytes (h d a) : (Copy.address h d a).bytes = front 0 h ++ [d.code]
        ++ ([a.code] ++ optField (a.image.map fun k => le8 k.val) ++ optField (a.timeout.map fun t => [t.code]))
        ++ marks h ++ [0, 0] := by
      simp [Copy.bytes, copyBytes, optField, yesNo, le8, front, marks, bit, RuleHead.chanBits]
    have indexBytes (h v m a) : (Copy.index h v m a).bytes = front 1 h ++ [0]
        ++ ([a.code, 0] ++ optField (a.timeout.map fun t => [t.code])) ++ marks h ++ [1, v, 1, m] := by
      simp [Copy.bytes, copyBytes, optField, yesNo, le8, front, marks, bit, RuleHead.chanBits]
    cases e.live with
    | empty => rfl
    | address h d a =>
      rw [addressBytes]
      rcases a with _ | k | _ | t | _
      case hold => cases d <;> cases t <;> rfl
      all_goals cases d <;> rfl
    | index h v m a =>
      rw [indexBytes]
      rcases a with _ | t | _
      case hold => cases t <;> rfl
      all_goals rfl

end Sys2Proof.Machine
end

section
/-! The contents of a WRITE RULE (R63): O17. -/

namespace Sys2Proof.Machine

/-! ### One-byte fields -/

theorem Byte.eq_of_toNat {b : Byte} {n : Nat} (h : b.toNat = n) (hn : n < 256) : b = BitVec.ofNat 8 n :=
  BitVec.eq_of_toNat_eq (by rw [h, BitVec.toNat_ofNat, Nat.mod_eq_of_lt hn])

theorem Byte.le_one_iff {b : Byte} : b.toNat ≤ 1 ↔ b = 0 ∨ b = 1 := by
  constructor
  · intro h
    bv_omega
  · rintro (rfl | rfl) <;> decide

theorem boolOf_eq_some_iff {b : Byte} {v : Bool} : boolOf b = some v ↔ b.toNat ≤ 1 ∧ v = decide (b = 1) := by
  by_cases h : b.toNat ≤ 1
  · obtain rfl | rfl := Byte.le_one_iff.1 h <;> cases v <;> decide
  · simp [boolOf_none (b := b) (by omega), h]

theorem imageOf_eq (b : Byte) : imageOf b = if b.toNat ≤ 3 then some (Fin.ofNat 4 b.toNat) else none := by
  unfold imageOf
  by_cases h : b.toNat < 4
  · rw [dif_pos h, if_pos (by omega)]
    exact congrArg some (Fin.ext (Nat.mod_eq_of_lt h).symm)
  · rw [dif_neg h, if_neg (by omega)]

theorem timeoutOf_eq (b : Byte) : timeoutOf b
    = if b.toNat ≤ 1 then some (if b = 1 then .deny else .forward) else none := by
  by_cases h : b.toNat ≤ 1
  · rw [if_pos h]
    obtain rfl | rfl := Byte.le_one_iff.1 h <;> rfl
  · rw [Byte.le_one_iff, not_or] at h
    rw [timeoutOf, if_neg h.1, if_neg h.2, if_neg (by rw [Byte.le_one_iff]; tauto)]

theorem dirMatchOf_eq (b : Byte) : dirMatchOf b = if b.toNat ≤ 2 then
    some (if b = 0 then .write else if b = 1 then .read else .either) else none := by
  unfold dirMatchOf
  split
  case h_4 write read either =>
    exact (if_neg fun h => by
      obtain h | h | h : b.toNat = 0 ∨ b.toNat = 1 ∨ b.toNat = 2 := by omega
      exacts [write h, read h, either h]).symm
  all_goals
    obtain rfl := Byte.eq_of_toNat ‹b.toNat = _› (by decide)
    rfl

/-! ### Actions with their image and timeout disposition (R47, R48) -/

section
variable {action : Byte} {image timeout : Option Byte}

/-- The action an ADDRESS entry is given (R47). -/
theorem addrActionOf_eq_some {a : AddrAction} (h : addrActionOf action image timeout = some a) : a
    = if action = 0 then .forward else if action = 1 then .emulate (Fin.ofNat 4 (image.getD 0).toNat)
      else if action = 2 then .deny
      else if action = 3 then .hold (if timeout = some 1 then .deny else .forward) else .console := by
  unfold addrActionOf at h
  split at h
  case h_6 => cases h
  all_goals
    obtain rfl := Byte.eq_of_toNat ‹action.toNat = _› (by decide)
    simp only [imageOf_eq, timeoutOf_eq, Option.map_eq_some_iff, Option.ite_none_right_eq_some,
      Option.some.injEq] at h
    simp_all

/-- A field that is there exactly where `p` says is absent where `p` fails. -/
theorem absent_of_iff {o : Option Byte} {p : Prop} (h : o.isSome = true ↔ p) (hp : ¬ p) : o = none :=
  Option.not_isSome_iff_eq_none.1 (mt h.1 hp)

/-- The actions an ADDRESS entry may be given (R63). -/
theorem addrActionOf_isSome : (addrActionOf action image timeout).isSome = true ↔ action.toNat ≤ 4
    ∧ (image.isSome = true ↔ action = 1) ∧ (∀ k, image = some k → k.toNat ≤ 3)
    ∧ (timeout.isSome = true ↔ action = 3) ∧ ∀ v, timeout = some v → v.toNat ≤ 1 := by
  unfold addrActionOf
  split
  case h_6 forward emulate deny hold console =>
    refine iff_of_false (by simp) fun ⟨ha, hi, _, ht, _⟩ => ?_
    obtain h | h | h | h | h : action.toNat = 0 ∨ action.toNat = 1 ∨ action.toNat = 2 ∨ action.toNat = 3
      ∨ action.toNat = 4 := by omega
    all_goals obtain rfl := Byte.eq_of_toNat h (by decide)
    · exact forward rfl (absent_of_iff hi (by decide)) (absent_of_iff ht (by decide))
    · obtain ⟨k, rfl⟩ := Option.isSome_iff_exists.1 (hi.2 rfl)
      exact emulate k rfl rfl (absent_of_iff ht (by decide))
    · exact deny rfl (absent_of_iff hi (by decide)) (absent_of_iff ht (by decide))
    · obtain ⟨v, rfl⟩ := Option.isSome_iff_exists.1 (ht.2 rfl)
      exact hold v rfl (absent_of_iff hi (by decide)) rfl
    · exact console rfl (absent_of_iff hi (by decide)) (absent_of_iff ht (by decide))
  all_goals
    obtain rfl := Byte.eq_of_toNat ‹action.toNat = _› (by decide)
    simp [imageOf_eq, timeoutOf_eq]

/-- The action an INDEX entry is given (R48). -/
theorem indexActionOf_eq_some {a : IndexAction} (h : indexActionOf action image timeout = some a) : a
    = if action = 0 then .pass
      else if action = 1 then .hold (if timeout = some 1 then .deny else .forward) else .deny := by
  unfold indexActionOf at h
  split at h
  case h_4 => cases h
  all_goals
    obtain rfl := Byte.eq_of_toNat ‹action.toNat = _› (by decide)
    simp only [timeoutOf_eq, Option.map_eq_some_iff, Option.ite_none_right_eq_some, Option.some.injEq] at h
    simp_all

/-- The actions an INDEX entry may be given, none with an image (R63). -/
theorem indexActionOf_isSome : (indexActionOf action image timeout).isSome = true ↔ action.toNat ≤ 2 ∧ image = none
    ∧ (timeout.isSome = true ↔ action = 1) ∧ ∀ v, timeout = some v → v.toNat ≤ 1 := by
  unfold indexActionOf
  split
  case h_4 pass hold deny =>
    refine iff_of_false (by simp) fun ⟨ha, hi, ht, _⟩ => ?_
    obtain h | h | h : action.toNat = 0 ∨ action.toNat = 1 ∨ action.toNat = 2 := by omega
    all_goals obtain rfl := Byte.eq_of_toNat h (by decide)
    · exact pass rfl hi (absent_of_iff ht (by decide))
    · obtain ⟨v, rfl⟩ := Option.isSome_iff_exists.1 (ht.2 rfl)
      exact hold v rfl hi rfl
    · exact deny rfl hi (absent_of_iff ht (by decide))
  all_goals
    obtain rfl := Byte.eq_of_toNat ‹action.toNat = _› (by decide)
    simp [timeoutOf_eq]

end

/-! ### The fields both kinds share -/

/-- The shared fields as a copy has them (R47). -/
def ruleHead (r : RawRule) : RuleHead :=
  { enabled := decide (r.enabled = 1), onC0 := r.channels.getLsbD 0, onC1 := r.channels.getLsbD 1
    address := BitVec.ofNat 7 r.address.toNat, addressMask := BitVec.ofNat 7 r.addressMask.toNat
    record := decide (r.record = 1), trigger := decide (r.trigger = 1), oneshot := decide (r.oneshot = 1)
    passCount := r.passCount.toNat }

/-- The cases of R63 for the fields both kinds share. -/
def HeadFits (r : RawRule) : Prop := r.channels.toNat ∈ [1, 2, 3] ∧ r.address.toNat ≤ 127 ∧ r.addressMask.toNat ≤ 127
  ∧ r.enabled.toNat ≤ 1 ∧ r.record.toNat ≤ 1 ∧ r.trigger.toNat ≤ 1 ∧ r.oneshot.toNat ≤ 1

theorem ruleHeadOf_eq_some_iff {r : RawRule} {h : RuleHead} :
    ruleHeadOf r = some h ↔ HeadFits r ∧ h = ruleHead r := by
  have range : ¬ (r.channels = 0 ∨ 3 < r.channels.toNat ∨ 127 < r.address.toNat ∨ 127 < r.addressMask.toNat)
      ↔ r.channels.toNat ∈ [1, 2, 3] ∧ r.address.toNat ≤ 127 ∧ r.addressMask.toNat ≤ 127 := by
    have zero : r.channels = 0 ↔ r.channels.toNat = 0 := BitVec.toNat_eq
    simp only [List.mem_cons, List.not_mem_nil, or_false, zero]
    omega
  unfold ruleHeadOf HeadFits
  split
  case h_1 he hr ht ho =>
    obtain ⟨be, rfl⟩ := boolOf_eq_some_iff.1 he
    obtain ⟨br, rfl⟩ := boolOf_eq_some_iff.1 hr
    obtain ⟨bt, rfl⟩ := boolOf_eq_some_iff.1 ht
    obtain ⟨bo, rfl⟩ := boolOf_eq_some_iff.1 ho
    rw [Option.ite_none_left_eq_some, range, Option.some.injEq, eq_comm (b := h), ← and_assoc, ← and_assoc]
    simp [be, br, bt, bo, ruleHead, and_assoc]
  case h_2 none =>
    refine iff_of_false (by simp) fun ⟨⟨_, _, _, be, br, bt, bo⟩, _⟩ => ?_
    exact none _ _ _ _ (boolOf_eq_some_iff.2 ⟨be, rfl⟩) (boolOf_eq_some_iff.2 ⟨br, rfl⟩)
      (boolOf_eq_some_iff.2 ⟨bt, rfl⟩) (boolOf_eq_some_iff.2 ⟨bo, rfl⟩)

/-! ### The contents of each kind -/

theorem ruleOf_kind {r : RawRule} (h : (ruleOf r).isSome = true) : r.kind.toNat ≤ 1 := by
  unfold ruleOf at h
  split at h
  · omega
  · omega
  · cases h

/-- The contents of an ADDRESS entry (R47). -/
theorem ruleOf_address {r : RawRule} (hk : r.kind = 0) {c : Copy} : ruleOf r = some c ↔
    ∃ d a, HeadFits r ∧ dirMatchOf r.direction = some d ∧ addrActionOf r.action r.image r.timeout = some a
      ∧ r.indexValue = none ∧ r.indexMask = none ∧ c = .address (ruleHead r) d a := by
  constructor
  · intro h
    unfold ruleOf at h
    split at h
    case h_1 hh _ hv hm =>
      obtain ⟨fits, rfl⟩ := ruleHeadOf_eq_some_iff.1 hh
      split at h
      case h_1 hd ha =>
        cases h
        exact ⟨_, _, fits, hd, ha, hv, hm, rfl⟩
      case h_2 => cases h
    case h_2 h1 _ _ =>
      rw [hk] at h1
      cases h1
    case h_3 => cases h
  · rintro ⟨d, a, fits, hd, ha, hv, hm, rfl⟩
    simp [ruleOf, ruleHeadOf_eq_some_iff.2 ⟨fits, rfl⟩, hk, hv, hm, hd, ha]

/-- The contents of an INDEX entry (R48). -/
theorem ruleOf_index {r : RawRule} (hk : r.kind = 1) {c : Copy} : ruleOf r = some c ↔
    ∃ v m a, HeadFits r ∧ r.direction = 0 ∧ indexActionOf r.action r.image r.timeout = some a
      ∧ r.indexValue = some v ∧ r.indexMask = some m ∧ c = .index (ruleHead r) v m a := by
  constructor
  · intro h
    unfold ruleOf at h
    split at h
    case h_1 h0 _ _ =>
      rw [hk] at h0
      cases h0
    case h_2 hh _ hv hm =>
      obtain ⟨fits, rfl⟩ := ruleHeadOf_eq_some_iff.1 hh
      rw [Option.ite_none_right_eq_some] at h
      obtain ⟨hd, h⟩ := h
      obtain ⟨a, ha, rfl⟩ := Option.map_eq_some_iff.1 h
      exact ⟨_, _, a, fits, hd, ha, hv, hm, rfl⟩
    case h_3 => cases h
  · rintro ⟨v, m, a, fits, hd, ha, hv, hm, rfl⟩
    simp [ruleOf, ruleHeadOf_eq_some_iff.2 ⟨fits, rfl⟩, hk, hv, hm, hd, ha]

theorem dirMatchOf_eq_some_iff {b : Byte} {d : DirMatch} : dirMatchOf b = some d
    ↔ b.toNat ≤ 2 ∧ d = if b = 0 then .write else if b = 1 then .read else .either := by
  rw [dirMatchOf_eq, Option.ite_none_right_eq_some, Option.some.injEq, eq_comm (b := d)]

/-- Settles O17. -/
theorem ruleContents : Obligations.RuleContents := by
  refine ⟨fun r c h => ⟨fun hk => ?_, fun hk => ?_⟩, fun r => ⟨fun h => ?_, fun h => ?_⟩⟩
  · obtain ⟨d, a, -, hd, ha, -, -, rfl⟩ := (ruleOf_address hk).1 h
    rw [addrActionOf_eq_some ha, (dirMatchOf_eq_some_iff.1 hd).2]
    rfl
  · obtain ⟨v, m, a, -, -, ha, hv, hm, rfl⟩ := (ruleOf_index hk).1 h
    rw [indexActionOf_eq_some ha, hv, hm]
    rfl
  · have kind := ruleOf_kind h
    obtain ⟨c, h⟩ := Option.isSome_iff_exists.1 h
    have shared : HeadFits r := by
      obtain hk | hk := Byte.le_one_iff.1 kind
      · obtain ⟨_, _, fits, -⟩ := (ruleOf_address hk).1 h
        exact fits
      · obtain ⟨_, _, _, fits, -⟩ := (ruleOf_index hk).1 h
        exact fits
    obtain ⟨channels, address, mask, enabled, record, trigger, oneshot⟩ := shared
    refine ⟨kind, channels, address, mask, enabled, record, trigger, oneshot, fun hk => ?_, fun hk => ?_⟩
    · obtain ⟨d, a, -, hd, ha, hv, hm, -⟩ := (ruleOf_address hk).1 h
      obtain ⟨action, image, image', timeout, timeout'⟩ := addrActionOf_isSome.1 (Option.isSome_of_eq_some ha)
      exact ⟨(dirMatchOf_eq_some_iff.1 hd).1, action, image, image', timeout, timeout', hv, hm⟩
    · obtain ⟨v, m, a, -, hd, ha, hv, hm, -⟩ := (ruleOf_index hk).1 h
      obtain ⟨action, image, timeout, timeout'⟩ := indexActionOf_isSome.1 (Option.isSome_of_eq_some ha)
      exact ⟨hd, action, image, timeout, timeout', Option.isSome_of_eq_some hv, Option.isSome_of_eq_some hm⟩
  · obtain ⟨kind, channels, address, mask, enabled, record, trigger, oneshot, addressKind, indexKind⟩ := h
    have fits : HeadFits r := ⟨channels, address, mask, enabled, record, trigger, oneshot⟩
    rw [Option.isSome_iff_exists]
    obtain hk | hk := Byte.le_one_iff.1 kind
    · obtain ⟨direction, action, image, image', timeout, timeout', hv, hm⟩ := addressKind hk
      obtain ⟨a, ha⟩ := Option.isSome_iff_exists.1
        (addrActionOf_isSome.2 ⟨action, image, image', timeout, timeout'⟩)
      exact ⟨_, (ruleOf_address hk).2 ⟨_, a, fits, dirMatchOf_eq_some_iff.2 ⟨direction, rfl⟩, ha, hv, hm, rfl⟩⟩
    · obtain ⟨direction, action, image, timeout, timeout', hv, hm⟩ := indexKind hk
      obtain ⟨a, ha⟩ := Option.isSome_iff_exists.1 (indexActionOf_isSome.2 ⟨action, image, timeout, timeout'⟩)
      obtain ⟨v, hv⟩ := Option.isSome_iff_exists.1 hv
      obtain ⟨m, hm⟩ := Option.isSome_iff_exists.1 hm
      exact ⟨_, (ruleOf_index hk).2 ⟨v, m, a, fits, direction, ha, hv, hm, rfl⟩⟩

end Sys2Proof.Machine
end

section
/-! Which entries match and what a scan does (R50 to R53): O21. -/

namespace Sys2Proof.Machine

/-! ### Candidates (R50) -/

/-- Agreement under a mask, position by position. -/
theorem agrees_iff {w : Nat} (a b mask : BitVec w) :
    agrees a b mask = true ↔ ∀ i, i < w → mask.getLsbD i = false → a.getLsbD i = b.getLsbD i := by
  rw [agrees, decide_eq_true_eq, BitVec.eq_of_getLsbD_eq_iff]
  refine forall₂_congr fun i hi => ?_
  simp only [BitVec.getLsbD_and, BitVec.getLsbD_xor, BitVec.getLsbD_not, hi]
  cases mask.getLsbD i <;> simp

theorem RuleHead.admits_iff (h : RuleHead) (ch : Chan) (address : BitVec 7) : h.admits ch address = true ↔
    h.enabled = true ∧ h.on ch = true
      ∧ ∀ i, i < 7 → h.addressMask.getLsbD i = false → h.address.getLsbD i = address.getLsbD i := by
  rw [RuleHead.admits, Bool.and_eq_true, Bool.and_eq_true, agrees_iff, and_assoc]

theorem DirMatch.fits_iff (m : DirMatch) (d : Dir) :
    m.fits d = true ↔ m = .either ∨ m = .write ∧ d = .write ∨ m = .read ∧ d = .read := by
  cases m <;> simp [DirMatch.fits]

theorem addressCandidate_iff {ch : Chan} {address : BitVec 7} {dir : Dir} {c : Copy} :
    addressCandidate ch address dir c = true ↔
      ∃ h d a, c = .address h d a ∧ h.admits ch address = true ∧ d.fits dir = true := by
  cases c <;> simp [addressCandidate]

theorem indexCandidate_iff {ch : Chan} {address : BitVec 7} {byte : Byte} {c : Copy} :
    indexCandidate ch address byte c = true ↔
      ∃ h v m a, c = .index h v m a ∧ h.admits ch address = true ∧ agrees v byte m = true := by
  cases c <;> simp [indexCandidate]

/-! ### A scan (R51, R52) -/

/-- What a scan makes of an entry it passes: a candidate loses one pass (R51). -/
def Entry.scanPast (cand : Copy → Bool) (e : Entry) : Entry := if cand e.live then e.passed else e

/-- The entry wins a scan that comes to it (R51). -/
def Entry.Wins (cand : Copy → Bool) (e : Entry) : Prop := cand e.live = true ∧ e.remaining = 0

variable {cand : Copy → Bool} {e : Entry} {rest : List Entry}

theorem scanFrom_wins (h : e.Wins cand) (i : Nat) :
    scanFrom cand i (e :: rest) = ⟨e.won :: rest, some (i, e.live)⟩ := by
  rw [scanFrom, if_pos h.1, if_pos h.2]

theorem scanFrom_past (h : ¬ e.Wins cand) (i : Nat) : scanFrom cand i (e :: rest)
    = ⟨e.scanPast cand :: (scanFrom cand (i + 1) rest).rules, (scanFrom cand (i + 1) rest).winner⟩ := by
  rw [scanFrom, Entry.scanPast]
  by_cases hc : cand e.live = true
  · rw [if_pos hc, if_pos hc, if_neg fun h0 => h ⟨hc, h0⟩]
  · rw [if_neg hc, if_neg hc]

/-- A scan ends at the first entry that wins, or passes them all (R51). -/
theorem scanFrom_cases (cand : Copy → Bool) (l : List Entry) (i : Nat) :
    ((∀ e ∈ l, ¬ e.Wins cand) ∧ scanFrom cand i l = ⟨l.map (Entry.scanPast cand), none⟩)
      ∨ ∃ before e after, l = before ++ e :: after ∧ (∀ e ∈ before, ¬ e.Wins cand) ∧ e.Wins cand
        ∧ scanFrom cand i l
          = ⟨before.map (Entry.scanPast cand) ++ e.won :: after, some (i + before.length, e.live)⟩ := by
  induction l generalizing i with
  | nil => exact .inl ⟨by simp, rfl⟩
  | cons e rest ih =>
    by_cases h : e.Wins cand
    · exact .inr ⟨[], e, rest, rfl, by simp, h, scanFrom_wins h i⟩
    · rw [scanFrom_past h]
      rcases ih (i + 1) with ⟨none, hs⟩ | ⟨before, w, after, rfl, none, wins, hs⟩
      · rw [hs]
        exact .inl ⟨List.forall_mem_cons.2 ⟨h, none⟩, rfl⟩
      · rw [hs]
        refine .inr ⟨e :: before, w, after, rfl, List.forall_mem_cons.2 ⟨h, none⟩, wins, ?_⟩
        simp [Nat.add_assoc, Nat.add_comm 1]

theorem Entry.not_wins_iff : ¬ e.Wins cand ↔ (cand e.live = true → 0 < e.remaining) := by
  rw [Entry.Wins, not_and, Nat.pos_iff_ne_zero]

/-- Settles O21: a candidate is read off the bits of its fields, and a scan off the place at which it ends. -/
theorem scanDecides : Obligations.ScanDecides := by
  refine ⟨fun ch address dir c => ?_, fun ch address byte c => ?_, fun cand l => ?_⟩
  · simp only [addressCandidate_iff, RuleHead.admits_iff, DirMatch.fits_iff]
    cases ch <;> rfl
  · simp only [indexCandidate_iff, RuleHead.admits_iff, agrees_iff]
    cases ch <;> rfl
  · rcases scanFrom_cases cand l 0 with ⟨none, hs⟩ | ⟨before, e, after, rfl, none, wins, hs⟩
    · rw [hs]
      refine ⟨List.length_map _, fun k e he => ⟨Entry.not_wins_iff.1 (none e (List.mem_of_getElem? he)), ?_⟩⟩
      rw [List.getElem?_map, he]
      rfl
    · rw [hs]
      refine ⟨by simp, e, by simp, rfl, wins.1, wins.2,
        ⟨e.won, by simp, rfl, rfl, rfl, wins.2, e.won_live⟩, fun k f hk hf => ?_, fun k hk => ?_⟩
      · rw [Nat.zero_add] at hk
        rw [List.getElem?_append_left hk] at hf
        refine ⟨Entry.not_wins_iff.1 (none f (List.mem_of_getElem? hf)), ?_⟩
        rw [List.getElem?_append_left (by rwa [List.length_map]), List.getElem?_map, hf]
        rfl
      · obtain ⟨j, rfl⟩ : ∃ j, k = before.length + (j + 1) := ⟨k - before.length - 1, by omega⟩
        simp [List.getElem?_append_right]

end Sys2Proof.Machine
end

section
/-! The requests of the image store and the end of a write window (R70, R76 to R79): O22, O23. -/

namespace Sys2Proof.Machine

variable {s : State} {k : Fin 4} {i : Image}

/-! ### One image of the state -/

theorem State.image_of_getElem? (hi : s.images[k.val]? = some i) : s.image k = i := by
  rw [State.image, hi, Option.getD_some]

/-- A change to an image that is there puts the changed one in its place. -/
theorem State.onImage_eq (hi : s.images[k.val]? = some i) (f : Image → Image) : s.onImage k f = s.withImage k (f i) :=
  congrArg (fun l => { s with images := l }) (s.onImage_images k f hi)

theorem State.withImage_self (hi : s.images[k.val]? = some i) : s.withImage k i = s := by
  obtain ⟨_, rfl⟩ := List.getElem?_eq_some_iff.1 hi
  exact congrArg (fun l => { s with images := l }) (List.set_getElem_self _)

/-- A number above 3 names no image (R69). -/
theorem imageOf_none {b : Byte} (h : 4 ≤ b.toNat) : imageOf b = none := by
  rw [imageOf_eq, if_neg (by omega)]

/-! ### What each request makes of its image -/

/-- A range that begins at 0 only has its upper end to bring a value down to. -/
theorem clampTo_zero (hi v : Nat) : clampTo 0 hi v = min hi v := Nat.zero_max _

/-- ADJUSTED answers that one of the two values was outside its range (R76). -/
theorem okOrAdjusted_two (n size w time : Nat) (l : List Byte) :
    okOrAdjusted (decide (n ≠ size ∨ w ≠ time)) l = ⟨if n = size ∧ w = time then .ok else .adjusted, l⟩ := by
  by_cases same : n = size ∧ w = time
  · simp [okOrAdjusted, same]
  · simp [okOrAdjusted, same, ← not_and_or]

theorem ownImageConfig_stored (hi : s.images[k.val]? = some i) (free : s.imageInUse k = false) (size : Half)
    (time : Byte) : ownImageConfig (BitVec.ofNat 8 k.val) size time s
      = (s.withImage k { i with
          size := max 1 (min 256 size.toNat), writeTime := min 50 time.toNat
          pointer := if max 1 (min 256 size.toNat) = i.size then i.pointer else 0 },
        ⟨if max 1 (min 256 size.toNat) = size.toNat ∧ min 50 time.toNat = time.toNat then .ok else .adjusted, []⟩) := by
  rw [ownImageConfig, imageOf_ofNat]
  dsimp only
  rw [free, if_neg Bool.false_ne_true, State.onImage_eq hi, okOrAdjusted_two, clampTo_zero]
  rfl

theorem ownImageConfig_busy (used : s.imageInUse k = true) (size : Half) (time : Byte) :
    ownImageConfig (BitVec.ofNat 8 k.val) size time s = (s, refuse .busy) := by
  rw [ownImageConfig, imageOf_ofNat]
  exact if_pos used

theorem ownImageWrite_stored (hi : s.images[k.val]? = some i) {start : Byte} {bytes : List Byte} (given : bytes ≠ [])
    (fits : start.toNat + bytes.length ≤ 256) : ownImageWrite (BitVec.ofNat 8 k.val) start bytes s
      = (s.withImage k { i with contents := memWriteList i.contents start.toNat bytes }, okWith []) := by
  have accepted : ¬ (bytes = [] ∨ Config.imageSize < start.toNat + bytes.length) :=
    not_or.2 ⟨given, Nat.not_lt.2 fits⟩
  rw [ownImageWrite, imageOf_ofNat]
  dsimp only
  rw [if_neg accepted, State.onImage_eq hi]

theorem ownImageWrite_refused {start : Byte} {bytes : List Byte} (h : bytes = [] ∨ 256 < start.toNat + bytes.length) :
    ownImageWrite (BitVec.ofNat 8 k.val) start bytes s = (s, refuse .badParam) := by
  rw [ownImageWrite, imageOf_ofNat]
  exact if_pos h

theorem ownImageProtect_stored (hi : s.images[k.val]? = some i) (set : BitVec 256) :
    ownImageProtect (BitVec.ofNat 8 k.val) set s = (s.withImage k { i with protect := set }, okWith []) := by
  rw [ownImageProtect, imageOf_ofNat]
  dsimp only
  rw [State.onImage_eq hi]

/-- The state of an image with its until-time, one byte of yes or no and an optional field (R79, R196). -/
theorem Image.statusBytes_eq (i : Image) : i.statusBytes = le16 i.size ++ le8 i.writeTime
    ++ setBytes 32 i.protect.toNat ++ le8 i.pointer
    ++ (match i.busyUntil with
        | none => [0, 0]
        | some u => [1, 1] ++ le32 u.toNat) ++ le16 i.writeCount := by
  unfold Image.statusBytes Image.busy
  cases i.busyUntil with
  | none => simp [yesNo, optField]
  | some u => simp [yesNo, optField]

/-- IMAGE READ zeroes the target write count where asked, and elsewhere leaves the image as it is (R79). -/
theorem State.clearCount_eq (hi : s.images[k.val]? = some i) (clear : Bool) :
    (if clear then s.onImage k fun i => { i with writeCount := 0 } else s)
      = s.withImage k { i with writeCount := if clear then 0 else i.writeCount } := by
  cases clear with
  | true => exact State.onImage_eq hi _
  | false => exact (State.withImage_self hi).symm

theorem ownImageRead_answered (hi : s.images[k.val]? = some i) {start : Byte} {count : Half} (low : 1 ≤ count.toNat)
    (fits : start.toNat + count.toNat ≤ 256) (clear : Bool) :
    ownImageRead (BitVec.ofNat 8 k.val) start count (if clear then 1 else 0) s
      = (s.withImage k { i with writeCount := if clear then 0 else i.writeCount },
        okWith (memReadList i.contents start.toNat count.toNat ++ i.statusBytes)) := by
  have accepted : ¬ (count.toNat = 0 ∨ Config.imageSize < start.toNat + count.toNat) :=
    not_or.2 ⟨Nat.ne_of_gt low, Nat.not_lt.2 fits⟩
  rw [ownImageRead, imageOf_ofNat, boolOf_ite, ← State.clearCount_eq hi]
  dsimp only
  rw [if_neg accepted, State.image_of_getElem? hi]

theorem ownImageRead_refused {start : Byte} {count : Half} (h : count = 0 ∨ 256 < start.toNat + count.toNat)
    (clear : Bool) : ownImageRead (BitVec.ofNat 8 k.val) start count (if clear then 1 else 0) s
      = (s, refuse .badParam) := by
  rw [ownImageRead, imageOf_ofNat, boolOf_ite]
  exact if_pos (h.imp_left fun h0 => congrArg BitVec.toNat h0)

theorem ownImageRead_unnamed {image z : Byte} (h : 4 ≤ image.toNat ∨ 2 ≤ z.toNat) (start : Byte) (count : Half) :
    ownImageRead image start count z s = (s, refuse .badParam) := by
  unfold ownImageRead
  rcases h with high | high
  · rw [imageOf_none high]
  · rw [boolOf_none high]
    cases imageOf image <;> rfl

/-! ### The end of a write window (R70) -/

/-- An until-time stands as come to for half a wrap past it (log entry 6). -/
theorem reached_iff {now deadline : Tick} : reached now deadline = true ↔ (now - deadline).toNat < 2147483648 :=
  decide_eq_true_iff

theorem execImageWindowExpiry_ready (hi : s.images[k.val]? = some i) (idle : i.busyUntil = none) :
    execImageWindowExpiry k s = .next s := by
  rw [execImageWindowExpiry, State.image_of_getElem? hi, idle]

theorem execImageWindowExpiry_busy (hi : s.images[k.val]? = some i) (up : s.inReset = false) {u : Tick}
    (busy : i.busyUntil = some u) : execImageWindowExpiry k s
      = .next (if (s.tick - u).toNat < 2147483648 then s.withImage k { i with busyUntil := none } else s) := by
  rw [execImageWindowExpiry, State.image_of_getElem? hi, busy]
  dsimp only
  rw [State.onImage_eq hi, apply_ite Host.Outcome.next]
  simp only [up, true_and, reached_iff]

/-! ### The commands -/

/-- Settles O22. -/
theorem imageRequests : Obligations.ImageRequests := by
  intro s tag k i hr hi name
  have config (size time) : exec (.imageConfig tag name size time) s
      = .next (s.serve tag 0x30 (ownImageConfig name size time)) := rfl
  have write (start bytes) : exec (.imageWrite tag name start bytes) s
      = .next (s.serve tag 0x31 (ownImageWrite name start bytes)) := rfl
  have protect (set) : exec (.imageProtect tag name set) s
      = .next (s.serve tag 0x33 (ownImageProtect name set)) := rfl
  simp only [config, write, protect, s.serve_of_ready hr]
  refine ⟨fun size time free => ?_, fun size time used => ?_, fun start bytes given fits => ?_,
    fun start bytes h => ?_, fun set => ?_⟩
  · rw [ownImageConfig_stored hi free]
  · rw [ownImageConfig_busy used]
    rfl
  · rw [ownImageWrite_stored hi given fits]
    rfl
  · rw [ownImageWrite_refused h]
    rfl
  · rw [ownImageProtect_stored hi]
    rfl

/-- Settles O23: the read and its refusals, then the window by whether the image is BUSY and its end has come. -/
theorem imageReadAndWindow : Obligations.ImageReadAndWindow := by
  refine ⟨fun s tag k i start count clear hr hi => ?_, fun s k i hi up => ?_⟩
  · have read (image z) : exec (.imageRead tag image start count z) s
        = .next (s.serve tag 0x32 (ownImageRead image start count z)) := rfl
    simp only [read, s.serve_of_ready hr]
    refine ⟨fun low fits => ?_, fun h => ?_, fun image z h => ?_⟩
    · rw [ownImageRead_answered hi low fits, Image.statusBytes_eq]
      rfl
    · rw [ownImageRead_refused h]
      rfl
    · rw [ownImageRead_unnamed h]
      rfl
  · have expiry : exec (.imageWindowExpiry k) s = execImageWindowExpiry k s := rfl
    rw [expiry]
    refine ⟨fun u busy come => ?_, fun u busy early => ?_, execImageWindowExpiry_ready hi⟩
    · rw [execImageWindowExpiry_busy hi up busy, if_pos come]
    · rw [execImageWindowExpiry_busy hi up busy, if_neg (Nat.not_lt.2 early)]

end Sys2Proof.Machine
end

section
/-! A hold ended by RELEASE or by its timeout, and its disposition carried out (R94 to R97, R101): O25. -/

namespace Sys2Proof.Machine

variable {ch : Chan} {s t u v : State} {h : Hold} {x : Exchange} {atIndex : Bool} {p : Planned} {cause : HoldCause}

/-! ### What a disposition leaves of its channel -/

/-- What a disposition carried out on a held exchange may change of the channel, but for the measurements of its lines
(R95, R96): only FORWARD and CONTINUE reach the D-side, and only DENY at the index stage counts a NACKed byte. -/
structure Disposed (atIndex : Bool) (p : Planned) (c d : Channel) : Prop where
  rest : d = { c with
    phase := d.phase, pull := d.pull, exch := d.exch, arb := d.arb, dOp := d.dOp, dSpan := d.dSpan
    latched := d.latched, dFree := d.dFree, grantWait := d.grantWait, grantLimitTaken := d.grantLimitTaken
    noted := d.noted, meters := d.meters, health := { c.health with
      running := { c.health.running with dataNacks := d.health.running.dataNacks } } }
  dSide : p ≠ .forward → p ≠ .resume → d.arb.holder = c.arb.holder ∧ d.arb.last = c.arb.last ∧ d.dOp = c.dOp
    ∧ d.dSpan = c.dSpan ∧ d.latched = c.latched ∧ d.dFree = c.dFree ∧ d.pull.d = c.pull.d
  nacks : p ≠ .deny ∨ atIndex = false → d.health.running.dataNacks = c.health.running.dataNacks

theorem Disposed.same {c d e : Channel} (h : Disposed atIndex p c d) (k : SameChannel d e) :
    Disposed atIndex p c e := by
  obtain ⟨rest, dSide, nacks⟩ := h
  rw [k]
  refine ⟨?_, dSide, nacks⟩
  rw [rest]

/-- From state `v` to state `t` one channel has changed, and as a disposition may change it. -/
def Disposes (ch : Chan) (atIndex : Bool) (p : Planned) (v t : State) : Prop :=
  ∃ f : Channel → Channel, t = v.onChan ch f ∧ Disposed atIndex p (v.chan ch) (f (v.chan ch))

theorem State.refuseAddress_disposes (d : Disposition) : Disposes ch atIndex p v (v.refuseAddress ch d) :=
  ⟨_, rfl, rfl, fun _ _ => ⟨rfl, rfl, rfl, rfl, rfl, rfl, rfl⟩, fun _ => rfl⟩

theorem State.answerLocal_disposes (d : Disposition) (i : Option (Fin 4)) :
    Disposes ch atIndex p v (v.answerLocal ch d i) :=
  ⟨_, rfl, rfl, fun _ _ => ⟨rfl, rfl, rfl, rfl, rfl, rfl, rfl⟩, fun _ => rfl⟩

theorem State.applyForward_disposes : Disposes ch atIndex .forward v (v.applyForward ch) := by
  refine ⟨_, v.applyForward_eq ch, ?_, nofun, fun _ => ?_⟩ <;> dsimp only [Channel.askRelay]
  all_goals (repeat' split) <;> rfl

theorem State.useByte_disposes : Disposes ch atIndex .resume v (v.useByte ch) := by
  refine ⟨_, rfl, ?_, nofun, fun _ => ?_⟩ <;> dsimp only <;> (repeat' split) <;> rfl

/-- A NACK noted changes the exchange, the mark of the byte and DATA_NACKS (R154). -/
theorem Channel.nackNoted_frame (x : Exchange) (c : Channel) : c.nackNoted x = { c with
    noted := (c.nackNoted x).noted, exch := (c.nackNoted x).exch
    health := { c.health with running := { c.health.running with
      dataNacks := (c.nackNoted x).health.running.dataNacks } } } := by
  unfold Channel.nackNoted
  split <;> rfl

theorem State.refuseByte_disposes (hx : (v.chan ch).exch = some x) :
    Disposes ch true .deny v (v.refuseByte ch) := by
  refine ⟨_, v.refuseByte_eq ch, ?_⟩
  unfold Channel.byteRefused
  rw [hx, Option.elim_some, Channel.nackNoted_frame]
  exact ⟨rfl, fun _ _ => ⟨rfl, rfl, rfl, rfl, rfl, rfl, rfl⟩, fun h => absurd h (by decide)⟩

theorem State.apply_disposes : Disposes ch atIndex p v (v.apply ch p) := by
  cases p with
  | forward => exact State.applyForward_disposes
  | deny => exact State.refuseAddress_disposes _
  | resume => exact State.useByte_disposes
  | emulate k =>
    unfold State.apply State.applyEmulate
    dsimp only
    split
    · exact State.refuseAddress_disposes _
    · exact State.answerLocal_disposes _ _
  | console =>
    unfold State.apply State.applyConsole
    dsimp only
    (repeat' split)
    · exact State.refuseAddress_disposes _
    · exact State.refuseAddress_disposes _
    · exact State.answerLocal_disposes _ _

theorem State.applyHeld_disposes (hx : (v.chan ch).exch = some x) :
    Disposes ch atIndex p v (v.applyHeld ch atIndex p) := by
  unfold State.applyHeld
  split
  · rename_i hd
    obtain ⟨rfl, rfl⟩ := hd
    exact State.refuseByte_disposes hx
  · exact State.apply_disposes

/-! ### What is carried out -/

/-- A byte refused at the index stage, its NACK taken before or not (R96, R154, log entry 20). -/
theorem State.refuseByte_carries (hx : (v.chan ch).exch = some x) :
    Carried ch true (v.chan ch).noted .deny x v (v.refuseByte ch).retimeAll := by
  obtain ⟨phase, pull, dOp⟩ := (v.chan ch).byteRefused_shown
  obtain ⟨nacks, exch⟩ := Channel.byteRefused_noted hx
  have arb : (v.chan ch).byteRefused.arb = (v.chan ch).arb := by
    unfold Channel.byteRefused
    rw [hx, Option.elim_some, Channel.nackNoted_frame]
    rfl
  unfold Carried
  dsimp only
  rw [if_pos rfl, State.refuseByte_eq, State.chan_onChan_retimeAll]
  exact ⟨phase, (congrArg Lines.c pull :), nacks, exch, arb, dOp, (congrArg Lines.d pull :)⟩

theorem State.applyHeld_carries (hx : (v.chan ch).exch = some x) :
    Carried ch atIndex (v.chan ch).noted p x v (v.applyHeld ch atIndex p).retimeAll := by
  by_cases hd : atIndex = true ∧ p = .deny
  · rw [State.applyHeld, if_pos hd]
    obtain ⟨rfl, rfl⟩ := hd
    exact State.refuseByte_carries hx
  rw [State.applyHeld, if_neg hd]
  by_cases hf : p = .forward
  · subst hf
    exact State.applyForward_carried hx rfl rfl rfl rfl rfl
  have applied := State.apply_carried (s := v) (g := id) hf hx rfl
  rw [State.onChan_self (h := rfl)] at applied
  cases p with
  | forward => exact absurd rfl hf
  | deny =>
    obtain rfl : atIndex = false := by simpa using hd
    exact applied
  | emulate k => exact applied
  | console => exact applied
  | resume => exact applied

/-- What is carried out does not depend on the hold having left the list. -/
theorem Carried.of_unheld {noted : Bool} (chan : v.chan ch = { s.chan ch with hold := none })
    (images : v.images = s.images) (h : Carried ch atIndex noted p x v t) : Carried ch atIndex noted p x s t := by
  have image : v.image = s.image := funext fun k => by rw [State.image, State.image, images]
  unfold Carried at h ⊢
  rw [chan, image] at h
  exact h

/-! ### The hold's end -/

theorem OnlyChannelsAndLog.onChan (h : OnlyChannelsAndLog s u) (f : Channel → Channel) :
    OnlyChannelsAndLog s (u.onChan ch f) := by
  unfold OnlyChannelsAndLog at h ⊢
  rw [h]
  cases ch <;> rfl

theorem OnlyChannelsAndLog.retimeAll (h : OnlyChannelsAndLog s u) : OnlyChannelsAndLog s u.retimeAll :=
  (h.onChan (ch := .c0) fun c => { c with meters := u.metersNow .c0 }).onChan (ch := .c1) fun c =>
    { c with meters := (u.retime .c0).metersNow .c1 }

/-- A hold in the list leaves it with its record handed to the log and HOLDn raised (R101). -/
theorem State.endHold_eq (hh : (s.chan ch).hold = some h) (a : Option Planned) : s.endHold ch a cause
    = ((s.hand (some ch) (.holdEnd a cause h.heldMs)).raise (holdNotice ch)).onChan ch
      fun c => { c with hold := none } := by
  unfold State.endHold
  rw [hh]
  dsimp only
  rw [State.hand_onChan]
  cases ch <;> rfl

theorem State.endHold_only (hh : (s.chan ch).hold = some h) (a : Option Planned) :
    OnlyChannelsAndLog s (s.endHold ch a cause) := by
  rw [State.endHold_eq hh]
  refine OnlyChannelsAndLog.onChan ?_ _
  unfold OnlyChannelsAndLog State.raise
  rw [State.hand_frame]

theorem State.endHold_log (hh : (s.chan ch).hold = some h) (a : Option Planned) :
    (s.endHold ch a cause).log = (s.hand (some ch) (.holdEnd a cause h.heldMs)).log := by
  rw [State.endHold_eq hh, State.onChan_log, State.raise_log]

section
variable (s ch atIndex p cause) (hx : (s.chan ch).exch = some x)
include hx

theorem State.endHold_exch : ((s.endHold ch (some p) cause).chan ch).exch = some x := by
  rw [(s.endHold_chan ch (some p) cause).1]
  exact hx

theorem State.finishHold_disposes : ∃ t, s.finishHold ch atIndex p cause = t.retimeAll
    ∧ Disposes ch atIndex p (s.endHold ch (some p) cause) t :=
  ⟨_, rfl, State.applyHeld_disposes (s.endHold_exch ch p cause hx)⟩

theorem State.finishHold_carries :
    Carried ch atIndex (s.chan ch).noted p x s (s.finishHold ch atIndex p cause) := by
  obtain ⟨chan, -⟩ := s.endHold_chan ch (some p) cause
  have carried := State.applyHeld_carries (atIndex := atIndex) (p := p) (s.endHold_exch ch p cause hx)
  rw [chan] at carried
  exact carried.of_unheld chan (by simp)

/-- The channel of a hold that has ended, its disposition carried out. -/
theorem State.finishHold_chan :
    Disposed atIndex p { s.chan ch with hold := none } ((s.finishHold ch atIndex p cause).chan ch) := by
  obtain ⟨t, done, f, rfl, disposed⟩ := s.finishHold_disposes ch atIndex p cause hx
  rw [← State.chan_onChan_same _ ch f, (s.endHold_chan ch (some p) cause).1] at disposed
  rw [done]
  exact disposed.same (State.sameChannel_retimeAll _ ch)

theorem State.finishHold_other :
    SameChannel (s.chan (other ch)) ((s.finishHold ch atIndex p cause).chan (other ch)) := by
  obtain ⟨t, done, f, rfl, -⟩ := s.finishHold_disposes ch atIndex p cause hx
  rw [done, ← (s.endHold_chan ch (some p) cause).2, ← State.chan_onChan_other _ ch f]
  exact State.sameChannel_retimeAll _ _

theorem State.finishHold_only (hh : (s.chan ch).hold = some h) :
    OnlyChannelsAndLog s (s.finishHold ch atIndex p cause) := by
  obtain ⟨t, done, f, rfl, -⟩ := s.finishHold_disposes ch atIndex p cause hx
  rw [done]
  exact ((State.endHold_only hh (some p)).onChan f).retimeAll

end

/-! ### RELEASE and HOLD_TIMEOUT -/

/-- The disposition a RELEASE names, PLANNED standing for the planned one; the index stage takes it where its code is 0
or 2 (R94). -/
theorem dispositionOf_names {d : Byte} {planned : Planned} (names : d = 0 ∧ p = planned ∨ d = 1 ∧ p = .forward
      ∨ d = 2 ∧ p = .deny ∨ ∃ k : Fin 4, d = BitVec.ofNat 8 (8 + k.val) ∧ p = .emulate k) :
    ∃ o, dispositionOf d = some o ∧ o.getD planned = p ∧ (d.toNat ∈ [0, 2] → notAtIndex o = false) := by
  rcases names with ⟨rfl, rfl⟩ | ⟨rfl, rfl⟩ | ⟨rfl, rfl⟩ | ⟨k, rfl, rfl⟩
  · exact ⟨none, rfl, rfl, fun _ => rfl⟩
  · exact ⟨some .forward, rfl, rfl, fun hd => absurd hd (by decide)⟩
  · exact ⟨some .deny, rfl, rfl, fun _ => rfl⟩
  · refine ⟨some (.emulate k), ?_, rfl, fun hd => absurd hd ?_⟩ <;> revert k <;> decide

theorem ownRelease_ends {d : Byte} {o : Option Planned} (named : dispositionOf d = some o)
    (hh : (s.chan ch).hold = some h) (taken : h.origin.atIndex = true → notAtIndex o = false) :
    ownRelease (chanCode ch) d s = (s.finishHold ch h.origin.atIndex (o.getD h.planned) .released,
      okWith [(o.getD h.planned).code]) := by
  have accepted : ¬ (h.origin.atIndex = true ∧ notAtIndex o = true) := fun ⟨index, refused⟩ => by
    simp [taken index] at refused
  rw [ownRelease, chanOf_code, named]
  dsimp only
  rw [hh]
  exact if_neg accepted

theorem execHoldTimeout_held (hh : (s.chan ch).hold = some h) : execHoldTimeout ch s
    = .next (if s.inReset = false ∧ h.due s.tick = true then
        s.finishHold ch h.origin.atIndex h.onTimeout .timeout else s) := by
  rw [execHoldTimeout, hh, apply_ite Host.Outcome.next]

theorem Hold.due_none (now : Tick) (never : h.deadline = none) : h.due now = false := by
  rw [Hold.due, never]

theorem Hold.due_iff {now u : Tick} (deadline : h.deadline = some u) :
    h.due now = true ↔ (now - u).toNat < 2147483648 := by
  rw [Hold.due, deadline]
  exact reached_iff

/-- Settles O25: the hold leaves the list, and then its disposition changes its channel alone; the commands by which
disposition they apply. -/
theorem holdEnds : Obligations.HoldEnds := by
  intro s ch h x hh hx c ended
  have finish : ∀ p cause, ended p cause (s.finishHold ch h.origin.atIndex p cause) := fun p cause => by
    have chan := s.finishHold_chan ch h.origin.atIndex p cause hx
    refine ⟨?_, ?_, ?_, s.finishHold_carries ch _ p cause hx, s.finishHold_only ch _ p cause hx hh,
      s.finishHold_other ch _ p cause hx, chan.rest, chan.dSide, chan.nacks⟩
    · rw [chan.rest]
    · rw [State.finishHold, State.retimeAll_log, State.applyHeld_log]
      exact State.endHold_log hh _
    · rw [State.finishHold, State.retimeAll_link, State.applyHeld_link]
      exact (s.endHold_noticed ch (some p) cause).2 (by rw [hh]; rfl)
  refine ⟨fun tag d p hr index names => ?_, fun up u deadline come => ?_, fun never => ?_, fun u deadline early => ?_⟩
  · obtain ⟨o, named, applied, taken⟩ := dispositionOf_names names
    have release : exec (.release tag (chanCode ch) d) s
      = .next (s.serve tag 0x38 (ownRelease (chanCode ch) d)) := rfl
    refine ⟨_, ?_, finish p .released⟩
    rw [release, s.serve_of_ready hr, ownRelease_ends named hh fun hi => taken (index hi), applied]
    rfl
  all_goals rw [show exec (.holdTimeout ch) s = execHoldTimeout ch s from rfl, execHoldTimeout_held hh]
  · refine ⟨_, ?_, finish h.onTimeout .timeout⟩
    rw [if_pos ⟨up, (Hold.due_iff deadline).2 come⟩]
  · rw [if_neg (by simp [Hold.due_none s.tick never])]
  · rw [if_neg fun due => Nat.not_lt.2 early ((Hold.due_iff deadline).1 due.2)]

end Sys2Proof.Machine
end

section
/-! PARK, HOLD STATUS, and what RELEASE refuses (R94, R102, R103): O24. -/

namespace Sys2Proof.Machine

variable {ch : Chan} {s : State} {h : Hold} {chan d choice : Byte}

/-! ### PARK (R102) -/

theorem ownPark_set (outside : (s.chan ch).mode ≠ .isolated) : ownPark (chanCode ch) 0 s
    = (s.onChan ch fun c => { c with park := true }, okWith (yesNo (s.chan ch).park)) := by
  rw [ownPark, chanOf_code]
  exact if_neg outside

theorem ownPark_isolated (inside : (s.chan ch).mode = .isolated) :
    ownPark (chanCode ch) 0 s = (s, refuse .wrongMode) := by
  rw [ownPark, chanOf_code]
  exact if_pos inside

theorem ownPark_cancel : ownPark (chanCode ch) 1 s
    = (s.onChan ch fun c => { c with park := false }, okWith (yesNo (s.chan ch).park)) := by
  rw [ownPark, chanOf_code]
  rfl

theorem ownPark_refused (bad : 2 ≤ chan.toNat ∨ 2 ≤ choice.toNat) : ownPark chan choice s = (s, refuse .badParam) := by
  unfold ownPark
  rcases bad with high | high
  · rw [chanOf_none high]
  · split
    · omega
    · omega
    · rfl

/-! ### HOLD STATUS (R103) -/

theorem ownHoldStatus_empty (free : (s.chan ch).hold = none) : ownHoldStatus (chanCode ch) s
    = (s, okWith ([0, 0] ++ yesNo (s.chan ch).park)) := by
  rw [ownHoldStatus, chanOf_code]
  dsimp only
  rw [free]
  rfl

theorem ownHoldStatus_held (hh : (s.chan ch).hold = some h) : ownHoldStatus (chanCode ch) s
    = (s, okWith (1 :: 1 :: h.bytes ch s.tick ++ yesNo (s.chan ch).park)) := by
  rw [ownHoldStatus, chanOf_code]
  dsimp only
  rw [hh]
  rfl

theorem ownHoldStatus_unnamed (high : 2 ≤ chan.toNat) : ownHoldStatus chan s = (s, refuse .badParam) := by
  rw [ownHoldStatus, chanOf_none high]

/-- No time is left for half a wrap past a deadline (log entry 6). -/
theorem msUntil_eq (now deadline : Tick) : msUntil now deadline
    = if (now - deadline).toNat < 2147483648 then 0 else (deadline - now).toNat / 1000 := by
  simp only [msUntil, reached_iff]

/-- The hold record of HOLD STATUS, by whether it has a deadline (R87, R103, R196). -/
theorem Hold.bytes_eq (h : Hold) (ch : Chan) (now : Tick) : h.bytes ch now
    = [chanCode ch, h.origin.code, h.origin.stage] ++ le8 h.address.toNat
      ++ [h.direction.code, h.byte, h.planned.code, h.timeout.code] ++ le32 h.start.toNat
      ++ (match h.deadline with
          | none => [0]
          | some d => 1 :: le32 d.toNat)
      ++ le32 (min 4294967295 (h.elapsed / 1000))
      ++ (match h.deadline with
          | none => [0]
          | some d => 1 :: le16 (if (now - d).toNat < 2147483648 then 0 else (d - now).toNat / 1000)) := by
  unfold Hold.bytes
  cases h.deadline with
  | none => rfl
  | some d =>
    rw [Option.map_some, Option.map_some, msUntil_eq]
    rfl

/-! ### RELEASE (R94) -/

/-- The codes of RELEASE's dispositions are those of its list (R94, R196). -/
theorem dispositionOf_isSome : (dispositionOf d).isSome = true ↔ d.toNat ∈ [0, 1, 2, 8, 9, 10, 11] := by
  unfold dispositionOf
  split <;> simp_all

/-- FORWARD and EMULATE are what the index stage does not take (R94). -/
theorem notAtIndex_iff {o : Option Planned} (named : dispositionOf d = some o) :
    notAtIndex o = true ↔ d.toNat ∈ [1, 8, 9, 10, 11] := by
  unfold dispositionOf at named
  split at named
  case h_8 => exact absurd named nofun
  all_goals
    obtain rfl := Option.some.inj named
    simp_all [notAtIndex]

theorem ownRelease_refused (bad : 2 ≤ chan.toNat ∨ d.toNat ∉ [0, 1, 2, 8, 9, 10, 11]) :
    ownRelease chan d s = (s, refuse .badParam) := by
  unfold ownRelease
  rcases bad with high | unlisted
  · rw [chanOf_none high]
  · rw [← dispositionOf_isSome, Option.not_isSome_iff_eq_none] at unlisted
    rw [unlisted]
    cases chanOf chan <;> rfl

theorem ownRelease_notHeld (listed : d.toNat ∈ [0, 1, 2, 8, 9, 10, 11]) (free : (s.chan ch).hold = none) :
    ownRelease (chanCode ch) d s = (s, refuse .notHeld) := by
  obtain ⟨o, named⟩ := Option.isSome_iff_exists.1 (dispositionOf_isSome.2 listed)
  rw [ownRelease, chanOf_code, named]
  dsimp only
  rw [free]

theorem ownRelease_notAtIndex (named : d.toNat ∈ [1, 8, 9, 10, 11]) (hh : (s.chan ch).hold = some h)
    (index : h.origin.atIndex = true) : ownRelease (chanCode ch) d s = (s, refuse .badParam) := by
  have listed : d.toNat ∈ [0, 1, 2, 8, 9, 10, 11] := by
    simp only [List.mem_cons, List.not_mem_nil, or_false] at named ⊢
    omega
  obtain ⟨o, disposition⟩ := Option.isSome_iff_exists.1 (dispositionOf_isSome.2 listed)
  rw [ownRelease, chanOf_code, disposition]
  dsimp only
  rw [hh]
  exact if_pos ⟨index, (notAtIndex_iff disposition).2 named⟩

/-! ### The commands -/

/-- Settles O24, request by request. -/
theorem holdRequests : Obligations.HoldRequests := by
  intro s tag ch hr
  have park (chan choice) : exec (.park tag chan choice) s = .next (s.serve tag 0x39 (ownPark chan choice)) := rfl
  have status (chan) : exec (.holdStatus tag chan) s = .next (s.serve tag 0x3A (ownHoldStatus chan)) := rfl
  have release (chan d) : exec (.release tag chan d) s = .next (s.serve tag 0x38 (ownRelease chan d)) := rfl
  simp only [park, status, release, s.serve_of_ready hr]
  refine ⟨fun outside => ?_, fun inside => ?_, ?_, fun chan choice bad => ?_, fun free => ?_, fun h hh => ?_,
    fun chan high => ?_, fun chan d bad => ?_, fun d listed free => ?_, fun d h named hh index => ?_⟩
  · rw [ownPark_set outside]
    rfl
  · rw [ownPark_isolated inside]
    rfl
  · rw [ownPark_cancel]
    rfl
  · rw [ownPark_refused bad]
    rfl
  · rw [ownHoldStatus_empty free]
    rfl
  · rw [ownHoldStatus_held hh, Hold.bytes_eq]
    rfl
  · rw [ownHoldStatus_unnamed high]
    rfl
  · rw [ownRelease_refused bad]
    rfl
  · rw [ownRelease_notHeld listed free]
    rfl
  · rw [ownRelease_notAtIndex named hh index]
    rfl

end Sys2Proof.Machine
end

section
/-! What passes with time (R127): O31. -/

namespace Sys2Proof.Machine

variable {s : State} {ch : Chan}

/-! ### A measurement over several ticks -/

theorem timerAdd_timerAdd (a b : Nat) (m : Timer) : timerAdd b (timerAdd a m) = timerAdd (a + b) m :=
  congrArg (Timer.mk · m.limit) (Nat.add_assoc ..)

theorem map_timerAdd_timerAdd (a b : Nat) (o : Option Timer) :
    (o.map (timerAdd a)).map (timerAdd b) = o.map (timerAdd (a + b)) := by
  rw [Option.map_map]
  exact congrArg (o.map ·) (funext (timerAdd_timerAdd a b))

/-- A measurement that has been kept stands, whatever limit it would begin with now (R16). -/
theorem keepTimer_kept (run : Bool) (limit limit' n : Nat) (o : Option Timer) :
    keepTimer run limit' ((keepTimer run limit o).map (timerAdd n)) = (keepTimer run limit o).map (timerAdd n) := by
  cases run <;> rfl

theorem Meters.pass_pass (m : Meters) (a b : Nat) : (m.pass a).pass b = m.pass (a + b) := by
  simp only [Meters.pass, map_timerAdd_timerAdd]

/-! ### A channel -/

/-- A channel with its measurements brought up to date. -/
theorem State.retimeAll_chan (s : State) (ch : Chan) :
    s.retimeAll.chan ch = { s.chan ch with meters := s.metersNow ch } := by
  cases ch <;> rfl

theorem State.pass_chan (s : State) (n : Nat) (ch : Chan) : (s.pass n).chan ch = (s.retimeAll.chan ch).pass n := by
  cases ch <;> rfl

theorem Channel.pass_pass (c : Channel) (a b : Nat) : (c.pass a).pass b = c.pass (a + b) := by
  have hold : (c.hold.map fun h => { h with elapsed := h.elapsed + a }).map (fun h => { h with elapsed := h.elapsed + b })
      = c.hold.map fun h => { h with elapsed := h.elapsed + (a + b) } := by
    cases c.hold <;> simp [Nat.add_assoc]
  have clear : (c.health.busClear.map fun x => { x with since := x.since + a }).map
        (fun x => { x with since := x.since + b })
      = c.health.busClear.map fun x => { x with since := x.since + (a + b) } := by
    cases c.health.busClear <;> simp [Nat.add_assoc]
  have point : (if b = 0 then (if a = 0 then c.freePoint else false) else false)
      = if a + b = 0 then c.freePoint else false := by
    split <;> simp_all
  simp only [Channel.pass, Meters.pass_pass, map_timerAdd_timerAdd, hold, clear, point]

/-! What the measurements of the lines run on stands while time passes (log entry 4). -/

@[simp] theorem State.pass_cClockLow (n : Nat) : (s.pass n).cClockLow ch = s.cClockLow ch := by cases ch <;> rfl
@[simp] theorem State.pass_cDataLow (n : Nat) : (s.pass n).cDataLow ch = s.cDataLow ch := by cases ch <;> rfl
@[simp] theorem State.pass_dClockLow (n : Nat) : (s.pass n).dClockLow ch = s.dClockLow ch := by cases ch <;> rfl
@[simp] theorem State.pass_dDataLow (n : Nat) : (s.pass n).dDataLow ch = s.dDataLow ch := by cases ch <;> rfl
@[simp] theorem State.pass_target (n : Nat) : (s.pass n).target ch = s.target ch := by cases ch <;> rfl
@[simp] theorem State.pass_mode (n : Nat) : ((s.pass n).chan ch).mode = (s.chan ch).mode := by cases ch <;> rfl
@[simp] theorem State.pass_arb (n : Nat) : ((s.pass n).chan ch).arb = (s.chan ch).arb := by cases ch <;> rfl
@[simp] theorem State.pass_dOp (n : Nat) : ((s.pass n).chan ch).dOp = (s.chan ch).dOp := by cases ch <;> rfl
@[simp] theorem State.pass_cPull (n : Nat) : ((s.pass n).chan ch).cPull = (s.chan ch).cPull := by cases ch <;> rfl
@[simp] theorem State.pass_highPhase (n : Nat) : ((s.pass n).chan ch).highPhase = (s.chan ch).highPhase := by
  cases ch <;> rfl
@[simp] theorem State.pass_holdIsNone (n : Nat) : ((s.pass n).chan ch).hold.isNone = (s.chan ch).hold.isNone := by
  cases ch <;> exact Option.isNone_map
@[simp] theorem State.pass_busClearIsNone (n : Nat) :
    ((s.pass n).chan ch).health.busClear.isNone = (s.chan ch).health.busClear.isNone := by
  cases ch <;> exact Option.isNone_map
@[simp] theorem State.pass_generating (n : Nat) : ((s.pass n).chan ch).generating = (s.chan ch).generating := by
  have clear : ((s.pass n).chan ch).health.busClear.isSome = (s.chan ch).health.busClear.isSome := by
    cases ch <;> exact Option.isSome_map
  simp [Channel.generating, clear]
@[simp] theorem State.pass_clearStopping (n : Nat) :
    ((s.pass n).chan ch).clearStopping = (s.chan ch).clearStopping := by
  have pass (c : Channel) : (c.pass n).clearStopping = c.clearStopping := by
    unfold Channel.clearStopping Channel.pass
    cases c.health.busClear <;> rfl
  rw [State.pass_chan, pass, s.retimeAll_chan]
  rfl

/-- The measurements are up to date when time has passed: each that runs has been kept (R16). -/
theorem State.metersNow_pass (n : Nat) : (s.pass n).metersNow ch = (s.metersNow ch).pass n := by
  have meters : ((s.pass n).chan ch).meters = (s.metersNow ch).pass n := by
    rw [State.pass_chan, State.retimeAll_chan]
    rfl
  simp only [State.metersNow, meters, Meters.pass, keepTimer_kept, State.pass_cClockLow, State.pass_cDataLow,
    State.pass_dClockLow, State.pass_dDataLow, State.pass_target, State.pass_mode, State.pass_arb, State.pass_cPull,
    State.pass_highPhase, State.pass_holdIsNone, State.pass_busClearIsNone, State.pass_generating,
    State.pass_clearStopping]

theorem State.retimeAll_pass (n : Nat) : (s.pass n).retimeAll = s.pass n := by
  have same (ch : Chan) : (s.pass n).retimeAll.chan ch = (s.pass n).chan ch := by
    rw [State.retimeAll_chan, State.metersNow_pass, State.pass_chan, State.retimeAll_chan]
    rfl
  calc (s.pass n).retimeAll
    _ = { s.pass n with ch0 := (s.pass n).retimeAll.chan .c0, ch1 := (s.pass n).retimeAll.chan .c1 } := rfl
    _ = s.pass n := by
      rw [same, same]
      rfl

/-! ### The log -/

theorem passages_add (t : Tick) (a b : Nat) :
    passages t (a + b) = passages t a + passages (t + BitVec.ofNat 32 a) b := by
  simp only [passages, BitVec.toNat_add, BitVec.toNat_ofNat]
  omega

/-- The crossing count comes to 2 once, with the second passage (R112). -/
theorem Log.pass_eq (l : Log) (t : Tick) (n : Nat) : l.pass t n = { l with
    crossings := min 2 (l.crossings + passages t n)
    markNeeded := l.markNeeded || decide (l.crossings < 2 ∧ 2 ≤ l.crossings + passages t n) } := by
  have second : min 2 (l.crossings + passages t n) = 2 ↔ 2 ≤ l.crossings + passages t n := by omega
  simp only [Log.pass, satAdd, second, Bool.decide_and]

theorem Log.pass_pass (l : Log) (t : Tick) (a b : Nat) :
    (l.pass t a).pass (t + BitVec.ofNat 32 a) b = l.pass t (a + b) := by
  simp only [Log.pass_eq, passages_add t a b, Log.mk.injEq, true_and, and_true]
  refine ⟨by omega, ?_⟩
  rw [Bool.or_assoc, ← Bool.decide_or]
  congr 2
  exact propext (by omega)

/-! ### The other blocks -/

theorem Supply.pass_pass (p : Supply) (a b : Nat) : (p.pass a).pass b = p.pass (a + b) := by
  simp only [Supply.pass, map_timerAdd_timerAdd]

theorem Link.pass_pass (l : Link) (a b : Nat) : (l.pass a).pass b = l.pass (a + b) := by
  simp only [Link.pass, map_timerAdd_timerAdd, timerAdd_timerAdd]

theorem Engine.pass_pass (e : Engine) (a b : Nat) : (e.pass a).pass b = e.pass (a + b) := by
  unfold Engine.pass
  cases e.job <;> simp only [Option.map_none, Option.map_some, map_timerAdd_timerAdd]

/-- Two times one after the other are one (log entry 4). -/
theorem State.pass_pass (a b : Nat) : (s.pass a).pass b = s.pass (a + b) := by
  have tick : s.tick + BitVec.ofNat 32 a + BitVec.ofNat 32 b = s.tick + BitVec.ofNat 32 (a + b) := by
    rw [BitVec.add_assoc, BitVec.ofNat_add]
  rw [State.pass, State.retimeAll_pass]
  simp only [State.pass, State.retimeAll_tick, State.retimeAll_log, tick, Log.pass_pass, Channel.pass_pass,
    map_timerAdd_timerAdd, Engine.pass_pass, Supply.pass_pass, Link.pass_pass]

/-! ### The measurements of the lines -/

/-- Outside power-on reset the bypass switch is closed in MONITOR alone (R2). -/
theorem State.lines_up (up : s.inReset = false) :
    let c := s.chan ch
    let joined := decide (c.mode = .monitor)
    s.cClockLow ch = (c.cSide.clock || (joined && c.dSide.clock))
      ∧ s.cDataLow ch = (c.cSide.data || (joined && c.dSide.data))
      ∧ s.dClockLow ch = (c.dSide.clock || (joined && c.cSide.clock))
      ∧ s.dDataLow ch = (c.dSide.data || (joined && c.cSide.data)) := by
  simp only [State.cClockLow, State.cDataLow, State.dClockLow, State.dDataLow, State.bypassClosed, up, Bool.false_or,
    and_self]

theorem Channel.clearStopping_eq (c : Channel) : (!c.clearStopping) = c.health.busClear.all fun b => !b.stopping := by
  unfold Channel.clearStopping
  cases c.health.busClear <;> rfl

theorem Channel.dLimit_eq (c : Channel) : c.dLimit
    = c.settings.busFreeTime + (match c.health.busClear with
      | none => 0
      | some b => (b.plan.low + 47) / 48 - b.since) := by
  unfold Channel.dLimit
  cases c.health.busClear with
  | none => rfl
  | some b => exact Nat.add_comm ..

theorem exec_tick (n : Nat) (up : s.inReset = false) : exec (.tick n) s = .next (s.pass n) := by
  show execTick n s = _
  rw [execTick, up]
  rfl

/-- Settles O31: two times are one, and one time block by block; of a channel, the measurements of its lines are what
`State.metersNow` keeps. -/
theorem ticksPass : Obligations.TicksPass := by
  refine ⟨fun s a b up => ?_, fun s n up => ?_⟩
  · rw [exec_tick (a + b) up, ← State.pass_pass, execAll, exec_tick a up]
    dsimp only
    rw [execAll, exec_tick b (s := s.pass a) up]
    rfl
  · intro upTimer keep after passed
    have keep_eq (run limit o) : keep run limit o = (keepTimer run limit o).map (timerAdd n) := by
      cases run
      · rfl
      · cases o with
        | none => exact congrArg (fun k => some (Timer.mk k limit)) (Nat.zero_add n).symm
        | some m => rfl
    have after_eq (ch) : (s.pass n).chan ch = after ch := by
      obtain ⟨cck, cda, dck, dda⟩ := State.lines_up (ch := ch) up
      have meters : (s.metersNow ch).pass n = (after ch).meters := by
        have free : decide ((s.chan ch).arb.holder = .none) = !decide ((s.chan ch).arb.holder ≠ .none) := by
          rw [decide_not, Bool.not_not]
        have quiet : (s.chan ch).health.busClear.isNone = !(s.chan ch).health.busClear.isSome :=
          (Option.not_isSome _).symm
        simp only [after, keep_eq, Meters.pass, State.metersNow, cck, cda, dck, dda, free, quiet,
          Channel.clearStopping_eq, Channel.dLimit_eq, Bool.decide_or, Bool.decide_and]
        rfl
      calc (s.pass n).chan ch
        _ = (s.retimeAll.chan ch).pass n := s.pass_chan n ch
        _ = { after ch with meters := (s.metersNow ch).pass n } := by
          rw [State.retimeAll_chan]
          rfl
        _ = after ch := by rw [meters]
    have tick : BitVec.ofNat 32 (s.tick.toNat + n) = s.tick + BitVec.ofNat 32 n := by
      rw [BitVec.ofNat_add, BitVec.ofNat_toNat, BitVec.setWidth_eq]
    rw [exec_tick n up, tick]
    refine congrArg Host.Outcome.next ?_
    calc s.pass n
      _ = { s.pass n with
            ch0 := (s.pass n).chan .c0, ch1 := (s.pass n).chan .c1, log := s.log.pass s.tick n } := rfl
      _ = _ := by
        rw [after_eq, after_eq, Log.pass_eq]
        rfl

end Sys2Proof.Machine
end

section
/-! TIME READ and TIME SET (R128, R129): O30. -/

namespace Sys2Proof.Machine

variable {s : State} {count : Word}

/-! ### A stored tick count moved -/

/-- A tick count moved as far as the present is moved stays as far from it (R129). -/
theorem shift_distance (u now count : Tick) : u + (count - now) - count = u - now := by ring

theorem keepsDistance_shift (o : Option Tick) (now count : Tick) :
    KeepsDistance now count o (o.map (· + (count - now))) := by
  cases o with
  | none => exact trivial
  | some u => exact shift_distance u now count

/-! ### TIME SET (R129) -/

/-- The state with its tick count set, and everything that is stored as a tick count moved with it (R129). -/
def State.timeSet (s : State) (count : Word) : State := (ownTimeSet count s).1

theorem State.timeSet_compare (slot : CompareSlot) :
    (s.timeSet count).compare slot = (s.compare slot).shift (count - s.tick) := by
  cases slot <;> rfl

theorem State.timeSet_chan (ch : Chan) : (s.timeSet count).chan ch = (s.chan ch).shift (count - s.tick) := by
  cases ch <;> rfl

theorem State.timeSet_image {k : Nat} {i j : Image} (hi : s.images[k]? = some i)
    (hj : (s.timeSet count).images[k]? = some j) : j = i.shift (count - s.tick) := by
  have moved : (s.timeSet count).images[k]? = some (i.shift (count - s.tick)) := by
    show (s.images.map fun i => i.shift (count - s.tick))[k]? = _
    rw [List.getElem?_map, hi]
    rfl
  exact Option.some.inj (hj.symm.trans moved)

/-- Settles O30: the new count is loaded, and each stored tick count is moved with it, block by block. -/
theorem timeRequests : Obligations.TimeRequests := by
  intro s tag count hr
  have read : exec (.timeRead tag) s = .next (s.serve tag 0x50 ownTimeRead) := rfl
  have set : exec (.timeSet tag count) s = .next (s.serve tag 0x51 (ownTimeSet count)) := rfl
  simp only [read, set, s.serve_of_ready hr]
  refine ⟨rfl, s.timeSet count, rfl, rfl, rfl, rfl, fun slot => ?_, List.length_map _, fun k i j hi hj => ?_,
    fun ch => ?_⟩
  · rw [State.timeSet_compare]
    exact ⟨rfl, keepsDistance_shift _ s.tick count⟩
  · rw [State.timeSet_image hi hj]
    exact ⟨rfl, keepsDistance_shift _ s.tick count⟩
  · rw [State.timeSet_chan]
    refine ⟨rfl, ?_, shift_distance _ s.tick count, fun free => ?_, fun h hh => ?_, fun free => ?_, fun x hx => ?_⟩
    · refine congrArg (List.map · _) (funext fun k => ?_)
      cases k <;> rfl
    · exact Option.map_eq_none_iff.2 free
    · exact ⟨_, congrArg (Option.map _) hh, rfl, shift_distance h.start s.tick count,
        keepsDistance_shift h.deadline s.tick count⟩
    · exact Option.map_eq_none_iff.2 free
    · exact ⟨_, congrArg (Option.map _) hx, rfl, shift_distance x.startTime s.tick count⟩

end Sys2Proof.Machine
end

section
/-! What the router does with an occurrence (R138 to R140): O36. -/

namespace Sys2Proof.Machine

variable {s : State} {source : Source} {entry : Option Nat}

/-! ### The routes that fit (R138, R139) -/

/-- A route fits by its source and, for an occurrence with an entry, by its qualifier (R138). -/
theorem Route.fits_iff {r : Route} : r.fits source entry = true ↔ (r.enabled = true ∧ r.source = some source)
    ∧ (entry = none ∨ r.qualifier = some .any ∨ ∃ k, entry = some k ∧ r.qualifier = some (.entry k)) := by
  unfold Route.fits Route.admits
  cases entry <;> simp

/-- The state in which the actions of the fitting routes begin: the record handed, the fire counts raised (R139). -/
def State.fired (s : State) (source : Source) (entry : Option Nat) : State :=
  { s.hand none (.trigger source entry) with routes := fireRoutes source entry s.routes }

/-- The fitting routes act in ascending index, once the record is handed and their counts are raised (R139). -/
theorem State.occur_cons {first : Route} {rest : List Route}
    (fitting : s.routes.filter (fun r => r.fits source entry) = first :: rest) :
    s.occur source entry = (first :: rest).foldl (fun v r => v.act r.action) (s.fired source entry) := by
  rw [State.occur, fitting]
  dsimp only
  rw [if_neg (List.cons_ne_nil _ _), State.hand_routes]
  rfl

/-! ### What actions leave alone (R140) -/

/-- What the actions of routes may change: the channels, the gate, TRIG-OUT, the slots, the monitor, the supply and the
notice word (R140). -/
structure Acted (s t : State) : Prop where
  frame : t = { s with
    ch0 := t.ch0, ch1 := t.ch1, log := t.log, trigOut := t.trigOut, cmpA := t.cmpA, cmpB := t.cmpB
    routes := t.routes, monitor := t.monitor, supply := t.supply, link := { s.link with notices := t.link.notices } }
  log : t.log = { s.log with gateOpen := t.log.gateOpen }

theorem Acted.trans {s t u : State} (h : Acted s t) (k : Acted t u) : Acted s u :=
  ⟨by rw [k.frame, h.frame], by rw [k.log, h.log]⟩

theorem State.act_acted (s : State) (a : Option RouteAction) : Acted s (s.act a) := by
  have park (ch : Chan) : Acted s (s.setPark ch) := by
    unfold State.setPark
    split
    · exact ⟨rfl, rfl⟩
    · cases ch <;> exact ⟨rfl, rfl⟩
  match a with
  | some .park0 => exact park .c0
  | some .park1 => exact park .c1
  | none | some .logOpen | some .logClose | some .pulseOut | some .toggleOut | some .snapshot | some .armA
  | some .armB | some .resetPulse => exact ⟨rfl, rfl⟩

theorem State.acts_acted (l : List Route) (s : State) : Acted s (l.foldl (fun v r => v.act r.action) s) := by
  induction l generalizing s with
  | nil => exact ⟨rfl, rfl⟩
  | cons r l ih => exact (s.act_acted r.action).trans (ih _)

/-- What an occurrence changes with a fitting route (R139, R140). -/
theorem State.occur_acted {first : Route} {rest : List Route}
    (fitting : s.routes.filter (fun r => r.fits source entry) = first :: rest) :
    Acted (s.fired source entry) (s.occur source entry) := by
  rw [State.occur_cons fitting]
  exact State.acts_acted ..

/-- Settles O36: by whether a route fits, then action by action for the one that does. -/
theorem routerOccurrence : Obligations.RouterOccurrence := by
  intro s source entry fits t u
  have same : fits = fun r => r.fits source entry := funext fun r => by
    rw [Bool.eq_iff_iff, Route.fits_iff]
    simp only [fits, Bool.and_eq_true, decide_eq_true_iff]
  clear_value fits
  subst same
  have occurred (first rest) (h : s.routes.filter (fun r => r.fits source entry) = first :: rest) :
      t = (first :: rest).foldl (fun v r => v.act r.action) u := by
    have fired : s.fired source entry = u := by
      show _ = ({ s.hand none (.trigger source entry) with routes := t.routes } : State)
      rw [State.occur_routes]
      rfl
    rw [← fired]
    exact State.occur_cons h
  refine ⟨s.occur_none source entry, fun ⟨r, hr, hf⟩ => ?_, fun r hr => ?_, occurred⟩
  · have fitting : r ∈ s.routes.filter fun r => r.fits source entry := List.mem_filter.2 ⟨hr, hf⟩
    obtain ⟨first, rest, h⟩ := List.exists_cons_of_ne_nil (List.ne_nil_of_mem fitting)
    have acted := State.occur_acted h
    refine ⟨s.occur_routes source entry, acted.log, ?_⟩
    refine acted.frame.trans ?_
    rw [State.fired, s.hand_frame none]
  · have tick : u.tick = s.tick := s.hand_tick ..
    have chan (ch) : u.chan ch = s.chan ch := State.chan_congr (s.hand_ch0 ..) (s.hand_ch1 ..) ch
    have pin : u.trigOut = s.trigOut := s.hand_trigOut ..
    have slotA : u.cmpA = s.cmpA := s.hand_cmpA ..
    have slotB : u.cmpB = s.cmpB := s.hand_cmpB ..
    have supply : u.supply = s.supply := s.hand_supply ..
    have one : t = u.act r.action := occurred r [] hr
    rw [one]
    refine ⟨?_, ?_, fun ch => ?_, ?_, ?_, ?_, ?_, ?_, ?_⟩
    all_goals
      intro act
      rw [act]
    · rfl
    · rfl
    · rw [← chan]
      cases ch <;> rfl
    · rw [← pin]
      rfl
    · rw [← pin]
      rfl
    · rfl
    · rw [← slotA, ← tick]
      rfl
    · rw [← slotB, ← tick]
      rfl
    · rw [← supply]
      rfl

end Sys2Proof.Machine
end

section
/-! The compare slots (R130 to R133): O32, O33. -/

namespace Sys2Proof.Machine

variable {s : State} {slot : Byte} {sl : CompareSlot} {c : Compare}

/-! ### Slots -/

/-- A slot's number (R196). -/
def slotCode : CompareSlot → Byte
  | .slotA => 0
  | .slotB => 1

@[simp] theorem slotOf_code : slotOf (slotCode sl) = some sl := by cases sl <;> rfl

/-- A number above 1 names no slot (R196). -/
theorem slotOf_none (high : 2 ≤ slot.toNat) : slotOf slot = none := by
  have notA : slot ≠ 0 := fun h => by simp [h] at high
  have notB : slot ≠ 1 := fun h => by simp [h] at high
  rw [slotOf, if_neg notA, if_neg notB]

@[simp] theorem State.compare_setCompare : (s.setCompare sl c).compare sl = c := by cases sl <;> rfl

@[simp] theorem State.setCompare_self : s.setCompare sl (s.compare sl) = s := by cases sl <;> rfl

/-! ### The requests -/

/-- A request that brings two values into their ranges is ADJUSTED unless both lay there (R15). -/
theorem okOrAdjusted_eq (a b v w : Nat) (results : List Byte) :
    okOrAdjusted (decide (a ≠ v ∨ b ≠ w)) results = ⟨if a = v ∧ b = w then .ok else .adjusted, results⟩ := by
  simp only [okOrAdjusted, decide_eq_true_eq, ← not_and_or, ite_not]

theorem ownCompareConfig_stored (delay period : Word) : ownCompareConfig (slotCode sl) delay period s
    = (s.setCompare sl { s.compare sl with
          delay := max 1 (min 2147483648 delay.toNat), period := min 16777215 period.toNat },
        ⟨if max 1 (min 2147483648 delay.toNat) = delay.toNat ∧ min 16777215 period.toNat = period.toNat then .ok
          else .adjusted, []⟩) := by
  rw [ownCompareConfig, slotOf_code]
  dsimp only
  rw [clampTo_zero, clampTo, okOrAdjusted_eq]

theorem ownCompareConfig_unnamed (high : 2 ≤ slot.toNat) (delay period : Word) :
    ownCompareConfig slot delay period s = (s, refuse .badParam) := by
  rw [ownCompareConfig, slotOf_none high]

theorem ownCompareArm_armed : ownCompareArm (slotCode sl) s
    = (s.setCompare sl ((s.compare sl).arm s.tick),
        okWith (le32 (s.tick + BitVec.ofNat 32 (s.compare sl).delay).toNat)) := by
  rw [ownCompareArm, slotOf_code]
  rfl

theorem ownCompareArm_unnamed (high : 2 ≤ slot.toNat) : ownCompareArm slot s = (s, refuse .badParam) := by
  rw [ownCompareArm, slotOf_none high]

theorem ownCompareDisarm_disarmed : ownCompareDisarm (slotCode sl) s
    = (s.setCompare sl { s.compare sl with target := none }, okWith (yesNo (s.compare sl).target.isSome)) := by
  rw [ownCompareDisarm, slotOf_code]

theorem ownCompareDisarm_unnamed (high : 2 ≤ slot.toNat) : ownCompareDisarm slot s = (s, refuse .badParam) := by
  rw [ownCompareDisarm, slotOf_none high]

/-! ### A slot that fires (R132) -/

theorem State.compareDue_iff : s.compareDue sl = true
    ↔ ∃ u, (s.compare sl).target = some u ∧ (s.tick - u).toNat < 2147483648 := by
  unfold State.compareDue
  cases (s.compare sl).target <;> simp [reached_iff]

theorem execCompareFire_due (up : s.inReset = false) {u : Tick} (armed : (s.compare sl).target = some u)
    (come : (s.tick - u).toNat < 2147483648) : execCompareFire sl s
      = .next ((s.setCompare sl (s.compare sl).fired).occur (slotSource sl) none) :=
  if_pos ⟨up, State.compareDue_iff.2 ⟨u, armed, come⟩⟩

theorem execCompareFire_early (early : ∀ u, (s.compare sl).target = some u → 2147483648 ≤ (s.tick - u).toNat) :
    execCompareFire sl s = .next s := by
  refine if_neg fun ⟨_, due⟩ => ?_
  obtain ⟨u, armed, come⟩ := State.compareDue_iff.1 due
  exact Nat.not_lt.2 (early u armed) come

/-! ### The commands -/

theorem exec_compareArm (tag : Byte) (hr : Ready s) : exec (.compareArm tag (slotCode sl)) s
    = .next ((s.setCompare sl ((s.compare sl).arm s.tick)).withReply
        ⟨tag, 0x53, .ok, le32 (s.tick + BitVec.ofNat 32 (s.compare sl).delay).toNat⟩) := by
  show Host.Outcome.next (s.serve tag 0x53 (ownCompareArm (slotCode sl))) = _
  rw [s.serve_of_ready hr, ownCompareArm_armed]
  rfl

/-- Settles O32. -/
theorem compareSlots : Obligations.CompareSlots := by
  intro s tag sl delay period code c d p
  have fire : exec (.compareFire sl) s = execCompareFire sl s := rfl
  have named : code = slotCode sl := by cases sl <;> rfl
  have config (slot) : exec (.compareConfig tag slot delay period) s
      = .next (s.serve tag 0x52 (ownCompareConfig slot delay period)) := rfl
  have arm (slot) : exec (.compareArm tag slot) s = .next (s.serve tag 0x53 (ownCompareArm slot)) := rfl
  refine ⟨fun hr => ?_, fun hr => ?_, fun hr slot high => ⟨?_, ?_⟩, fun up u armed come => ?_, fun free => ?_,
    fun u armed early => ?_⟩
  · rw [config, s.serve_of_ready hr, named, ownCompareConfig_stored]
  · rw [named]
    exact exec_compareArm tag hr
  · rw [config, s.serve_of_ready hr, ownCompareConfig_unnamed high]
    rfl
  · rw [arm, s.serve_of_ready hr, ownCompareArm_unnamed high]
    rfl
  · have fired : (s.compare sl).fired = { c with
        fires := min 65535 (c.fires + 1)
        target := if c.period = 0 then none else some (u + BitVec.ofNat 32 c.period) } := by
      rw [Compare.fired, armed]
      rfl
    rw [fire, execCompareFire_due up armed come, fired]
    cases sl <;> rfl
  · rw [fire]
    exact execCompareFire_early fun u armed => absurd (free.symm.trans armed) nofun
  · rw [fire]
    refine execCompareFire_early fun v other => ?_
    rwa [← Option.some.inj (armed.symm.trans other)]

/-- Settles O33: a disarmed slot is armed again by COMPARE ARM, and by the router's action for it. -/
theorem compareDisarm : Obligations.CompareDisarm := by
  intro s tag slot hr
  have disarm (slot) : exec (.compareDisarm tag slot) s = .next (s.serve tag 0x54 (ownCompareDisarm slot)) := rfl
  refine ⟨fun high => ?_, fun sl named => ?_⟩
  · rw [disarm, s.serve_of_ready hr, ownCompareDisarm_unnamed high]
    rfl
  · obtain rfl : slot = slotCode sl := named.trans (by cases sl <;> rfl)
    intro t
    have ready : Ready t := by
      cases sl <;> exact hr
    refine ⟨?_, fun free => ?_, ⟨_, _, exec_compareArm tag ready, ?_⟩, ?_⟩
    · rw [disarm, s.serve_of_ready hr, ownCompareDisarm_disarmed]
      rfl
    · show s.setCompare sl { s.compare sl with target := none } = s
      rw [← free]
      exact State.setCompare_self
    · rw [State.compare_setCompare]
      rfl
    · cases sl <;> rfl

end Sys2Proof.Machine
end

section
/-! The trigger pins (R134 to R136): O34. -/

namespace Sys2Proof.Machine

variable {s : State} {tag : Byte}

/-! ### TRIG-IN (R134) -/

@[simp] theorem edgeSelOf_code (sel : EdgeSel) : edgeSelOf sel.code = some sel := by cases sel <;> rfl

/-- A number above 3 names no edge selection (R134). -/
theorem edgeSelOf_none {b : Byte} (high : 4 ≤ b.toNat) : edgeSelOf b = none := by
  unfold edgeSelOf
  split
  case h_5 => rfl
  all_goals omega

theorem EdgeSel.selects_iff (e : EdgeSel) (rising : Bool) : e.selects rising = true
    ↔ e = .both ∨ e = .rise ∧ rising = true ∨ e = .fall ∧ rising = false := by
  cases e <;> simp [EdgeSel.selects]

theorem ownTrigInConfig_stored (sel : EdgeSel) (zero : Bool) : ownTrigInConfig sel.code (if zero then 1 else 0) s
    = ({ s with trigIn := { s.trigIn with selection := sel, count := if zero then 0 else s.trigIn.count } },
        okWith (le32 s.trigIn.lastEdge.toNat ++ le16 s.trigIn.count)) := by
  rw [ownTrigInConfig, edgeSelOf_code, boolOf_ite]

theorem ownTrigInConfig_refused {sel zero : Byte} (bad : 4 ≤ sel.toNat ∨ 2 ≤ zero.toNat) :
    ownTrigInConfig sel zero s = (s, refuse .badParam) := by
  unfold ownTrigInConfig
  rcases bad with high | high
  · rw [edgeSelOf_none high]
  · rw [boolOf_none high]
    cases edgeSelOf sel <;> rfl

theorem execTriginEdge_same {rising : Bool} (same : s.trigIn.level = rising) : execTriginEdge rising s = .next s :=
  if_pos same

theorem execTriginEdge_selected {rising : Bool} (edge : s.trigIn.level = !rising) (up : s.inReset = false)
    (selected : s.trigIn.selection.selects rising = true) : execTriginEdge rising s
      = .next ((({ s with trigIn := ⟨s.trigIn.selection, rising, s.tick, min 65535 (s.trigIn.count + 1)⟩ } :
          State).raise .trigin).occur .trigIn none) := by
  rw [execTriginEdge, if_neg (by simp [edge])]
  exact if_pos ⟨up, selected⟩

theorem execTriginEdge_unselected {rising : Bool} (edge : s.trigIn.level = !rising)
    (unselected : s.trigIn.selection.selects rising = false) :
    execTriginEdge rising s = .next { s with trigIn := { s.trigIn with level := rising } } := by
  rw [execTriginEdge, if_neg (by simp [edge])]
  exact if_neg (by simp [unselected])

/-! ### TRIG-OUT (R135) -/

/-- The width a TRIG OUT leaves stored: one it carries, at least 1, or the one that was stored (R135). -/
def widthOf (t : TrigOut) (width : Option Half) : Nat := (width.map fun v => max 1 v.toNat).getD t.width

/-- A number above 3 names no operation (R135). -/
theorem trigOperation_none {operation : Byte} (high : 4 ≤ operation.toNat) (t : TrigOut) :
    trigOperation t operation = none := by
  unfold trigOperation
  split
  case h_5 => rfl
  all_goals omega

theorem ownTrigOut_eq (operation : Byte) (width : Option Half) : ownTrigOut operation width s
    = match trigOperation { s.trigOut with width := widthOf s.trigOut width } operation with
      | none => (s, refuse .badParam)
      | some t => ({ s with trigOut := t }, okOrAdjusted (decide (width = some 0)) (yesNo t.pin ++ yesNo t.stored)) := by
  cases width <;> rfl

theorem ownTrigOut_done {operation : Byte} {width : Option Half} {t : TrigOut}
    (done : trigOperation { s.trigOut with width := widthOf s.trigOut width } operation = some t) :
    ownTrigOut operation width s
      = ({ s with trigOut := t }, okOrAdjusted (decide (width = some 0)) (yesNo t.pin ++ yesNo t.stored)) := by
  rw [ownTrigOut_eq, done]

theorem ownTrigOut_refused {operation : Byte} (high : 4 ≤ operation.toNat) (width : Option Half) :
    ownTrigOut operation width s = (s, refuse .badParam) := by
  rw [ownTrigOut_eq, trigOperation_none high]

/-! ### The commands -/

/-- Settles O34, pin by pin: an edge by whether it is selected, and each operation of TRIG OUT by what it makes of the
unit. -/
theorem triggerPins : Obligations.TriggerPins := by
  intro s tag
  have config (sel zero) : exec (.trigInConfig tag sel zero) s
      = .next (s.serve tag 0x55 (ownTrigInConfig sel zero)) := rfl
  have edge (rising) : exec (.triginEdge rising) s = execTriginEdge rising s := rfl
  have out (operation width) : exec (.trigOut tag operation width) s
      = .next (s.serve tag 0x56 (ownTrigOut operation width)) := rfl
  refine ⟨fun hr sel zero => ?_, fun hr sel zero bad => ?_, fun rising same => ?_, fun rising level up => ?_,
    fun hr width => ?_, fun up m running come => ?_⟩
  · rw [config, s.serve_of_ready hr, ownTrigInConfig_stored]
    rfl
  · rw [config, s.serve_of_ready hr, ownTrigInConfig_refused bad]
    rfl
  · exact execTriginEdge_same same
  · intro selected
    have selects : s.trigIn.selection.selects rising = true ↔ selected := EdgeSel.selects_iff ..
    refine ⟨fun h => ?_, fun h => ?_⟩
    · rw [edge, execTriginEdge_selected level up (selects.2 h)]
      rfl
    · rw [edge, execTriginEdge_unselected level (Bool.eq_false_iff.2 (mt selects.1 h))]
  · intro w st pin
    have status (results) : okOrAdjusted (decide (width = some 0)) results = ⟨st, results⟩ := by
      simp only [okOrAdjusted, decide_eq_true_eq, st]
    have done (operation t) (h : trigOperation { s.trigOut with width := w } operation = some t) :
        exec (.trigOut tag operation width) s = .next (({ s with trigOut := t } : State).withReply
          ⟨tag, 0x56, st, yesNo t.pin ++ yesNo t.stored⟩) := by
      rw [out, s.serve_of_ready hr, ownTrigOut_done h, status]
    refine ⟨done 0 _ rfl, done 1 _ rfl, done 2 _ rfl, done 3 _ rfl, fun operation high => ?_⟩
    rw [out, s.serve_of_ready hr, ownTrigOut_refused high]
    rfl
  · exact if_pos ⟨up, running ▸ timerDue_some.2 come⟩

end Sys2Proof.Machine
end

section
/-! ROUTE WRITE, ROUTE READ and TRIGGER STATUS (R137, R141, R142): O35. -/

namespace Sys2Proof.Machine

variable {s : State} {index : Byte}

/-! ### The codes of a route (R196, R197) -/

@[simp] theorem sourceOf_code (source : Source) : sourceOf source.code = some source := by cases source <;> rfl

@[simp] theorem routeActionOf_code (action : RouteAction) : routeActionOf action.code = some action := by
  cases action <;> rfl

/-- The codes of the sources are 1 to 7 (R197). -/
theorem sourceOf_none {b : Byte} (bad : b = 0 ∨ 8 ≤ b.toNat) : sourceOf b = none := by
  rcases bad with rfl | high
  · rfl
  · unfold sourceOf
    split
    case h_8 => rfl
    all_goals omega

/-- The codes of the actions are 1 to 10 (R197). -/
theorem routeActionOf_none {b : Byte} (bad : b = 0 ∨ 11 ≤ b.toNat) : routeActionOf b = none := by
  rcases bad with rfl | high
  · rfl
  · unfold routeActionOf
    split
    case h_11 => rfl
    all_goals omega

/-- The source RULE alone has the code 1 (R197). -/
theorem sourceOf_rule_iff {b : Byte} : sourceOf b = some .rule ↔ b = 1 := by
  refine ⟨fun h => ?_, fun h => h ▸ rfl⟩
  unfold sourceOf at h
  split at h
  case h_1 one => exact BitVec.eq_of_toNat_eq one
  all_goals exact absurd h nofun

/-! ### A route as a request carries it (R141) -/

/-- A qualifier comes with the source RULE and with no other (R137). -/
theorem routeOf_listed (on : Bool) (source : Source) (q : Option Qualifier) (action : RouteAction)
    (given : q.isSome = true ↔ source = .rule) (low : ∀ k, q = some (.entry k) → k < 32) :
    routeOf (if on then 1 else 0) source.code (q.map Qualifier.code) action.code
      = some ⟨on, some source, q, some action, 0⟩ := by
  rw [routeOf, boolOf_ite, sourceOf_code, routeActionOf_code]
  match q with
  | none => exact if_neg fun rule => nomatch given.2 rule
  | some .any => exact if_neg fun other => other (given.1 rfl)
  | some (.entry k) =>
    have below := low k rfl
    have number : (Qualifier.entry k).code.toNat = k := Nat.mod_eq_of_lt (by omega)
    have entry : (Qualifier.entry k).code ≠ 255 := fun any => by
      rw [any] at number
      exact absurd (number.trans_lt below) (by decide)
    dsimp only [Option.map_some]
    rw [if_neg fun other => other (given.1 rfl), if_neg entry, number, if_pos below]

theorem routeOf_refused {on source : Byte} {q : Option Byte} {action : Byte}
    (bad : 2 ≤ on.toNat ∨ source = 0 ∨ 8 ≤ source.toNat ∨ action = 0 ∨ 11 ≤ action.toNat ∨ (q = none ↔ source = 1)
      ∨ ∃ v : Byte, q = some v ∧ 32 ≤ v.toNat ∧ v ≠ 255) : routeOf on source q action = none := by
  unfold routeOf
  split
  case h_2 => rfl
  case h_1 src _ hon hsource haction =>
    have rule : src = .rule ↔ source = 1 := by rw [← sourceOf_rule_iff, hsource, Option.some_inj]
    rcases bad with high | zero | high | zero | high | unpaired | ⟨v, rfl, high, listed⟩
    · exact absurd (hon.symm.trans (boolOf_none high)) nofun
    · exact absurd (hsource.symm.trans (sourceOf_none (.inl zero))) nofun
    · exact absurd (hsource.symm.trans (sourceOf_none (.inr high))) nofun
    · exact absurd (haction.symm.trans (routeActionOf_none (.inl zero))) nofun
    · exact absurd (haction.symm.trans (routeActionOf_none (.inr high))) nofun
    · cases q with
      | none => exact if_pos (rule.2 (unpaired.1 rfl))
      | some v => exact if_pos fun same => nomatch unpaired.2 (rule.1 same)
    · dsimp only
      rw [if_neg listed, if_neg (Nat.not_lt.2 high), ite_self]

/-! ### The requests -/

theorem ownRouteWrite_stored (low : index.toNat < 8) {on source : Byte} {q : Option Byte} {action : Byte} {r : Route}
    (listed : routeOf on source q action = some r) :
    ownRouteWrite index on source q action s = ({ s with routes := s.routes.set index.toNat r }, okWith []) := by
  rw [ownRouteWrite, if_pos low, listed]

theorem ownRouteWrite_refused {on source : Byte} {q : Option Byte} {action : Byte}
    (bad : 8 ≤ index.toNat ∨ routeOf on source q action = none) :
    ownRouteWrite index on source q action s = (s, refuse .badParam) := by
  unfold ownRouteWrite
  rcases bad with high | unlisted
  · exact if_neg (Nat.not_lt.2 high)
  · rw [unlisted, ite_self]

theorem ownRouteRead_answered {r : Route} (hr : s.routes[index.toNat]? = some r) (zero : Bool) :
    ownRouteRead index (if zero then 1 else 0) s
      = ({ s with routes := if zero then s.routes.set index.toNat { r with fires := 0 } else s.routes },
          okWith r.bytes) := by
  rw [ownRouteRead, hr, boolOf_ite]
  cases zero <;> rfl

theorem ownRouteRead_refused {zero : Byte} (bad : s.routes.length ≤ index.toNat ∨ 2 ≤ zero.toNat) :
    ownRouteRead index zero s = (s, refuse .badParam) := by
  unfold ownRouteRead
  rcases bad with high | high
  · rw [List.getElem?_eq_none high]
  · rw [boolOf_none high]
    cases s.routes[index.toNat]? <;> rfl

/-! ### The layouts (log entry 18) -/

theorem Route.bytes_eq (r : Route) : r.bytes
    = yesNo r.enabled ++ [(r.source.map Source.code).getD 0]
      ++ (match r.qualifier with
          | none => [0]
          | some q => [1, q.code])
      ++ [(r.action.map RouteAction.code).getD 0] ++ le16 r.fires := by
  obtain ⟨on, source, q, action, fires⟩ := r
  cases source <;> cases q <;> cases action <;> rfl

theorem Compare.bytes_eq (c : Compare) (now : Tick) : c.bytes now
    = le32 c.delay ++ le32 c.period
      ++ (match c.target with
          | none => [0, 0, 0]
          | some u => [1, 1] ++ le32 u.toNat ++ [1] ++ le32 (u - now).toNat)
      ++ le16 c.fires := by
  unfold Compare.bytes
  cases c.target <;> rfl

/-- Whether the pulse timer runs, and the time it has left (R142, log entry 47). -/
theorem pulseBytes_eq (o : Option Timer) : yesNo o.isSome ++ optField (o.map fun m => le16 (timerLeft m))
    = match o with
      | none => [0, 0]
      | some m => [1, 1] ++ le16 (m.limit - m.elapsed) := by
  cases o <;> rfl

/-! ### The commands -/

/-- Settles O35, request by request. -/
theorem routeRequests : Obligations.RouteRequests := by
  intro s tag index hr
  have write (on source q action) : exec (.routeWrite tag index on source q action) s
      = .next (s.serve tag 0x57 (ownRouteWrite index on source q action)) := rfl
  have read (zero) : exec (.routeRead tag index zero) s = .next (s.serve tag 0x58 (ownRouteRead index zero)) := rfl
  have status : exec (.triggerStatus tag) s = .next (s.serve tag 0x59 ownTriggerStatus) := rfl
  simp only [write, read, status, s.serve_of_ready hr]
  refine ⟨fun on source q action low given entry => ?_, fun on source q action bad => ?_, fun r zero hi => ?_,
    fun zero bad => ?_, ?_⟩
  · rw [ownRouteWrite_stored low (routeOf_listed on source q action given entry)]
    rfl
  · rw [ownRouteWrite_refused (bad.imp_right routeOf_refused)]
    rfl
  · rw [ownRouteRead_answered hi, Route.bytes_eq]
    rfl
  · rw [ownRouteRead_refused bad]
    rfl
  · rw [ownTriggerStatus, Compare.bytes_eq, Compare.bytes_eq, List.append_assoc _ (yesNo _), pulseBytes_eq]
    rfl

end Sys2Proof.Machine
end

section
/-! SUPPORT. What the invariants of the health monitor and of the trigger router depend on (R130, R134, R135, R137, R143),
and that most operations leave it as it was. -/

namespace Sys2Proof.Machine

/-! ### The gauge of a state -/

/-- The counts of the integration with DEGRADED (R143). -/
structure Counts where
  misframes : Nat
  cleanRun : Nat
  degraded : Bool

def Health.counts (h : Health) : Counts := ⟨h.misframes, h.cleanRun, h.degraded⟩

/-- What R143 and R146 ask of the counts of one channel. -/
def Counts.Ok (c : Counts) : Prop := c.misframes ≤ 63 ∧ c.cleanRun ≤ 63 ∧ (c.degraded = true → c.misframes = 0)

/-- A slot with its target left out, which has no range (R130). -/
def Compare.untimed (c : Compare) : Compare := { c with target := none }

/-- What R130 asks of a compare slot. -/
def Compare.Ok (c : Compare) : Prop :=
  1 ≤ c.delay ∧ c.delay ≤ 2147483648 ∧ c.period ≤ 16777215 ∧ c.fires ≤ 65535

/-- The fire count of a route is in its range (R137). -/
def Route.Ok (r : Route) : Prop := r.fires ≤ 65535

/-- What of the state the two invariants depend on. -/
structure Gauge where
  degrade : Nat
  clear : Nat
  recover : Nat
  counts0 : Counts
  counts1 : Counts
  slotA : Compare
  slotB : Compare
  edges : Nat
  width : Nat
  routes : List Route

def State.gauge (s : State) : Gauge :=
  ⟨s.monitor.degrade, s.monitor.clear, s.monitor.recover, s.ch0.health.counts, s.ch1.health.counts, s.cmpA.untimed,
    s.cmpB.untimed, s.trigIn.count, s.trigOut.width, s.routes⟩

def Gauge.HealthOk (g : Gauge) : Prop :=
  (1 ≤ g.degrade ∧ g.degrade ≤ 63) ∧ (1 ≤ g.clear ∧ g.clear ≤ 63) ∧ (1 ≤ g.recover ∧ g.recover ≤ 63)
    ∧ g.counts0.Ok ∧ g.counts1.Ok

def Gauge.TriggersOk (g : Gauge) : Prop :=
  (g.slotA.Ok ∧ g.slotB.Ok) ∧ g.edges ≤ 65535 ∧ (1 ≤ g.width ∧ g.width ≤ 65535) ∧ Filled 8 Route.Ok g.routes

theorem forall_chan {p : Chan → Prop} : (∀ ch, p ch) ↔ p .c0 ∧ p .c1 :=
  ⟨fun h => ⟨h _, h _⟩, fun ⟨h, k⟩ ch => by cases ch <;> assumption⟩

theorem forall_slot {p : CompareSlot → Prop} : (∀ k, p k) ↔ p .slotA ∧ p .slotB :=
  ⟨fun h => ⟨h _, h _⟩, fun ⟨h, k⟩ slot => by cases slot <;> assumption⟩

theorem State.healthOk_iff (s : State) : s.HealthOk ↔ s.gauge.HealthOk := by
  unfold State.HealthOk
  rw [forall_chan]
  rfl

theorem State.triggersOk_iff (s : State) : s.TriggersOk ↔ s.gauge.TriggersOk := by
  unfold State.TriggersOk
  rw [forall_slot]
  rfl

variable (s : State) (ch : Chan)

@[simp] theorem State.gauge_with {rules images log tick engine supply link inReset freeIx pending} :
    (State.mk s.ch0 s.ch1 rules images log tick s.cmpA s.cmpB s.trigIn s.trigOut s.routes s.monitor engine supply link
      inReset freeIx pending).gauge = s.gauge := (rfl)

@[simp] theorem State.gauge_ite (p : Prop) [Decidable p] (s t : State) :
    (if p then s else t).gauge = if p then s.gauge else t.gauge := apply_ite ..

/-- A change of a channel that leaves the counts of its integration alone. -/
def KeepsCounts (f : Channel → Channel) : Prop := ∀ c, (f c).health.counts = c.health.counts

@[simp] theorem keepsCounts_iff (f : Channel → Channel) :
    KeepsCounts f ↔ ∀ c, (f c).health.counts = c.health.counts := .rfl

@[simp] theorem State.gauge_onChan (f : Channel → Channel) (h : KeepsCounts f) : (s.onChan ch f).gauge = s.gauge := by
  cases ch <;> simp [State.onChan, State.setChan, State.gauge, h _]

@[simp] theorem Channel.health_ite (p : Prop) [Decidable p] (c d : Channel) :
    (if p then c else d).health = if p then c.health else d.health := apply_ite ..

@[simp] theorem Health.counts_ite (p : Prop) [Decidable p] (h k : Health) :
    (if p then h else k).counts = if p then h.counts else k.counts := apply_ite ..

@[simp] theorem Health.counts_with (h : Health) {stuckC stuckD owed busClear lastClear running snapshot} :
    (Health.mk h.misframes h.cleanRun h.degraded stuckC stuckD owed busClear lastClear running snapshot).counts
      = h.counts := rfl

/-! ### The operations of a channel that leave its health alone -/

section
variable (c : Channel)

@[simp] theorem Channel.health_trafficC (a b : Bool) : (c.trafficC a b).health = c.health := rfl
@[simp] theorem Channel.health_sampleC (a : Bool) : (c.sampleC a).health = c.health := rfl
@[simp] theorem Channel.health_sampleByte (b : Byte) : (c.sampleByte b).health = c.health := rfl
@[simp] theorem Channel.health_answer (b : AckBit) : (c.answer b).health = c.health := rfl
@[simp] theorem Channel.health_stretch : c.stretch.health = c.health := rfl
@[simp] theorem Channel.health_restC : c.restC.health = c.health := rfl
@[simp] theorem Channel.health_releaseC : c.releaseC.health = c.health := rfl
@[simp] theorem Channel.health_releaseD : c.releaseD.health = c.health := rfl
@[simp] theorem Channel.health_beginD (o : DOp) (n : Nat) : (c.beginD o n).health = c.health := rfl
@[simp] theorem Channel.health_restD : c.restD.health = c.health := rfl
@[simp] theorem Channel.health_cFreePoint : c.cFreePoint.health = c.health := rfl
@[simp] theorem Channel.health_dFreePoint : c.dFreePoint.health = c.health := rfl
@[simp] theorem Channel.health_grantRelay : c.grantRelay.health = c.health := rfl
@[simp] theorem Channel.health_grantEngine (m n : Nat) : (c.grantEngine m n).health = c.health := rfl
@[simp] theorem Channel.health_giveUp : c.giveUp.health = c.health := rfl
@[simp] theorem Channel.health_stopMade : c.stopMade.health = c.health := rfl
@[simp] theorem Channel.health_dropGrant : c.dropGrant.health = c.health := rfl
@[simp] theorem Channel.health_beginStop (b : Bool) : (c.beginStop b).health = c.health := rfl
@[simp] theorem Channel.health_closeD (b : Bool) : (c.closeD b).health = c.health := by simp [Channel.closeD]
@[simp] theorem Channel.health_shift (d : Tick) : (c.shift d).health = c.health := rfl
@[simp] theorem Channel.health_dropEngine : c.dropEngine.health = c.health := by simp [Channel.dropEngine]
@[simp] theorem Channel.health_clearExchange : c.clearExchange.health = c.health := rfl
@[simp] theorem Channel.health_askRelay : c.askRelay.health = c.health := by simp [Channel.askRelay]
@[simp] theorem Channel.health_restartRelay : c.restartRelay.health = c.health := rfl
@[simp] theorem Channel.health_relayByte : c.relayByte.health = c.health := rfl
@[simp] theorem Channel.health_give (b : Byte) : (c.give b).health = c.health := rfl
@[simp] theorem Channel.health_shiftOut : c.shiftOut.health = c.health := by
  unfold Channel.shiftOut; (repeat' split) <;> rfl
@[simp] theorem Channel.health_beginAddress (t : Tick) : (c.beginAddress t).health = c.health := rfl
@[simp] theorem Channel.health_endTransaction : c.endTransaction.health = c.health := by
  simp [Channel.endTransaction]
@[simp] theorem Channel.health_stopD : c.stopD.health = c.health := by simp [Channel.stopD]
@[simp] theorem Channel.health_condLines (k : Cond) : (c.condLines k).health = c.health := by cases k <;> rfl
@[simp] theorem Channel.health_plainCond (k : Cond) : (c.plainCond k).health = c.health := by
  cases k <;> simp [Channel.plainCond]
@[simp] theorem Channel.health_keepCond (k : Cond) (n : Nat) (t : Tick) : (c.keepCond k n t).health = c.health := rfl
@[simp] theorem Channel.health_followByte (b : Byte) : (c.followByte b).health = c.health := rfl
@[simp] theorem Channel.health_openExchange (b : Byte) : (c.openExchange b).health = c.health := by
  simp [Channel.openExchange]
@[simp] theorem Channel.health_keepAddress (b : Byte) : (c.keepAddress b).health = c.health := rfl
@[simp] theorem Channel.health_openByte (b : Byte) : (c.openByte b).health = c.health := rfl
@[simp] theorem Channel.health_fetch (n : Nat) : (c.fetch n).health = c.health := rfl
@[simp] theorem Channel.health_driveAck (b : AckBit) : (c.driveAck b).health = c.health := rfl
@[simp] theorem Channel.health_sampleAck (b : AckBit) : (c.sampleAck b).health = c.health := rfl
@[simp] theorem Channel.health_settleKept : c.settleKept.health = c.health := by
  unfold Channel.settleKept; split <;> rfl
@[simp] theorem Channel.health_breakClear : c.breakClear.health = c.health := rfl
@[simp] theorem Channel.health_stuckFree : c.stuckFree.health = c.health := by simp [Channel.stuckFree]
@[simp] theorem Channel.health_outOfBus : c.outOfBus.health = c.health := rfl
@[simp] theorem Channel.health_cTimeFree : c.cTimeFree.health = c.health := by simp [Channel.cTimeFree]
@[simp] theorem Channel.health_trafficD (k : Cond) : (c.trafficD k).health = c.health := rfl
@[simp] theorem Channel.health_dCond (k : Cond) : (c.dCond k).health = c.health := by
  cases k <;> simp [Channel.dCond]
@[simp] theorem Channel.health_clockFall : c.clockFall.health = c.health := by simp [Channel.clockFall]
@[simp] theorem Channel.health_lineTold (b : Bool) (x : Side) (l : Line) (y : Bool) :
    (c.lineTold b x l y).health = c.health := by simp [Channel.lineTold]
@[simp] theorem Channel.health_changeTo (m : Mode) : (c.changeTo m).health = c.health := by
  unfold Channel.changeTo; dsimp only; split <;> rfl

/-! ### The operations of a channel that leave the counts of its integration alone -/

@[simp] theorem Channel.counts_pass (n : Nat) : (c.pass n).health.counts = c.health.counts := rfl
@[simp] theorem Channel.counts_clearPhase (n : Nat) (p : Plan) (b : Bool) :
    (c.clearPhase n p b).health.counts = c.health.counts := rfl
@[simp] theorem Channel.counts_startClear : c.startClear.health.counts = c.health.counts := rfl
@[simp] theorem Channel.counts_endClear (r : ClearResult) : (c.endClear r).health.counts = c.health.counts := rfl
@[simp] theorem Channel.counts_abandonClear : c.abandonClear.health.counts = c.health.counts := by
  unfold Channel.abandonClear; split <;> simp
@[simp] theorem Channel.counts_afterPulse (b : BusClear) (x : Bool) :
    (c.afterPulse b x).health.counts = c.health.counts := by simp [Channel.afterPulse, Channel.lastPulse]
@[simp] theorem Channel.counts_clearFailed (b : BusClear) : (c.clearFailed b).health.counts = c.health.counts := by
  simp [Channel.clearFailed]
@[simp] theorem Channel.counts_setSettings (l : List (Byte × Half)) (t : ChanSettings) :
    (c.setSettings l t).health.counts = c.health.counts := by simp [Channel.setSettings]

end

/-! ### The operations of the state that leave the gauge alone -/

@[simp] theorem State.gauge_raise (n : Notice) : (s.raise n).gauge = s.gauge := (rfl)
@[simp] theorem State.gauge_raiseIf (b : Bool) (n : Notice) : (s.raiseIf b n).gauge = s.gauge := by
  simp [State.raiseIf]
@[simp] theorem State.gauge_hand (x : Option Chan) (b : Body) : (s.hand x b).gauge = s.gauge := by
  simp only [State.hand, State.gauge_raiseIf]; rfl
@[simp] theorem State.gauge_event (x : Option Chan) (e : Event) : (s.event x e).gauge = s.gauge := by
  simp [State.event]
@[simp] theorem State.gauge_onExch (f : Exchange → Exchange) : (s.onExch ch f).gauge = s.gauge := by
  simp [State.onExch]
@[simp] theorem State.gauge_onImage (k : Fin 4) (f : Image → Image) : (s.onImage k f).gauge = s.gauge := (rfl)
@[simp] theorem State.gauge_onHealth (f : Health → Health) (h : KeepsCounts fun c => { c with health := f c.health }) :
    (s.onHealth ch f).gauge = s.gauge := s.gauge_onChan ch _ h
@[simp] theorem State.gauge_tally (f : Stats → Stats) : (s.tally ch f).gauge = s.gauge := by
  simp [State.tally]
@[simp] theorem State.gauge_retime : (s.retime ch).gauge = s.gauge := by simp [State.retime]
@[simp] theorem State.gauge_retimeAll : s.retimeAll.gauge = s.gauge := by simp [State.retimeAll]
@[simp] theorem State.gauge_snapshotNow : s.snapshotNow.gauge = s.gauge := (rfl)
@[simp] theorem State.gauge_setPark : (s.setPark ch).gauge = s.gauge := by simp [State.setPark]
@[simp] theorem State.gauge_consoleFlush : (s.consoleFlush ch).gauge = s.gauge := by simp [State.consoleFlush]
@[simp] theorem State.gauge_consoleTake (b : Byte) : (s.consoleTake ch b).gauge = s.gauge := by
  simp [State.consoleTake]
@[simp] theorem State.gauge_writeWindow (x : Exchange) : (s.writeWindow x).gauge = s.gauge := by
  unfold State.writeWindow; (repeat' split) <;> simp
@[simp] theorem State.gauge_releaseRefs (x : Exchange) : (s.releaseRefs x).gauge = s.gauge := (rfl)
@[simp] theorem State.gauge_noteNack : (s.noteNack ch).gauge = s.gauge := by
  unfold State.noteNack; dsimp only; (repeat' split) <;> simp
@[simp] theorem State.gauge_refuseAddress (d : Disposition) : (s.refuseAddress ch d).gauge = s.gauge := by
  simp [State.refuseAddress]
@[simp] theorem State.gauge_answerLocal (d : Disposition) (i : Option (Fin 4)) :
    (s.answerLocal ch d i).gauge = s.gauge := by simp [State.answerLocal]
@[simp] theorem State.gauge_applyForward : (s.applyForward ch).gauge = s.gauge := by simp [State.applyForward]
@[simp] theorem State.gauge_applyEmulate (k : Fin 4) : (s.applyEmulate ch k).gauge = s.gauge := by
  simp [State.applyEmulate]
@[simp] theorem State.gauge_applyConsole : (s.applyConsole ch).gauge = s.gauge := by simp [State.applyConsole]
@[simp] theorem State.gauge_refuseByte : (s.refuseByte ch).gauge = s.gauge := by simp [State.refuseByte]
@[simp] theorem State.gauge_useByte : (s.useByte ch).gauge = s.gauge := by
  refine State.gauge_onChan s ch _ fun c => ?_
  split <;> simp
@[simp] theorem State.gauge_apply (p : Planned) : (s.apply ch p).gauge = s.gauge := by
  cases p <;> simp [State.apply]
@[simp] theorem State.gauge_giveLocal : (s.giveLocal ch).gauge = s.gauge := by
  unfold State.giveLocal; (repeat' split) <;> simp
@[simp] theorem State.gauge_useLocal : (s.useLocal ch).gauge = s.gauge := by
  unfold State.useLocal State.storeByte; (repeat' split) <;> simp
@[simp] theorem State.gauge_endHold (a : Option Planned) (c : HoldCause) : (s.endHold ch a c).gauge = s.gauge := by
  unfold State.endHold; split <;> simp
@[simp] theorem State.gauge_abandonHold : (s.abandonHold ch).gauge = s.gauge := by simp [State.abandonHold]
@[simp] theorem State.gauge_finishHold (b : Bool) (p : Planned) (c : HoldCause) :
    (s.finishHold ch b p c).gauge = s.gauge := by simp [State.finishHold, State.applyHeld]
@[simp] theorem State.gauge_refuseHeld : (s.refuseHeld ch).gauge = s.gauge := by
  unfold State.refuseHeld; (repeat' split) <;> simp
@[simp] theorem State.gauge_settleOwed : (s.settleOwed ch).gauge = s.gauge := by simp [State.settleOwed]
@[simp] theorem State.gauge_onJob (f : Job → Job) : (s.onJob f).gauge = s.gauge := (rfl)
@[simp] theorem State.gauge_keepBurst (l : List Byte) : (s.keepBurst l).gauge = s.gauge := (rfl)
@[simp] theorem State.gauge_grantUnit (j : Job) : (s.grantUnit ch j).gauge = s.gauge := by
  simp only [State.grantUnit, State.gauge_onChan, keepsCounts_iff, Channel.health_grantEngine, implies_true]; rfl
@[simp] theorem State.gauge_engineAsk : s.engineAsk.gauge = s.gauge := by
  unfold State.engineAsk; (repeat' split) <;> simp
@[simp] theorem State.gauge_unitStop : s.unitStop.gauge = s.gauge := by
  unfold State.unitStop; split <;> simp
@[simp] theorem State.gauge_unitStops : s.unitStops.gauge = s.gauge := by
  unfold State.unitStops; split <;> simp
@[simp] theorem State.gauge_admitJob (j : Job) : (s.admitJob j).gauge = s.gauge := by
  simp only [State.admitJob, State.gauge_retimeAll, State.gauge_engineAsk]
  exact apply_ite_same State.gauge _ _ _ _ rfl rfl
@[simp] theorem State.gauge_refuseStopping : (s.refuseStopping ch).gauge = s.gauge := by
  simp [State.refuseStopping]
@[simp] theorem State.gauge_addressAcked (b : AckBit) : (s.addressAcked ch b).gauge = s.gauge := by
  unfold State.addressAcked; (repeat' split) <;> simp
@[simp] theorem State.gauge_dataAcked (x : Exchange) (b : AckBit) : (s.dataAcked ch x b).gauge = s.gauge := by
  unfold State.dataAcked State.observedAck State.readAcked State.localReadAcked
  dsimp only
  (repeat' split) <;> simp
@[simp] theorem State.gauge_grantLost : (s.grantLost ch).gauge = s.gauge := by simp [State.grantLost]
@[simp] theorem State.gauge_grantWaiter : (s.grantWaiter ch).gauge = s.gauge := by
  unfold State.grantWaiter; dsimp only; (repeat' split) <;> simp
@[simp] theorem State.gauge_setStuckD : (s.setStuckD ch).gauge = s.gauge := by simp [State.setStuckD]
@[simp] theorem State.gauge_clearStuckC : (s.clearStuckC ch).gauge = s.gauge := by simp [State.clearStuckC]
@[simp] theorem State.gauge_onSupply (f : Supply → Supply) : (s.onSupply f).gauge = s.gauge := (rfl)
@[simp] theorem State.gauge_supplyEvent : s.supplyEvent.gauge = s.gauge := by simp [State.supplyEvent]
@[simp] theorem State.gauge_onLink (f : Link → Link) : (s.onLink f).gauge = s.gauge := (rfl)
@[simp] theorem State.gauge_reply (t c : Byte) (a : Answer) : (s.reply t c a).gauge = s.gauge := (rfl)
@[simp] theorem State.gauge_pass (n : Nat) : (s.pass n).gauge = s.gauge := (rfl)

/-- No action of a route touches what has a range (R140). -/
@[simp] theorem State.gauge_act (a : Option RouteAction) : (s.act a).gauge = s.gauge := by
  unfold State.act
  split
  case h_4 => exact s.gauge_setPark .c0
  case h_5 => exact s.gauge_setPark .c1
  all_goals rfl

end Sys2Proof.Machine
end

section
/-! SUPPORT. What the shared operations make of the counts of the integration and of the routes, whatever else they do
(R139, R144 to R146). -/

namespace Sys2Proof.Machine

/-! ### Two gauges -/

/-- The second gauge is in order where the first is, for the health monitor and for the trigger router apart. -/
def Gauge.Steady (g g' : Gauge) : Prop := (g.HealthOk → g'.HealthOk) ∧ (g.TriggersOk → g'.TriggersOk)

/-- The health monitor and the trigger router of `t` are in order where those of `s` are. -/
abbrev Steady (s t : State) : Prop := Gauge.Steady s.gauge t.gauge

theorem steady_iff {s t : State} : Steady s t ↔ (s.HealthOk → t.HealthOk) ∧ (s.TriggersOk → t.TriggersOk) := by
  simp only [State.healthOk_iff, State.triggersOk_iff]
  rfl

@[simp] theorem Gauge.Steady.refl (g : Gauge) : Gauge.Steady g g := ⟨id, id⟩

theorem Steady.refl (s : State) : Steady s s := Gauge.Steady.refl _

variable {s t u : State} (ch : Chan)

/-- An operation that leaves the gauge alone keeps both in order. -/
theorem Steady.of_eq (h : Steady s t) (e : u.gauge = t.gauge) : Steady s u := by
  rwa [Steady, e]

/-! ### The integration (R144 to R146) -/

theorem count63_le (n : Nat) : count63 n ≤ 63 := Nat.min_le_left ..

/-- A channel changed: what R143 asks of its counts is all that is asked. -/
theorem Steady.onChan (h : Steady s t) {f : Channel → Channel}
    (hf : (t.chan ch).health.counts.Ok → (f (t.chan ch)).health.counts.Ok) : Steady s (t.onChan ch f) := by
  obtain ⟨health, triggers⟩ := h
  refine ⟨fun hs => ?_, fun hs => by cases ch <;> exact triggers hs⟩
  obtain ⟨degrade, clear, recover, counts0, counts1⟩ := health hs
  cases ch
  · exact ⟨degrade, clear, recover, hf counts0, counts1⟩
  · exact ⟨degrade, clear, recover, counts0, hf counts1⟩

theorem Steady.onHealth (h : Steady s t) {f : Health → Health}
    (hf : (t.chan ch).health.counts.Ok → (f (t.chan ch).health).counts.Ok) : Steady s (t.onHealth ch f) :=
  h.onChan ch hf

@[simp] theorem Steady.declareDegraded (h : Steady s t) : Steady s (t.declareDegraded ch) := by
  have zeroed : Steady s (t.onHealth ch fun h => { h with degraded := true, misframes := 0, cleanRun := 0 }) :=
    h.onHealth ch fun _ => ⟨Nat.zero_le _, Nat.zero_le _, fun _ => rfl⟩
  unfold State.declareDegraded
  dsimp only
  (repeat' split) <;> exact zeroed.of_eq (by simp)

@[simp] theorem Steady.clearDegraded (h : Steady s t) : Steady s (t.clearDegraded ch) := by
  have cleared : Steady s (t.onHealth ch fun h => { h with degraded := false, cleanRun := 0 }) :=
    h.onHealth ch fun ⟨misframes, _, _⟩ => ⟨misframes, Nat.zero_le _, fun hd => by cases hd⟩
  unfold State.clearDegraded
  dsimp only
  split <;> exact cleared.of_eq (by simp)

/-- A misframe leaves a count of at most 63, and raises none while DEGRADED (R145, R146). -/
@[simp] theorem Steady.takeMisframe (h : Steady s t) : Steady s (t.takeMisframe ch) := by
  have tallied : Steady s (t.tally ch fun x => { x with misframes := bump x.misframes }) := h.of_eq (by simp)
  unfold State.takeMisframe
  dsimp only
  (repeat' split)
  case isTrue => exact tallied.onHealth ch fun ⟨misframes, _, zero⟩ => ⟨misframes, Nat.zero_le _, zero⟩
  case isFalse.isTrue => exact tallied.declareDegraded ch
  case isFalse.isFalse hd _ =>
    exact tallied.onHealth ch fun _ => ⟨count63_le _, Nat.zero_le _, fun hd' => absurd hd' hd⟩

/-- A clean exchange leaves a run of at most 63 (R145, R146). -/
@[simp] theorem Steady.takeClean (h : Steady s t) : Steady s (t.takeClean ch) := by
  unfold State.takeClean
  dsimp only
  (repeat' split)
  case isTrue.isTrue => exact h.clearDegraded ch
  case isTrue.isFalse => exact h.onHealth ch fun ⟨misframes, _, zero⟩ => ⟨misframes, count63_le _, zero⟩
  case isFalse.isTrue => exact h.onHealth ch fun _ => ⟨Nat.zero_le _, Nat.zero_le _, fun _ => rfl⟩
  case isFalse.isFalse => exact h.onHealth ch fun ⟨misframes, _, zero⟩ => ⟨misframes, count63_le _, zero⟩

@[simp] theorem Steady.misframe (h : Steady s t) : Steady s (t.misframe ch) :=
  .takeMisframe ch (h.of_eq (by simp))

/-! ### The router (R139) -/

/-- A fire count stops at 65535 (R137). -/
theorem fireRoutes_ok {l : List Route} (h : Filled 8 Route.Ok l) (x : Source) (e : Option Nat) :
    Filled 8 Route.Ok (fireRoutes x e l) := by
  refine h.map fun r hr => ?_
  split
  · exact Nat.min_le_left ..
  · exact hr

/-- The routes replaced by eight in order where the old ones are. -/
theorem Steady.onRoutes (h : Steady s t) {l : List Route} (hl : Filled 8 Route.Ok t.routes → Filled 8 Route.Ok l) :
    Steady s { t with routes := l } :=
  ⟨h.1, fun hs => by
    obtain ⟨slots, edges, width, routes⟩ := h.2 hs
    exact ⟨slots, edges, width, hl routes⟩⟩

/-- An occurrence raises fire counts and changes nothing else that has a range (R139). -/
@[simp] theorem Steady.occur (h : Steady s t) (x : Source) (e : Option Nat) : Steady s (t.occur x e) := by
  unfold State.occur
  dsimp only
  split
  · exact h
  · have fired : Steady s { t.hand none (.trigger x e) with routes := fireRoutes x e (t.hand none (.trigger x e)).routes } :=
      Steady.onRoutes (h.of_eq (State.gauge_hand ..)) fun hl => fireRoutes_ok hl x e
    exact fired.of_eq (foldl_keeps State.gauge _ (fun v (r : Route) => State.gauge_act v r.action) _ _)

@[simp] theorem Steady.ruleTrigger (h : Steady s t) (w : Option (Nat × Copy)) : Steady s (t.ruleTrigger w) := by
  unfold State.ruleTrigger
  (repeat' split) <;> simp [Steady, h]

/-! ### Exchanges and holds (R34, R92) -/

@[simp] theorem Steady.endExchange (h : Steady s t) (k : EndKind) : Steady s (t.endExchange ch k) := by
  unfold State.endExchange
  dsimp only
  (repeat' split) <;> simp [Steady, h]

@[simp] theorem Steady.beginHold (h : Steady s t) (o : HoldOrigin) (p : Planned) (d : HoldTimeout) :
    Steady s (t.beginHold ch o p d) := by
  unfold State.beginHold
  dsimp only
  split
  · exact h
  · simp [Steady, h]

@[simp] theorem Steady.cutFrame (h : Steady s t) : Steady s (t.cutFrame ch) := by
  simp [State.cutFrame, Steady, h]

@[simp] theorem Steady.takeCond (h : Steady s t) (b : Bool) (time : Tick) (k : Cond) :
    Steady s (t.takeCond ch b time k) := by
  cases k <;> cases b <;> simp [State.takeCond, State.takeStart, State.takeStop, Steady, h]

@[simp] theorem Steady.condMisframe (h : Steady s t) (b : Bool) (n : Nat) : Steady s (t.condMisframe ch b n) := by
  unfold State.condMisframe
  (repeat' split) <;> simp [Steady, h]

@[simp] theorem Steady.cCondition (h : Steady s t) (k : Cond) (n : Nat) : Steady s (t.cCondition ch k n) := by
  have shown : Steady s ((t.onChan ch fun c => c.condLines k).onChan ch fun c => { c with highPhase := false }) :=
    h.of_eq (by simp)
  unfold State.cCondition
  dsimp only
  (repeat' split) <;> simp [Steady, h, shown]

@[simp] theorem Steady.takeNext (h : Steady s t) (n : NextAct) : Steady s (t.takeNext ch n) := by
  cases n <;> simp [State.takeNext, Steady, h]

@[simp] theorem Steady.decided (h : Steady s t) (n : NextAct) : Steady s (t.decided ch n) := by
  unfold State.decided
  (repeat' split) <;> simp [Steady, h]

@[simp] theorem Steady.resumeNext (h : Steady s t) : Steady s (t.resumeNext ch) := by
  unfold State.resumeNext
  split <;> simp [Steady, h]

/-! ### The scans (R51, R56) -/

@[simp] theorem State.gauge_addressScan (x : Exchange) : (t.addressScan ch x).1.gauge = t.gauge := by
  unfold State.addressScan
  exact (State.gauge_onExch ..).trans rfl

@[simp] theorem State.gauge_indexScan (x : Exchange) (b : Byte) : (t.indexScan ch x b).1.gauge = t.gauge := by
  unfold State.indexScan
  exact (State.gauge_onExch ..).trans rfl

@[simp] theorem Steady.addressStage (h : Steady s t) (x : Exchange) : Steady s (t.addressStage ch x) := by
  unfold State.addressStage
  exact .decided ch (.ruleTrigger (h.of_eq (by simp)) _) _

@[simp] theorem Steady.lookAddress (h : Steady s t) (b : Byte) : Steady s (t.lookAddress ch b) := by
  simp [State.lookAddress, Steady, h]

@[simp] theorem Steady.takeAddress (h : Steady s t) (b : Byte) : Steady s (t.takeAddress ch b) := by
  unfold State.takeAddress
  dsimp only
  (repeat' split) <;> simp [Steady, h]

@[simp] theorem Steady.passAddress (h : Steady s t) (b : Byte) : Steady s (t.passAddress ch b) := by
  unfold State.passAddress
  split <;> simp [Steady, h]

/-- What was kept to the end of a D-side bit, acted on item by item (R31). -/
@[simp] theorem Steady.takeKept (h : Steady s t) (l : List Kept) : Steady s (t.takeKept ch l) := by
  induction l generalizing t with
  | nil => exact h
  | cons k rest ih =>
    cases k with
    | cond k b time => exact ih (h.takeCond ch b time k)
    | address b =>
      unfold State.takeKept
      split
      · exact ih (h.takeAddress ch b)
      · exact ih (h.passAddress ch b)

@[simp] theorem Steady.flushDeferred (h : Steady s t) : Steady s (t.flushDeferred ch) :=
  .takeKept ch (h.of_eq (by simp)) _

@[simp] theorem Steady.indexStage (h : Steady s t) (x : Exchange) (b : Byte) : Steady s (t.indexStage ch x b) := by
  unfold State.indexStage State.indexAct
  dsimp only
  (repeat' split) <;> simp [Steady, h]

@[simp] theorem Steady.byteStage (h : Steady s t) (x : Exchange) : Steady s (t.byteStage ch x) := by
  unfold State.byteStage
  dsimp only
  (repeat' split) <;> simp [Steady, h]

/-! ### The engine (R166 to R173) -/

@[simp] theorem Steady.finishJob (h : Steady s t) (c : JobCause) (a : Nat) : Steady s (t.finishJob c a) := by
  have claims : ∀ (b : Bool) (v : State) (q : Claims),
      (if b then { v with supply := { v.supply with claims := q } } else v).gauge = v.gauge := fun b _ _ => by
    cases b <;> rfl
  unfold State.finishJob
  split
  · exact h
  · refine .occur (h.of_eq ?_) _ _
    rw [State.gauge_settleOwed]
    refine (claims _ _ _).trans ?_
    rw [State.gauge_raise, State.gauge_hand]
    exact t.gauge_onChan _ _ fun c => congrArg _ c.health_dropEngine

@[simp] theorem Steady.endJob (h : Steady s t) (c : JobCause) : Steady s (t.endJob c) := by
  unfold State.endJob
  split <;> simp [Steady, h]

@[simp] theorem Steady.endJobOn (h : Steady s t) (c : JobCause) : Steady s (t.endJobOn ch c) := by
  unfold State.endJobOn
  split <;> simp [Steady, h]

@[simp] theorem Steady.enterEnding (h : Steady s t) (c : JobCause) : Steady s (t.enterEnding c) := by
  unfold State.enterEnding
  dsimp only
  (repeat' split) <;> simp [Steady, h]

@[simp] theorem Steady.failAttempt (h : Steady s t) (c : JobCause) : Steady s (t.failAttempt c) := by
  unfold State.failAttempt
  (repeat' split) <;> simp [Steady, h]

@[simp] theorem Steady.afterProbe (h : Steady s t) : Steady s t.afterProbe := by
  unfold State.afterProbe
  dsimp only
  (repeat' split) <;> simp [Steady, h]

@[simp] theorem Steady.burstUsed (h : Steady s t) : Steady s t.burstUsed := by
  unfold State.burstUsed
  (repeat' split) <;> simp [Steady, h]

@[simp] theorem Steady.useBurst (h : Steady s t) : Steady s t.useBurst := by
  unfold State.useBurst
  dsimp only
  (repeat' split) <;> simp [Steady, h]

@[simp] theorem Steady.unitLost (h : Steady s t) : Steady s t.unitLost := by
  unfold State.unitLost
  (repeat' split) <;> simp [Steady, h]

/-! ### What fails on a bus (R40 to R42, R149, R150) -/

@[simp] theorem Steady.failExchange (h : Steady s t) : Steady s (t.failExchange ch) := by
  unfold State.failExchange
  split <;> simp [Steady, h]

@[simp] theorem Steady.relayMisframe (h : Steady s t) (b : Bool) : Steady s (t.relayMisframe ch b) := by
  unfold State.relayMisframe
  (repeat' split) <;> simp [Steady, h]

@[simp] theorem Steady.relayLost (h : Steady s t) (op : DOp) : Steady s (t.relayLost ch op) := by
  unfold State.relayLost
  refine .flushDeferred ch ?_
  split <;> simp [Steady, h]

@[simp] theorem Steady.declareStuckD (h : Steady s t) : Steady s (t.declareStuckD ch) := by
  unfold State.declareStuckD
  dsimp only
  split <;> simp [Steady, h]

@[simp] theorem Steady.abortStuck (h : Steady s t) : Steady s (t.abortStuck ch) := by
  simp [State.abortStuck, Steady, h]

@[simp] theorem Steady.clearStuckD (h : Steady s t) : Steady s (t.clearStuckD ch) := by
  simp [State.clearStuckD, Steady, h]

@[simp] theorem Steady.clearMade (h : Steady s t) : Steady s (t.clearMade ch) := by
  unfold State.clearMade
  dsimp only
  split <;> simp [Steady, h]

@[simp] theorem Steady.declareStuckC (h : Steady s t) : Steady s (t.declareStuckC ch) := by
  simp [State.declareStuckC, Steady, h]

@[simp] theorem Steady.loseD (h : Steady s t) : Steady s (t.loseD ch) := by
  unfold State.loseD
  dsimp only
  split <;> simp [Steady, h]

@[simp] theorem Steady.stretchOut (h : Steady s t) : Steady s (t.stretchOut ch) := by
  have declared : Steady s (((t.tally ch fun x => { x with dStretchTimeouts := bump x.dStretchTimeouts }).onChan ch
      Channel.dropGrant).declareStuckD ch) := by simp [Steady, h]
  unfold State.stretchOut
  dsimp only
  (repeat' split) <;> simp [Steady, h, declared]

@[simp] theorem Steady.closeFailed (h : Steady s t) : Steady s (t.closeFailed ch) := by
  have told : Steady s (((t.onChan ch Channel.dropGrant).tally ch fun x =>
      { x with arbLosses := bump x.arbLosses }).relayMisframe ch false) := by simp [Steady, h]
  unfold State.closeFailed
  dsimp only
  split <;> simp [Steady, h, told]

/-! ### CHANNEL RESET, the entry to ISOLATED and the supply (R9, R18, R181, R183) -/

@[simp] theorem Steady.resetChannel (h : Steady s t) : Steady s (t.resetChannel ch) := by
  have abandoned : Steady s (((((t.onChan ch fun c => { c with console := [] }).endExchange ch .aborted).onChan ch
      fun c => c.closeD false)).abandonHold ch) := by simp [Steady, h]
  exact (abandoned.onChan ch fun _ => ⟨Nat.zero_le _, Nat.zero_le _, fun hd => by cases hd⟩).of_eq
    (State.gauge_retimeAll _)

@[simp] theorem Steady.isolate (h : Steady s t) (c : JobCause) : Steady s (t.isolate ch c) := by
  have aborted : Steady s ((t.onChan ch fun c => { c.abandonClear with mode := .isolated, pull := .released }).endExchange
      ch .aborted) := .endExchange ch (h.of_eq (by simp)) _
  simp [State.isolate, Steady, aborted]

@[simp] theorem Steady.isolateIfDue (h : Steady s t) (v : State) (c : JobCause) :
    Steady s (v.isolateIfDue c ch t) := by
  unfold State.isolateIfDue
  split <;> simp [Steady, h]

/-- Both channels, whichever comes first (log entry 13). -/
theorem Steady.onBoth (h : Steady s t) (b : Bool) {f : Chan → State → State}
    (hf : ∀ ch v, Steady s v → Steady s (f ch v)) : Steady s (t.onBoth b f) := by
  unfold State.onBoth
  (repeat' split) <;> exact hf _ _ (hf _ _ h)

@[simp] theorem Steady.isolateBoth (h : Steady s t) (c : JobCause) : Steady s (t.isolateBoth c) :=
  .of_eq (.onBoth h _ fun ch _ hv => hv.isolateIfDue ch t c) (State.gauge_retimeAll _)

@[simp] theorem Steady.trip (h : Steady s t) (c : TripCause) : Steady s (t.trip c) := by
  simp [State.trip, Steady, h]

@[simp] theorem Steady.endStopping (h : Steady s t) (r : StopResult) : Steady s (t.endStopping r) := by
  simp [State.endStopping, Steady, h]

@[simp] theorem Steady.enterStopping (h : Steady s t) : Steady s t.enterStopping := by
  have refused : ∀ (v : State) (b : Bool), Steady s v → Steady s (v.onBoth b fun ch v => v.refuseHeld ch) :=
    fun v b hv => .onBoth hv b fun ch v hv => by simp [Steady, hv]
  have entered : Steady s (t.onSupply Supply.stop).supplyEvent := h.of_eq (by simp)
  unfold State.enterStopping
  dsimp only
  split
  · exact .endStopping (.enterEnding (refused _ _ entered) _) _
  · exact (Steady.enterEnding (refused _ _ entered) _).of_eq (State.gauge_retimeAll _)

end Sys2Proof.Machine
end

section
/-! Every step keeps the health monitor and the trigger router in order (O60). -/

namespace Sys2Proof.Machine

variable (s : State)

/-! ### The requests of the two blocks (R130, R131, R134, R135, R141, R157) -/

/-- The thresholds of the monitor in their range (R143). -/
def Monitor.Ok (m : Monitor) : Prop :=
  (1 ≤ m.degrade ∧ m.degrade ≤ 63) ∧ (1 ≤ m.clear ∧ m.clear ≤ 63) ∧ (1 ≤ m.recover ∧ m.recover ≤ 63)

/-- A setting of HEALTH CONFIG leaves the thresholds in range (R157). -/
theorem healthSetting_ok {m m' : Monitor × Bool} {p : Byte × Half} (h : m.1.Ok) (e : healthSetting m p = some m') :
    m'.1.Ok := by
  have inRange : ∀ v, 1 ≤ clampTo 1 63 v ∧ clampTo 1 63 v ≤ 63 := clampTo_mem (by decide)
  obtain ⟨degrade, clear, recover⟩ := h
  unfold healthSetting at e
  dsimp only at e
  split at e
  · cases e; exact ⟨inRange _, clear, recover⟩
  · cases e; exact ⟨degrade, inRange _, recover⟩
  · cases e; exact ⟨degrade, clear, inRange _⟩
  · cases e; exact ⟨degrade, clear, recover⟩
  · cases e

theorem applyAll_healthSetting_ok {m m' : Monitor × Bool} {l : List (Byte × Half)} (h : m.1.Ok)
    (e : applyAll healthSetting m l = some m') : m'.1.Ok := by
  induction l generalizing m with
  | nil =>
    cases e
    exact h
  | cons p l ih =>
    unfold applyAll at e
    split at e
    · cases e
    · exact ih (healthSetting_ok h ‹_›) e

/-- The monitor replaced by one in order where the old one is. -/
theorem Steady.setMonitor {m : Monitor} (h : s.monitor.Ok → m.Ok) : Steady s { s with monitor := m } :=
  ⟨fun ⟨degrade, clear, recover, counts⟩ => by
    obtain ⟨degrade, clear, recover⟩ := h ⟨degrade, clear, recover⟩
    exact ⟨degrade, clear, recover, counts⟩, id⟩

theorem ownHealthConfig_steady (l : List (Byte × Half)) : Steady s (ownHealthConfig l s).1 := by
  unfold ownHealthConfig
  split
  · exact .refl _
  · split
    · exact .refl _
    · exact .setMonitor s fun h => applyAll_healthSetting_ok h ‹_›

/-- A slot replaced by one in order where the old one is. -/
theorem Steady.setCompare (slot : CompareSlot) {c : Compare} (h : (s.compare slot).Ok → c.Ok) :
    Steady s (s.setCompare slot c) := by
  cases slot
  · exact ⟨id, fun ⟨⟨slotA, slotB⟩, rest⟩ => ⟨⟨h slotA, slotB⟩, rest⟩⟩
  · exact ⟨id, fun ⟨⟨slotA, slotB⟩, rest⟩ => ⟨⟨slotA, h slotB⟩, rest⟩⟩

theorem ownCompareConfig_steady (slot : Byte) (delay period : Word) :
    Steady s (ownCompareConfig slot delay period s).1 := by
  unfold ownCompareConfig
  split
  · exact .refl _
  · exact .setCompare s _ fun ⟨_, _, _, fires⟩ => ⟨(clampTo_mem (by decide) _).1, (clampTo_mem (by decide) _).2,
      (clampTo_mem (by decide) _).2, fires⟩

theorem ownCompareArm_steady (slot : Byte) : Steady s (ownCompareArm slot s).1 := by
  unfold ownCompareArm
  split
  · exact .refl _
  · exact .setCompare s _ id

theorem ownCompareDisarm_steady (slot : Byte) : Steady s (ownCompareDisarm slot s).1 := by
  unfold ownCompareDisarm
  split
  · exact .refl _
  · exact .setCompare s _ id

/-- TRIG-IN replaced by one whose count is in range where the old one's is. -/
theorem Steady.setTrigIn {n : TrigIn} (h : s.trigIn.count ≤ 65535 → n.count ≤ 65535) :
    Steady s { s with trigIn := n } :=
  ⟨id, fun ⟨slots, edges, rest⟩ => ⟨slots, h edges, rest⟩⟩

theorem ownTrigInConfig_steady (selection z : Byte) : Steady s (ownTrigInConfig selection z s).1 := by
  unfold ownTrigInConfig
  split
  · refine .setTrigIn s fun h => ?_
    dsimp only
    split
    · exact Nat.zero_le _
    · exact h
  · exact .refl _

/-- An operation of TRIG OUT leaves the pulse width as it was written (R135). -/
theorem trigOperation_width {o p : TrigOut} {op : Byte} (h : trigOperation o op = some p) : p.width = o.width := by
  unfold trigOperation at h
  split at h <;> cases h <;> rfl

theorem ownTrigOut_steady (op : Byte) (w : Option Half) : Steady s (ownTrigOut op w s).1 := by
  unfold ownTrigOut
  dsimp only
  split
  · exact .refl _
  · rename_i t e
    refine ⟨id, fun ⟨slots, edges, width, routes⟩ => ⟨slots, edges, ?_, routes⟩⟩
    change 1 ≤ t.width ∧ t.width ≤ 65535
    rw [trigOperation_width e]
    dsimp only
    split
    · exact width
    · rename_i v
      have := v.isLt
      omega

theorem routeOf_fires {on source action : Byte} {q : Option Byte} {r : Route} (h : routeOf on source q action = some r) :
    r.fires = 0 := by
  unfold routeOf at h
  (repeat' split at h) <;> cases h <;> rfl

theorem ownRouteWrite_steady (index on source : Byte) (q : Option Byte) (action : Byte) :
    Steady s (ownRouteWrite index on source q action s).1 := by
  unfold ownRouteWrite
  split
  · split
    · exact .refl _
    · rename_i e
      exact (Steady.refl s).onRoutes fun h => h.set _ (by rw [Route.Ok, routeOf_fires e]; exact Nat.zero_le _)
  · exact .refl _

theorem ownRouteRead_steady (index z : Byte) : Steady s (ownRouteRead index z s).1 := by
  unfold ownRouteRead
  split
  · dsimp only
    split
    · exact (Steady.refl s).onRoutes fun h => h.set _ (Nat.zero_le _)
    · exact .refl _
  · exact .refl _

theorem ownSetChannel_steady (chan : Byte) (l : List (Byte × Half)) : Steady s (ownSetChannel chan l s).1 := by
  rcases ownSetChannel_cases s chan l with h | ⟨ch, h⟩
  · rw [h]
    exact .refl _
  · rw [h]
    exact (Steady.isolateIfDue ch (.of_eq (.refl s) (by simp)) _ _).of_eq (State.gauge_retimeAll _)

/-- TIME SET moves the targets of the slots, which have no range (R129). -/
theorem ownTimeSet_steady (count : Word) : Steady s (ownTimeSet count s).1 := .refl s

theorem requestOwner_steady {i : Instr} {p : Byte × (State → State × Answer)} (h : requestOwner i = some p) :
    Steady s (p.2 s).1 := by
  cases i <;> cases h
  case healthConfig => exact ownHealthConfig_steady ..
  case compareConfig => exact ownCompareConfig_steady ..
  case compareArm => exact ownCompareArm_steady ..
  case compareDisarm => exact ownCompareDisarm_steady ..
  case trigInConfig => exact ownTrigInConfig_steady ..
  case trigOut => exact ownTrigOut_steady ..
  case routeWrite => exact ownRouteWrite_steady ..
  case routeRead => exact ownRouteRead_steady ..
  case setChannel => exact ownSetChannel_steady ..
  case timeSet => exact ownTimeSet_steady ..
  all_goals
    simp only [ownIdentify, ownSoftReset, ownNoticeNow, ownLinkConfig, ownGetChannel, ownChannelReset, ownWriteRule,
      ownEraseRule, ownReadRule, ownRearm, ownSetEnabled, ownImageConfig, ownImageWrite, ownImageRead, ownImageProtect,
      ownRelease, ownPark, ownHoldStatus, ownLogConfig, ownLogRead, ownLogClear, ownLogStatus, ownTimeRead,
      ownTriggerStatus, ownBusClear, ownHealthStatus, ownStatsSnapshot, ownStatsRead, ownStageWrite, ownStageRead,
      ownStageCheck, ownJobStart, ownJobAbort, ownJobStatus, ownSupplyConfig, ownPowerOn, ownPowerOff, ownClearTrip,
      ownTripTest, ownResetAssert, ownResetRelease, ownResetPulse, ownSupplyStatus, State.supplyAnswer]
    (repeat' split) <;> simp [Steady]

/-! ### Every event -/

theorem State.answerFrame_steady (r : Request) : Steady s (s.answerFrame r) := by
  unfold State.answerFrame
  split
  · exact .of_eq (.refl s) (State.gauge_reply ..)
  · split
    · exact .refl s
    · exact .of_eq (requestOwner_steady s ‹_›) (State.gauge_reply ..)

theorem execDispatch_steady : Leads (execDispatch s) (Steady s) := by
  unfold execDispatch
  (repeat' split)
  case h_2.isTrue => exact (leads_next ..).2 (State.answerFrame_steady (s.onLink _) _)
  all_goals exact (leads_next ..).2 (.refl s)

/-- The link's receiver and transmitter touch neither block. -/
theorem State.gauge_receive (b : Byte) : (s.receive b).gauge = s.gauge := by
  unfold State.receive State.headerDone State.judgeFrame State.acceptFrame State.discardFrame
  dsimp only
  (repeat' split) <;> simp

theorem State.gauge_startFrame : s.startFrame.gauge = s.gauge := by
  unfold State.startFrame State.startReport
  (repeat' split) <;> simp

/-- A reset leaves the two blocks of power-on reset (R19, R195). -/
theorem Steady.of_reset {t : State} (h : t.gauge = State.reset.gauge) : Steady s t := by
  obtain ⟨-, -, -, -, -, -, health, -, -, triggers⟩ := resetInOrder
  rw [Steady, h]
  exact ⟨fun _ => (State.healthOk_iff _).1 health, fun _ => (State.triggersOk_iff _).1 triggers⟩

theorem execSoftResetTaken_steady : Leads (execSoftResetTaken s) (Steady s) := by
  have reset : Steady s s.softReset := .of_reset s rfl
  unfold execSoftResetTaken
  dsimp only
  (repeat' split) <;> simp [Steady, reset]

/-- An edge raises the edge count, which stops at 65535, and is an occurrence (R134). -/
theorem execTriginEdge_steady (rising : Bool) : Leads (execTriginEdge rising s) (Steady s) := by
  unfold execTriginEdge
  dsimp only
  (repeat' split)
  · exact (leads_next ..).2 (.refl s)
  · refine (leads_next ..).2 (.occur ?_ _ _)
    exact (Steady.setTrigIn s fun _ => Nat.min_le_left ..).of_eq (State.gauge_raise ..)
  · exact (leads_next ..).2 (.refl s)

/-- A firing raises the fire count of the slot, which stops at 65535, and is an occurrence (R132). -/
theorem execCompareFire_steady (slot : CompareSlot) : Leads (execCompareFire slot s) (Steady s) := by
  unfold execCompareFire
  split
  · refine (leads_next ..).2 (.occur (.setCompare s slot ?_) _ _)
    exact fun ⟨delay, delay', period, _⟩ => ⟨delay, delay', period, Nat.min_le_left ..⟩
  · exact (leads_next ..).2 (.refl s)

/-- The timer of the period and its expiry have no range (R155). -/
theorem execStatsPeriodExpiry_steady : Leads (execStatsPeriodExpiry s) (Steady s) := by
  have expired : ({ s with monitor := s.monitor.expired } : State).gauge = s.gauge := by
    unfold Monitor.expired
    split <;> rfl
  unfold execStatsPeriodExpiry
  split
  · exact (leads_next ..).2 (.of_eq (.refl s) ((State.gauge_snapshotNow _).trans expired))
  · exact (leads_next ..).2 (.refl s)

theorem exec_event_steady {i : Instr} (h : requestOwner i = none) : Leads (exec i s) (Steady s) := by
  cases i <;> simp only [requestOwner, reduceCtorEq] at h
  case softResetTaken => exact execSoftResetTaken_steady s
  case powerOnReset => exact (leads_next ..).2 (.of_reset s rfl)
  case dispatch => exact execDispatch_steady s
  case triginEdge rising => exact execTriginEdge_steady s rising
  case compareFire slot => exact execCompareFire_steady s slot
  case statsPeriodExpiry => exact execStatsPeriodExpiry_steady s
  case trigOutPulseEnd =>
    exact (leads_ite ..).2 ⟨fun _ => (leads_next ..).2 (.refl s), fun _ => (leads_next ..).2 (.refl s)⟩
  case powerOnResetEnd =>
    exact (leads_ite ..).2 ⟨fun _ => (leads_next ..).2 (.refl s), fun _ => (leads_next ..).2 (.refl s)⟩
  all_goals
    simp only [exec, execLrxByte, execReceiveTimeout, execTransmitStart, execFrameSent, execLholdChange,
      execNoticeIntervalExpiry, execTick, execCStart, execCStop, execBusFreeTimeElapsed, execAddressByteComplete,
      execDataByteComplete, execCAckComplete, execGrantWaitStuckLimit, execDSideGrant, execDAddressAck,
      execDWriteByteDone, execDReadByteDone, execDReadAckDone, execDStopComplete, execDStopFailed,
      execClosePulsesFailed, execArbitrationLoss, execDStretchTimeout, execModeChange, execHoldTimeout,
      execImageWindowExpiry, execStuckCDeclare, execStuckCClear, execStuckDLineTimeout, execStuckDClear,
      execBusClearPulseDone, execBusClearStopDone, execChunkEnd, execProbeEnd, execBurstEnd, execPollLimitExpiry,
      execSettleTimeElapsed, execStoppingQuiesced, execQuiesceLimitExpiry, execOcsenseChange,
      execOvercurrentFilterExpiry, execResetPulseEnd, execDSideCondition, execBusLineChange, State.discardFrame]
    (repeat' split) <;> simp [Steady, State.gauge_receive, State.gauge_startFrame]

theorem exec_steady (i : Instr) : Leads (exec i s) (Steady s) := by
  cases h : requestOwner i with
  | none => exact exec_event_steady s h
  | some p =>
    obtain ⟨tag, e⟩ := exec_request h s
    rw [e, leads_next, State.serve]
    split
    · exact .of_eq (requestOwner_steady s h) (State.gauge_reply ..)
    · exact .refl s

/-- Settles O60: what the two invariants depend on is the gauge of a state, which each command leaves as it was, or moves
within the ranges by what it makes of the counts, the slots, the pins and the routes. -/
theorem stepKeepsHealthAndTriggers : Obligations.StepKeepsHealthAndTriggers := by
  intro s t h
  unfold step at h
  split at h
  · cases h
    exact steady_iff.1 (.refl s)
  · rename_i i rest _
    exact steady_iff.1 (exec_steady { s with pending := rest } i t h)

end Sys2Proof.Machine
end

section
/-! HEALTH STATUS, STATS SNAPSHOT, STATS READ and the expiry of the statistics period (R155, R156, R157): O37. -/

namespace Sys2Proof.Machine

variable {s : State}

/-! ### The expiry of the period (R155) -/

/-- The timer's own expiry is taken, and one kept from before stays due (log entry 50). -/
theorem Monitor.expired_of_due {m : Monitor} (due : timerDue m.timer = true) : m.expired = { m with timer := none } :=
  if_pos due

/-- With no expiry of the timer's own the kept one is taken (log entry 50). -/
theorem Monitor.expired_of_not_due {m : Monitor} (due : timerDue m.timer = false) :
    m.expired = { m with expiryDue := false } :=
  if_neg (due ▸ Bool.false_ne_true)

theorem execStatsPeriodExpiry_taken (reset : s.inReset = false)
    (due : (timerDue s.monitor.timer || s.monitor.expiryDue) = true) :
    execStatsPeriodExpiry s = .next ({ s with monitor := s.monitor.expired } : State).snapshotNow :=
  if_pos ⟨reset, due⟩

theorem execStatsPeriodExpiry_idle (due : timerDue s.monitor.timer = false) (kept : s.monitor.expiryDue = false) :
    execStatsPeriodExpiry s = .next s :=
  if_neg fun h => by simp [due, kept] at h

/-! ### The requests (R156, R157) -/

theorem ownStatsRead_refused {choice : Byte} (high : 2 ≤ choice.toNat) :
    ownStatsRead choice s = (s, refuse .badParam) := by
  unfold ownStatsRead
  split
  · omega
  · omega
  · rfl

theorem ownHealthStatus_code (s : State) (ch : Chan) : ownHealthStatus (chanCode ch) s
    = (s, okWith (le8 (s.chan ch).health.misframes ++ le8 (s.chan ch).health.cleanRun
        ++ yesNo (s.chan ch).health.degraded ++ yesNo (s.chan ch).health.stuckC ++ yesNo (s.chan ch).health.stuckD
        ++ yesNo (s.chan ch).health.owed ++ yesNo (s.chan ch).health.busClear.isSome
        ++ [(s.chan ch).health.lastClear.code] ++ s.monitor.settingBytes)) := by
  rw [ownHealthStatus, chanOf_code]

theorem ownHealthStatus_refused {chan : Byte} (high : 2 ≤ chan.toNat) :
    ownHealthStatus chan s = (s, refuse .badParam) := by
  rw [ownHealthStatus, chanOf_none high]

/-- Settles O37: the three requests by what their owner answers; the expiry by whether the timer's own expiry has come or
one kept from before is due. -/
theorem healthAndStatistics : Obligations.HealthAndStatistics := by
  intro s tag
  have snapshot : exec (.statsSnapshot tag) s = .next (s.serve tag 0x63 ownStatsSnapshot) := rfl
  have read (choice) : exec (.statsRead tag choice) s = .next (s.serve tag 0x64 (ownStatsRead choice)) := rfl
  have status (chan) : exec (.healthStatus tag chan) s = .next (s.serve tag 0x62 (ownHealthStatus chan)) := rfl
  have expiry : exec .statsPeriodExpiry s = execStatsPeriodExpiry s := rfl
  rw [expiry]
  intro wire take due u
  have isDue : timerDue s.monitor.timer = due := rfl
  refine ⟨fun hr => ?_, fun reset come => ?_, fun reset early kept => ?_, fun early kept => ?_, fun hr => ?_,
    fun hr => ?_, fun hr choice high => ?_, fun hr ch => ?_, fun hr chan high => ?_⟩
  · rw [snapshot, s.serve_of_ready hr]
    rfl
  · rw [execStatsPeriodExpiry_taken reset (by rw [isDue, come]; rfl), Monitor.expired_of_due (isDue.trans come)]
    simp only [State.snapshotNow, timerDue, Bool.or_false]
    rfl
  · rw [execStatsPeriodExpiry_taken reset (by rw [kept, Bool.or_true]),
      Monitor.expired_of_not_due (isDue.trans early)]
    simp only [State.snapshotNow, isDue, early, Bool.or_false]
    rfl
  · exact execStatsPeriodExpiry_idle (isDue.trans early) kept
  · rw [read, s.serve_of_ready hr]
    rfl
  · rw [read, s.serve_of_ready hr]
    rfl
  · rw [read, s.serve_of_ready hr, ownStatsRead_refused high]
    rfl
  · rw [status, s.serve_of_ready hr, ownHealthStatus_code]
    simp only [Monitor.settingBytes, ← List.append_assoc]
    rfl
  · rw [status, s.serve_of_ready hr, ownHealthStatus_refused high]
    rfl

end Sys2Proof.Machine
end

section
/-! SUPPORT. The EVENT of a stuck line with its notice, and STUCK_D cleared (R148, R149, R150). -/

namespace Sys2Proof.Machine

variable (s : State) (ch : Chan)

/-! ### An EVENT record with HEALTHn (R148) -/

/-- An EVENT record of channel `ch`, with HEALTHn where no trip is latched. -/
def State.healthEvent (s : State) (ch : Chan) (e : Event) : State :=
  (s.event (some ch) e).raiseIf (!s.tripLatch) (healthNotice ch)

@[simp] theorem State.healthEvent_chan (e : Event) (c : Chan) : (s.healthEvent ch e).chan c = s.chan c := by
  simp [State.healthEvent]

theorem State.healthEvent_told (e : Event) : LogAlike (s.healthEvent ch e) (s.hand (some ch) (.event e)) :=
  ⟨by simp [State.healthEvent, State.event], by simp [State.healthEvent, State.event],
    by simp [State.healthEvent, State.event]⟩

theorem State.healthEvent_ended (e : Event) : OnlyEnded s (s.healthEvent ch e) :=
  (OnlyEnded.hand s _ _).trans (.raiseIf _ _ _)

@[simp] theorem State.healthEvent_rules (e : Event) : (s.healthEvent ch e).rules = s.rules := by
  simp [State.healthEvent]

@[simp] theorem State.healthEvent_images (e : Event) : (s.healthEvent ch e).images = s.images := by
  simp [State.healthEvent]

theorem State.healthEvent_stay (e : Event) : NoticesStay s (s.healthEvent ch e) :=
  (State.hand_stay _ _ _).trans (State.raiseIf_stay _ _ _)

theorem State.healthEvent_noticed (e : Event) (h : s.supply.state ≠ .tripped) :
    (s.healthEvent ch e).link.noticed (healthNotice ch) = true := by
  have untripped : s.tripLatch = false := decide_eq_false h
  rw [State.healthEvent, untripped]
  exact State.raise_noticed _ _

/-! ### STUCK_D cleared (R150) -/

/-- The channel once its STUCK_D is cleared. -/
def Channel.stuckDCleared (c : Channel) : Channel :=
  { ({ c.exchangeAborted.releaseC with
        hold := none, phase := .free, byteOpen := false
        health := { c.exchangeAborted.health with stuckD := false } } : Channel).dFreePoint with sync := .unknown }

/-- A hold is no part of what an exchange ended ABORTED makes of its channel. -/
theorem Channel.exchangeAborted_noHold (c : Channel) :
    ({ c with hold := none } : Channel).exchangeAborted = { c.exchangeAborted with hold := none } := by
  obtain ⟨⟩ := c
  rename_i exch _ _ _ _ _ _
  cases exch <;> rfl

theorem State.abandonHold_chan : (s.abandonHold ch).chan ch = { s.chan ch with hold := none }
    ∧ (s.abandonHold ch).chan (other ch) = s.chan (other ch) := s.endHold_chan ch none .abandoned

theorem State.clearStuckD_eq : s.clearStuckD ch
    = (((s.abortStuck ch).onHealth ch fun h => { h with stuckD := false }).healthEvent ch (.stuckD false)).onChan ch
      fun c => { c.dFreePoint with sync := .unknown } := rfl

theorem State.clearStuckD_chan : (s.clearStuckD ch).chan ch = (s.chan ch).stuckDCleared
    ∧ (s.clearStuckD ch).chan (other ch) = s.chan (other ch) := by
  obtain ⟨here, apart⟩ := s.abandonHold_chan ch
  rw [State.clearStuckD_eq, State.chan_onChan_same, State.chan_onChan_other]
  simp only [State.healthEvent_chan, State.onHealth, State.abortStuck, State.chan_onChan_same,
    State.chan_onChan_other, State.endExchange_chan_aborted, (State.endExchange_chans _ ch _).1, here, apart,
    Channel.exchangeAborted_noHold, and_true]
  rfl

/-- The records of the hold, the exchange and the EVENT, in this order (R34, R99, R150). -/
theorem State.clearStuckD_told : LogAlike (s.clearStuckD ch) (s.handAll (some ch)
    ((s.chan ch).abandonedRecords ++ (s.chan ch).abortedRecords s.tick ++ [.event (.stuckD false)])) := by
  have records : ((s.abandonHold ch).chan ch).abortedRecords (s.abandonHold ch).tick
      = (s.chan ch).abortedRecords s.tick := by
    rw [(s.abandonHold_chan ch).1]
    simp [State.abandonHold, Channel.abortedRecords, Channel.addressAck]
  have aborted : LogAlike (s.abortStuck ch) (s.handAll (some ch)
      ((s.chan ch).abandonedRecords ++ (s.chan ch).abortedRecords s.tick)) := by
    have ended := (s.abandonHold ch).endExchange_told ch
    rw [records] at ended
    rw [State.handAll_append]
    exact (LogAlike.onChan _ ch _).trans (ended.trans ((s.abandonHold_told ch).handAll _ _))
  rw [State.handAll_append, State.clearStuckD_eq]
  refine (LogAlike.onChan _ ch _).trans ((State.healthEvent_told _ ch _).trans ?_)
  exact ((LogAlike.onChan _ ch _).trans aborted).hand _ _

theorem State.clearStuckD_ended : OnlyEnded s (s.clearStuckD ch) := by
  have hold : OnlyEnded s (s.abandonHold ch) := by
    unfold State.abandonHold State.endHold
    split
    · exact .refl s
    · exact (OnlyEnded.onChan s ch _).trans ((OnlyEnded.hand _ _ _).trans rfl)
  have aborted : OnlyEnded s (s.abortStuck ch) := (hold.trans (.endExchange _ ch _)).trans (.onChan _ ch _)
  rw [State.clearStuckD_eq]
  exact (aborted.trans (.onChan _ ch _)).trans ((State.healthEvent_ended _ ch _).trans (.onChan _ ch _))

theorem State.clearStuckD_tables : (s.clearStuckD ch).rules = (s.endExchange ch .aborted).rules
    ∧ (s.clearStuckD ch).images = (s.endExchange ch .aborted).images := by
  have same : ((s.abandonHold ch).chan ch).exch = (s.chan ch).exch := by rw [(s.abandonHold_chan ch).1]
  have rules : (s.abandonHold ch).rules = s.rules := by simp [State.abandonHold]
  have images : (s.abandonHold ch).images = s.images := by simp [State.abandonHold]
  have tick : (s.abandonHold ch).tick = s.tick := by simp [State.abandonHold]
  rw [← s.endExchange_rules_congr ch .aborted rules same, ← s.endExchange_images_congr ch .aborted images tick same]
  simp [State.clearStuckD, State.abortStuck]

theorem State.clearStuckD_noticed : (s.supply.state ≠ .tripped →
      (s.clearStuckD ch).link.noticed (healthNotice ch) = true)
    ∧ ((s.chan ch).hold.isSome = true → (s.clearStuckD ch).link.noticed (holdNotice ch) = true) := by
  have supply : ((s.abortStuck ch).onHealth ch fun h => { h with stuckD := false }).supply = s.supply := by
    simp [State.abortStuck, State.abandonHold]
  have on : ∀ (u : State) (f : Channel → Channel), NoticesStay u (u.onChan ch f) := fun u f => .of_link (by simp)
  rw [State.clearStuckD_eq]
  refine ⟨fun h => (on _ _).keep _ (State.healthEvent_noticed _ ch _ (by rwa [supply])), fun held => ?_⟩
  have aborted : NoticesStay (s.abandonHold ch) (s.abortStuck ch) :=
    (State.endExchange_aborted_stay _ ch).trans (on _ _)
  exact (aborted.trans ((on _ _).trans ((State.healthEvent_stay _ ch _).trans (on _ _)))).keep _
    ((s.endHold_noticed ch none .abandoned).2 held)

/-! ### The state after a clearing -/

/-- What a clearing of STUCK_D on channel `ch` tells and changes beside its channel, from state `s` to state `t`
(R150). -/
structure StuckDTold (ch : Chan) (s t : State) : Prop where
  apart : SameChannel (s.chan (other ch)) (t.chan (other ch))
  log : t.log = (s.handAll (some ch)
    ((s.chan ch).abandonedRecords ++ (s.chan ch).abortedRecords s.tick ++ [.event (.stuckD false)])).log
  rules : t.rules = (s.endExchange ch .aborted).rules
  images : t.images = (s.endExchange ch .aborted).images
  healthy : s.supply.state ≠ .tripped → t.link.noticed (healthNotice ch) = true
  held : (s.chan ch).hold.isSome = true → t.link.noticed (holdNotice ch) = true
  ended : OnlyEnded s t

theorem State.clearStuckD_stuckDTold : StuckDTold ch s (s.clearStuckD ch).retimeAll := by
  obtain ⟨-, apart⟩ := s.clearStuckD_chan ch
  obtain ⟨rules, images⟩ := s.clearStuckD_tables ch
  obtain ⟨healthy, held⟩ := s.clearStuckD_noticed ch
  exact ⟨apart ▸ State.sameChannel_retimeAll _ (other ch), (s.clearStuckD_told ch).log, rules, images, healthy, held,
    (s.clearStuckD_ended ch).trans (.retimeAll _)⟩

/-- The same told from before a change of the channel that leaves what its records are made of. -/
theorem StuckDTold.before {s t : State} {ch : Chan} {g : Channel → Channel} (h : StuckDTold ch (s.onChan ch g) t)
    (hg : ToldAlike (g (s.chan ch)) (s.chan ch)) : StuckDTold ch s t := by
  obtain ⟨apart, log, rules, images, healthy, held, ended⟩ := h
  rw [State.chan_onChan_other] at apart
  rw [State.chan_onChan_same, hg.aborted, hg.abandoned, State.onChan_tick,
    ((LogAlike.onChan s ch g).handAll _ _).log] at log
  have exch : ((s.onChan ch g).chan ch).exch = (s.chan ch).exch := by rw [State.chan_onChan_same, hg.exch]
  rw [s.endExchange_rules_congr ch .aborted (by simp) exch] at rules
  rw [s.endExchange_images_congr ch .aborted (by simp) (by simp) exch] at images
  rw [State.onChan_supply] at healthy
  rw [State.chan_onChan_same, hg.hold] at held
  exact ⟨apart, log, rules, images, healthy, held, (OnlyEnded.onChan s ch g).trans ended⟩

theorem State.clearStuckD_sameChannel :
    SameChannel (s.chan ch).stuckDCleared ((s.clearStuckD ch).retimeAll.chan ch) :=
  (s.clearStuckD_chan ch).1 ▸ State.sameChannel_retimeAll _ ch

/-- The fields of the channel that a clearing settles. -/
theorem Channel.stuckDCleared_eq (c : Channel) : c.stuckDCleared = { c.exchangeAborted with
    hold := none, phase := .free, byteOpen := false, sync := .unknown, dFree := true, exch := none
    pull := ⟨⟨false, false⟩, c.pull.d⟩, highData := false, seenFree := if c.mode = .active then true else c.seenFree
    health := { c.exchangeAborted.health with stuckD := false } } := by
  unfold Channel.stuckDCleared
  rw [Channel.exchangeAborted_eq]
  rfl

end Sys2Proof.Machine
end

section
/-! BUS CLEAR, its pulses and its STOP (R151, R152): O39. -/

namespace Sys2Proof.Machine

variable (s : State) (ch : Chan)

/-! ### BUS CLEAR (R152) -/

theorem ownBusClear_started {s : State} {ch : Chan} (active : (s.chan ch).mode = .active)
    (free : (s.chan ch).arb.holder = .none) (idle : (s.chan ch).health.busClear = none) (high : s.dClockLow ch = false) :
    ownBusClear (chanCode ch) s = ((s.onChan ch Channel.startClear).retimeAll, okWith []) := by
  simp [ownBusClear, active, free, idle, high]

theorem ownBusClear_wrongMode {s : State} {ch : Chan} (mode : (s.chan ch).mode ≠ .active) :
    ownBusClear (chanCode ch) s = (s, refuse .wrongMode) := by
  simp [ownBusClear, mode]

theorem ownBusClear_busy {s : State} {ch : Chan} (active : (s.chan ch).mode = .active)
    (busy : (s.chan ch).arb.holder ≠ .none ∨ (s.chan ch).health.busClear.isSome = true ∨ s.dClockLow ch = true) :
    ownBusClear (chanCode ch) s = (s, refuse .busy) := by
  rw [ownBusClear, chanOf_code]
  dsimp only
  rw [if_neg (not_not_intro active), if_pos busy]

theorem ownBusClear_badParam {s : State} {chan : Byte} (high : 2 ≤ chan.toNat) :
    ownBusClear chan s = (s, refuse .badParam) := by
  rw [ownBusClear, chanOf_none high]

/-! ### A pulse and the STOP (R151) -/

/-- The channel of a bus clear that its STOP ends CLEARED. -/
def Channel.clearDone (c : Channel) : Channel := (c.breakClear.endClear .cleared).dFreePoint

theorem Channel.clearDone_toldAlike (c : Channel) : ToldAlike c.clearDone c := ⟨rfl, rfl, rfl, rfl⟩

theorem Channel.clearDone_phase (c : Channel) : c.clearDone.phase = c.phase := rfl

theorem Channel.startClear_sameChannel (c : Channel) :
    SameChannel { c with
        pull := { c.pull with d := ⟨false, false⟩ }, health := { c.health with busClear := some ⟨0, c.plan, false, 0⟩ } }
      c.startClear := rfl

theorem Channel.afterPulse_high (c : Channel) (b : BusClear) :
    SameChannel { c with health := { c.health with busClear := some ⟨b.pulses + 1, b.plan, true, 0⟩ } }
      (c.afterPulse b true) := rfl

theorem Channel.afterPulse_low (c : Channel) {b : BusClear} (more : b.pulses < 8) :
    SameChannel { c with health := { c.health with busClear := some ⟨b.pulses + 1, b.plan, false, 0⟩ } }
      (c.afterPulse b false) := by
  have next : c.afterPulse b false = c.clearPhase (b.pulses + 1) b.plan false :=
    (if_neg Bool.false_ne_true).trans (if_neg (by omega))
  rw [next]
  rfl

theorem Channel.afterPulse_ninth (c : Channel) {b : BusClear} (last : 8 ≤ b.pulses) :
    SameChannel { c with
        pull := { c.pull with d := ⟨false, false⟩ }, health := { c.health with busClear := none, lastClear := .failed } }
      (c.afterPulse b false) := by
  have ends : c.afterPulse b false = c.lastPulse b := (if_neg Bool.false_ne_true).trans (if_pos (by omega))
  rw [ends]
  rfl

theorem Channel.clearFailed_more (c : Channel) {b : BusClear} (more : b.pulses < 9) :
    SameChannel { c with health := { c.health with busClear := some ⟨b.pulses, b.plan, false, 0⟩ } }
      (c.clearFailed b) := by
  rw [Channel.clearFailed, if_pos more]
  rfl

theorem Channel.clearFailed_ninth (c : Channel) {b : BusClear} (last : 9 ≤ b.pulses) :
    SameChannel { c with
        pull := { c.pull with d := ⟨false, false⟩ }, health := { c.health with busClear := none, lastClear := .failed } }
      (c.clearFailed b) := by
  rw [Channel.clearFailed, if_neg (by omega)]
  rfl

/-- A change of the channel is seen in it whatever becomes of its measurements. -/
theorem State.sameChannel_changed (f : Channel → Channel) {d : Channel} (h : SameChannel d (f (s.chan ch))) :
    SameChannel d ((s.onChan ch f).retimeAll.chan ch) := by
  rw [s.chan_onChan_retimeAll ch f, h]
  rfl

theorem State.exch_changed (f : Channel → Channel) (h : (f (s.chan ch)).exch = (s.chan ch).exch) :
    ((s.onChan ch f).retimeAll.chan ch).exch = (s.chan ch).exch := by
  rw [State.retimeAll_chan_exch, State.chan_onChan_same, h]

theorem State.phase_changed (f : Channel → Channel) (h : (f (s.chan ch)).phase = (s.chan ch).phase) :
    ((s.onChan ch f).retimeAll.chan ch).phase = (s.chan ch).phase := by
  rw [State.retimeAll_chan_phase, State.chan_onChan_same, h]

theorem State.clearMade_stuck {s : State} {ch : Chan} (stuck : (s.chan ch).health.stuckD = true) :
    s.clearMade ch = (s.onChan ch Channel.clearDone).clearStuckD ch :=
  if_pos (by rw [State.chan_onChan_same]; exact stuck)

theorem State.clearMade_clear {s : State} {ch : Chan} (clear : (s.chan ch).health.stuckD = false) :
    s.clearMade ch = s.onChan ch Channel.clearDone :=
  if_neg (by rw [State.chan_onChan_same]; exact clear ▸ Bool.false_ne_true)

section
variable {s ch} {b : BusClear} (reset : s.inReset = false) (runs : (s.chan ch).health.busClear = some b)
include reset runs

theorem execBusClearPulseDone_pulse (pulse : b.stopping = false) (high : Bool) :
    execBusClearPulseDone ch high s = .next (s.onChan ch fun c => c.afterPulse b high).retimeAll := by
  rw [execBusClearPulseDone, runs]
  exact if_pos ⟨reset, pulse⟩

theorem execBusClearStopDone_made (stop : b.stopping = true) :
    execBusClearStopDone ch true s = .next (s.clearMade ch).retimeAll := by
  rw [execBusClearStopDone, runs]
  exact if_pos ⟨reset, stop⟩

theorem execBusClearStopDone_failed (stop : b.stopping = true) :
    execBusClearStopDone ch false s = .next (s.onChan ch fun c => c.clearFailed b).retimeAll := by
  rw [execBusClearStopDone, runs]
  exact if_pos ⟨reset, stop⟩

end

/-- What of a channel a bus clear that ends CLEARED settles, whether STUCK_D clears with it or was clear. -/
structure ClearEnded (c d : Channel) : Prop where
  busClear : d.health.busClear = none
  lastClear : d.health.lastClear = .cleared
  stuckD : d.health.stuckD = false
  pull : d.pull.d = ⟨false, false⟩
  dFree : d.dFree = true
  seenFree : c.mode = .active → d.seenFree = true

theorem ClearEnded.same {c d e : Channel} (h : ClearEnded c d) (k : SameChannel d e) : ClearEnded c e := by
  rw [k]
  exact ⟨h.busClear, h.lastClear, h.stuckD, h.pull, h.dFree, h.seenFree⟩

theorem Channel.clearDone_ended (c : Channel) (clear : c.health.stuckD = false) : ClearEnded c c.clearDone :=
  ⟨rfl, rfl, clear, rfl, rfl, fun active => if_pos active⟩

theorem Channel.clearDone_stuckDCleared_ended (c : Channel) : ClearEnded c c.clearDone.stuckDCleared := by
  rw [Channel.stuckDCleared_eq, Channel.exchangeAborted_eq]
  exact ⟨rfl, rfl, rfl, rfl, rfl, fun active => if_pos active⟩

/-- Settles O39: the request by its list of refusals, a pulse by what it sampled and its number, and a STOP that is made
by whether STUCK_D is declared. -/
theorem busClearRuns : Obligations.BusClearRuns := by
  intro s tag ch
  have request (chan) : exec (.busClear tag chan) s = .next (s.serve tag 0x60 (ownBusClear chan)) := rfl
  refine ⟨fun hr active free idle high => ?_, fun hr mode => ?_, fun hr active busy => ?_, fun hr chan high => ?_,
    fun b reset runs pulse high => ?_, fun b reset runs stop => ⟨?_, ?_⟩⟩
  · rw [request, s.serve_of_ready hr, ownBusClear_started active free idle high]
    exact ⟨_, rfl, s.onlyChannel_onChan ch _, (s.sameChannel_changed ch _ (s.chan ch).startClear_sameChannel :)⟩
  · rw [request, s.serve_of_ready hr, ownBusClear_wrongMode mode]
    rfl
  · rw [request, s.serve_of_ready hr, ownBusClear_busy active busy]
    rfl
  · rw [request, s.serve_of_ready hr, ownBusClear_badParam high]
    rfl
  · refine ⟨_, execBusClearPulseDone_pulse reset runs pulse high, s.onlyChannel_onChan ch _, fun h => ?_, fun h more => ?_,
      fun h last => ?_⟩
    · subst h
      exact (s.sameChannel_changed ch (·.afterPulse b true) ((s.chan ch).afterPulse_high b) :)
    · subst h
      exact (s.sameChannel_changed ch (·.afterPulse b false) ((s.chan ch).afterPulse_low more) :)
    · subst h
      exact (s.sameChannel_changed ch (·.afterPulse b false) ((s.chan ch).afterPulse_ninth last) :)
  · refine ⟨_, execBusClearStopDone_made reset runs stop, ?_⟩
    cases stuck : (s.chan ch).health.stuckD
    · rw [State.clearMade_clear stuck]
      obtain ⟨busClear, lastClear, stuckD, pull, dFree, seenFree⟩ :=
        ((s.chan ch).clearDone_ended stuck).same (s.sameChannel_changed ch Channel.clearDone rfl)
      exact ⟨busClear, lastClear, stuckD, pull, dFree, seenFree, nofun, fun _ => ⟨s.onlyChannel_onChan ch _,
        s.exch_changed ch _ (s.chan ch).clearDone_toldAlike.exch, s.phase_changed ch _ (s.chan ch).clearDone_phase⟩⟩
    · rw [State.clearMade_stuck stuck]
      have same := (s.onChan ch Channel.clearDone).clearStuckD_sameChannel ch
      rw [State.chan_onChan_same] at same
      obtain ⟨busClear, lastClear, stuckD, pull, dFree, seenFree⟩ := (s.chan ch).clearDone_stuckDCleared_ended.same same
      have told := ((s.onChan ch Channel.clearDone).clearStuckD_stuckDTold ch).before (s.chan ch).clearDone_toldAlike
      have away := told.ended.elsewhere told.apart
      rw [Channel.stuckDCleared_eq] at same
      refine ⟨busClear, lastClear, stuckD, pull, dFree, seenFree, fun _ => ?_, nofun⟩
      refine ⟨?_, ?_, ?_, ?_, ?_, told.log, told.healthy, told.rules, told.images, away.engine, away.supply, told.apart⟩
        <;> rw [same]
  · exact ⟨_, execBusClearStopDone_failed reset runs stop, s.onlyChannel_onChan ch _,
      fun more => (s.sameChannel_changed ch (·.clearFailed b) ((s.chan ch).clearFailed_more more) :),
      fun last => (s.sameChannel_changed ch (·.clearFailed b) ((s.chan ch).clearFailed_ninth last) :)⟩

end Sys2Proof.Machine
end

section
/-! SUPPORT. STUCK_C declared and cleared, and STUCK_D declared on a channel where it was clear (R149, R150). -/

namespace Sys2Proof.Machine

variable (s : State) (ch : Chan)

/-- A measurement has gone on for longer than its limit when it runs and has come past it. -/
theorem timerPast_iff (o : Option Timer) : timerPast o = true ↔ ∃ m, o = some m ∧ m.limit < m.elapsed := by
  cases o <;> simp [timerPast]

theorem timerPast_of_within {o : Option Timer} (h : ∀ m, o = some m → m.elapsed ≤ m.limit) : timerPast o = false := by
  cases o with
  | none => rfl
  | some m => exact decide_eq_false (Nat.not_lt.2 (h m rfl))

/-! ### STUCK_C declared (R149) -/

/-- The declaration's abort leaves of the D-side a closing that falls in no later transaction (log entry 25). -/
theorem Channel.stuckFree_eq (c : Channel) : c.stuckFree = { c with
    phase := .free, deferred := [], cFree := c.stuckFree.cFree, highData := false, dSpan := c.stuckFree.dSpan
    pull := ⟨⟨false, false⟩, c.stuckFree.pull.d⟩, dOp := (if c.relayOpen then .closing false else c.dOp).disown } := by
  unfold Channel.stuckFree
  dsimp only
  rw [Channel.settleKept_eq, Channel.closeD_eq]
  rfl

/-- An exchange ended ABORTED leaves the relay's grant and its operation. -/
theorem Channel.exchangeAborted_relayOpen (c : Channel) : c.exchangeAborted.relayOpen = c.relayOpen := by
  rw [Channel.exchangeAborted_eq]
  rfl

theorem State.declareStuckC_eq : s.declareStuckC ch = (((s.endExchange ch .aborted).onChan ch Channel.stuckFree).onHealth
    ch fun h => { h with stuckC := true }).healthEvent ch (.stuckC true) := rfl

theorem State.declareStuckC_chan : (s.declareStuckC ch).chan ch
      = { (s.chan ch).exchangeAborted.stuckFree with
          health := { (s.chan ch).exchangeAborted.stuckFree.health with stuckC := true } }
    ∧ (s.declareStuckC ch).chan (other ch) = s.chan (other ch) := by
  simp only [State.declareStuckC_eq, State.healthEvent_chan, State.onHealth, State.chan_onChan_same,
    State.chan_onChan_other, State.endExchange_chan_aborted, (State.endExchange_chans _ ch _).1, and_self]

/-- The channel once STUCK_C is declared on it. -/
structure StuckCDeclared (c d : Channel) : Prop where
  stuckC : d.health.stuckC = true
  exch : d.exch = none
  phase : d.phase = .free
  pull : d.pull.c = ⟨false, false⟩
  holder : d.arb.holder = c.arb.holder
  closing : c.relayOpen = true → d.dOp = .closing false

theorem StuckCDeclared.same {c d e : Channel} (h : StuckCDeclared c d) (k : SameChannel d e) : StuckCDeclared c e := by
  rw [k]
  exact ⟨h.stuckC, h.exch, h.phase, h.pull, h.holder, h.closing⟩

theorem State.declareStuckC_declared : StuckCDeclared (s.chan ch) ((s.declareStuckC ch).chan ch) := by
  rw [(s.declareStuckC_chan ch).1, Channel.stuckFree_eq, Channel.exchangeAborted_relayOpen]
  have kept := (s.chan ch).exchangeAborted_eq
  refine ⟨rfl, ?_, rfl, rfl, ?_, fun relay => ?_⟩
  · exact congrArg Channel.exch kept
  · exact congrArg (fun c => c.arb.holder) kept
  · dsimp only
    rw [if_pos relay]
    rfl

theorem State.declareStuckC_log : (s.declareStuckC ch).log
    = ((s.endExchange ch .aborted).hand (some ch) (.event (.stuckC true))).log := by
  rw [State.declareStuckC_eq]
  exact ((State.healthEvent_told _ ch _).trans (((LogAlike.onChan _ ch _).trans (.onChan _ ch _)).hand _ _)).log

theorem State.declareStuckC_noticed (h : s.supply.state ≠ .tripped) :
    (s.declareStuckC ch).link.noticed (healthNotice ch) = true := by
  rw [State.declareStuckC_eq]
  exact State.healthEvent_noticed _ ch _ (by simpa using h)

theorem State.declareStuckC_ended : OnlyEnded s (s.declareStuckC ch) := by
  rw [State.declareStuckC_eq]
  exact ((OnlyEnded.endExchange s ch _).trans (.onChan _ ch _)).trans
    ((OnlyEnded.onChan _ ch _).trans (State.healthEvent_ended _ ch _))

/-! ### STUCK_C cleared (R149) -/

/-- The channel once its STUCK_C is cleared: the side is free, and one that was not has its bus-free point (log entries 12
and 21). -/
def Channel.stuckCCleared (c : Channel) : Channel := { c with
  health := { c.health with stuckC := false }, sync := .unknown, cFree := true, byteOpen := false
  freePoint := if c.cFree then c.freePoint else true }

theorem State.clearStuckC_eq : s.clearStuckC ch
    = ((s.onHealth ch fun h => { h with stuckC := false }).healthEvent ch (.stuckC false)).onChan ch fun c =>
        { (if c.cFree then c else c.cFreePoint) with sync := .unknown, byteOpen := false } := rfl

theorem State.clearStuckC_chan : (s.clearStuckC ch).chan ch = (s.chan ch).stuckCCleared
    ∧ (s.clearStuckC ch).chan (other ch) = s.chan (other ch) := by
  simp only [State.clearStuckC_eq, State.onHealth, State.chan_onChan_same, State.chan_onChan_other,
    State.healthEvent_chan, and_true]
  unfold Channel.stuckCCleared
  cases free : (s.chan ch).cFree
  · rw [if_neg Bool.false_ne_true, if_neg Bool.false_ne_true]
    rfl
  · rw [if_pos rfl, if_pos rfl]

theorem State.clearStuckC_log : (s.clearStuckC ch).log = (s.hand (some ch) (.event (.stuckC false))).log := by
  rw [State.clearStuckC_eq]
  exact ((LogAlike.onChan _ ch _).trans ((State.healthEvent_told _ ch _).trans ((LogAlike.onChan s ch _).hand _ _))).log

theorem State.clearStuckC_noticed (h : s.supply.state ≠ .tripped) :
    (s.clearStuckC ch).link.noticed (healthNotice ch) = true := by
  rw [State.clearStuckC_eq, State.onChan_link]
  exact State.healthEvent_noticed _ ch _ (by simpa using h)

theorem State.clearStuckC_quiet : OnlyChannelsAndLog s (s.clearStuckC ch) := by
  rw [State.clearStuckC_eq]
  exact .of_onlyEnded (((OnlyEnded.onChan s ch _).trans (State.healthEvent_ended _ ch _)).trans (.onChan _ ch _))
    (by simp) (by simp)

/-! ### STUCK_D declared (R150) -/

theorem State.setStuckD_eq : s.setStuckD ch
    = let u := (s.onHealth ch fun h => { h with stuckD := true }).healthEvent ch (.stuckD true)
      if u.dClockLow ch = false ∧ (u.chan ch).arb.holder = .none ∧ (u.chan ch).health.busClear = none then
        u.onChan ch Channel.startClear
      else u := rfl

/-- The level of DnCK does not depend on the health of the channel nor on whether its D-side is free. -/
theorem State.dClockLow_congr {s t : State} {ch : Chan} {h : Health} {seen free : Bool}
    (reset : t.inReset = s.inReset) (chan : t.chan ch = { s.chan ch with health := h, seenFree := seen, dFree := free }) :
    t.dClockLow ch = s.dClockLow ch := by
  rw [State.dClockLow, State.bypassClosed, reset, chan]
  rfl

/-- One bus clear starts with a declaration where DnCK is high and nobody holds the D-side (R150). -/
theorem State.setStuckD_busClear : ((s.setStuckD ch).chan ch).health.busClear
    = if s.dClockLow ch = false ∧ (s.chan ch).arb.holder = .none ∧ (s.chan ch).health.busClear = none then
        some ⟨0, (s.chan ch).plan, false, 0⟩
      else (s.chan ch).health.busClear := by
  have chan : ((s.onHealth ch fun h => { h with stuckD := true }).healthEvent ch (.stuckD true)).chan ch
      = { s.chan ch with health := { (s.chan ch).health with stuckD := true } } := by
    rw [State.healthEvent_chan, State.onHealth, State.chan_onChan_same]
  have reset : ((s.onHealth ch fun h => { h with stuckD := true }).healthEvent ch (.stuckD true)).inReset
      = s.inReset := by simp [State.healthEvent]
  rw [State.setStuckD_eq]
  dsimp only
  rw [State.dClockLow_congr (s := s) reset chan, chan]
  split
  · rw [State.chan_onChan_same, chan]
    rfl
  · rw [chan]

theorem State.setStuckD_chan_other : (s.setStuckD ch).chan (other ch) = s.chan (other ch) := by
  rw [State.setStuckD_eq]
  dsimp only
  split <;> simp only [State.onHealth, State.chan_onChan_other, State.healthEvent_chan]

/-- The end of a job on a channel leaves its exchange, hold, mode and bus clear. -/
theorem State.endJobOn_kept (cause : JobCause) : ((s.endJobOn ch cause).chan ch).exch = (s.chan ch).exch
    ∧ ((s.endJobOn ch cause).chan ch).hold = (s.chan ch).hold ∧ ((s.endJobOn ch cause).chan ch).mode = (s.chan ch).mode
    ∧ ((s.endJobOn ch cause).chan ch).health.busClear = (s.chan ch).health.busClear := by
  rw [(s.endJobOn_routed ch cause).1.eq]
  split
  · rw [Channel.dropEngine_eq, Channel.settleOwed_eq]
    exact ⟨rfl, rfl, rfl, rfl⟩
  · exact ⟨rfl, rfl, rfl, rfl⟩

/-- A refused wait for the grant leaves that there is an exchange, the hold, the mode, the fallback flag and whether the
engine waits. -/
theorem State.grantLost_kept : ((s.grantLost ch).chan ch).exch.isSome = (s.chan ch).exch.isSome
    ∧ ((s.grantLost ch).chan ch).hold = (s.chan ch).hold ∧ ((s.grantLost ch).chan ch).mode = (s.chan ch).mode
    ∧ ((s.grantLost ch).chan ch).fallback = (s.chan ch).fallback
    ∧ ((s.grantLost ch).chan ch).arb.engineWaits = (s.chan ch).arb.engineWaits := by
  unfold State.grantLost
  dsimp only
  split
  · rw [State.refuseAddress, State.chan_onChan_same]
    exact ⟨Option.isSome_map, rfl, rfl, rfl, rfl⟩
  · exact ⟨rfl, rfl, rfl, rfl, rfl⟩

theorem JobEnded.grantLost {j : Job} {r : JobResult} {s t : State} (h : JobEnded j r s t) :
    JobEnded j r s (t.grantLost j.chan) := by
  obtain ⟨-, -, -, fallback, waits⟩ := t.grantLost_kept j.chan
  have holder := (DSideStays.grantLost (ch := j.chan) t).chan.holder
  unfold JobEnded
  rw [State.grantLost_engine, State.grantLost_link, State.grantLost_supply, State.grantLost_log, State.grantLost_health,
    fallback, waits, holder]
  exact h

/-- The same end told from a state with the same fallback flag and the same of a fallback held back. -/
theorem JobEnded.before_alike {j : Job} {r : JobResult} {s t u : State} (h : JobEnded j r u t)
    (fallback : (u.chan j.chan).fallback = (s.chan j.chan).fallback)
    (owed : (u.chan j.chan).health.owed = (s.chan j.chan).health.owed)
    (degraded : (u.chan j.chan).health.degraded = (s.chan j.chan).health.degraded) (log : LogAlike u s) :
    JobEnded j r s t := by
  obtain ⟨h1, h2, h3, h4, h5, h6, h7, h8, h9, h10, h11⟩ := h
  rw [fallback, owed, degraded] at h10
  rw [log.routes, (log.hand _ _).log] at h11
  exact ⟨h1, h2, h3, h4, h5, h6, h7, h8, h9, h10, h11⟩

/-- A declaration's EVENT, told with the D-side busy (log entry 49). -/
def State.stuckDEvent (s : State) (ch : Chan) : State :=
  (s.onChan ch fun c => { c with seenFree := false, dFree := false }).setStuckD ch

theorem State.declareStuckD_clear {s : State} {ch : Chan} (clear : (s.chan ch).health.stuckD = false) :
    s.declareStuckD ch = ((s.stuckDEvent ch).endJobOn ch .stuck).grantLost ch := by
  rw [State.declareStuckD_eq, State.declaredD_clear (by rw [State.chan_onChan_same]; exact clear)]
  rfl

theorem State.stuckDEvent_chan : ∃ l m b, (s.stuckDEvent ch).chan ch = { s.chan ch with
    seenFree := false, dFree := false, pull := { (s.chan ch).pull with d := l }, meters := m
    health := { (s.chan ch).health with stuckD := true, busClear := b } } := by
  obtain ⟨l, m, b, chan, -⟩ := (s.onChan ch fun c => { c with seenFree := false, dFree := false }).setStuckD_chan ch
  rw [State.chan_onChan_same] at chan
  exact ⟨l, m, b, chan⟩

theorem State.stuckDEvent_busClear : ((s.stuckDEvent ch).chan ch).health.busClear
    = if s.dClockLow ch = false ∧ (s.chan ch).arb.holder = .none ∧ (s.chan ch).health.busClear = none then
        some ⟨0, (s.chan ch).plan, false, 0⟩
      else (s.chan ch).health.busClear := by
  have clock : (s.onChan ch fun c => { c with seenFree := false, dFree := false }).dClockLow ch = s.dClockLow ch :=
    State.dClockLow_congr (by simp) (State.chan_onChan_same ..)
  rw [State.stuckDEvent, State.setStuckD_busClear, clock, State.chan_onChan_same]

theorem State.stuckDEvent_told : LogAlike (s.stuckDEvent ch) (s.hand (some ch) (.event (.stuckD true)))
    ∧ OnlyEnded s (s.stuckDEvent ch) ∧ (s.stuckDEvent ch).rules = s.rules ∧ (s.stuckDEvent ch).images = s.images
    ∧ (s.stuckDEvent ch).engine = s.engine := by
  obtain ⟨told, ended, rules, images, engine⟩ :=
    (s.onChan ch fun c => { c with seenFree := false, dFree := false }).setStuckD_told ch
  rw [State.onChan_rules] at rules
  rw [State.onChan_images] at images
  rw [State.onChan_engine] at engine
  exact ⟨told.trans ((LogAlike.onChan s ch _).hand _ _), (OnlyEnded.onChan s ch _).trans ended, rules, images, engine⟩

theorem State.stuckDEvent_noticed (h : s.supply.state ≠ .tripped) :
    (s.stuckDEvent ch).link.noticed (healthNotice ch) = true :=
  (State.setStuckD_noticed _ ch).2 (by rwa [State.onChan_supply])

theorem State.stuckDEvent_chan_other : (s.stuckDEvent ch).chan (other ch) = s.chan (other ch) := by
  rw [State.stuckDEvent, State.setStuckD_chan_other, State.chan_onChan_other]

/-- STUCK_D declared on channel `ch`, from state `s` to state `t`, with or without a job on it (R150). -/
structure StuckDDeclared (ch : Chan) (s t : State) : Prop where
  stuckD : (t.chan ch).health.stuckD = true
  seenFree : (t.chan ch).seenFree = false
  dFree : (t.chan ch).dFree = false
  healthy : s.supply.state ≠ .tripped → t.link.noticed (healthNotice ch) = true
  busClear : (t.chan ch).health.busClear
    = if s.dClockLow ch = false ∧ (s.chan ch).arb.holder = .none ∧ (s.chan ch).health.busClear = none then
        some ⟨0, (s.chan ch).plan, false, 0⟩
      else (s.chan ch).health.busClear
  log : t.log = ((s.hand (some ch) (.event (.stuckD true))).jobTold ch .stuck).log
  exch : (t.chan ch).exch.isSome = (s.chan ch).exch.isSome
  hold : (t.chan ch).hold = (s.chan ch).hold
  mode : (t.chan ch).mode = (s.chan ch).mode
  rules : t.rules = s.rules
  images : t.images = s.images

theorem State.declareStuckD_declared {s : State} {ch : Chan} (clear : (s.chan ch).health.stuckD = false) :
    StuckDDeclared ch s (s.declareStuckD ch) := by
  rw [State.declareStuckD_clear clear]
  obtain ⟨l, m, b, chan⟩ := s.stuckDEvent_chan ch
  obtain ⟨told, -, rules, images, engine⟩ := s.stuckDEvent_told ch
  obtain ⟨seenFree, dFree, stuckD, -⟩ := (s.stuckDEvent ch).endJobOn_status ch .stuck
  obtain ⟨exch, hold, mode, busClear⟩ := (s.stuckDEvent ch).endJobOn_kept ch .stuck
  obtain ⟨exch', hold', mode', -⟩ := ((s.stuckDEvent ch).endJobOn ch .stuck).grantLost_kept ch
  have job := (s.stuckDEvent ch).endJobOn_stay ch .stuck
  have log := ((s.stuckDEvent ch).endJobOn_told ch .stuck).trans (told.jobTold (by simp [engine]) ch .stuck)
  have wait := (DSideStays.grantLost (ch := ch) ((s.stuckDEvent ch).endJobOn ch .stuck)).chan
  rw [chan] at seenFree dFree stuckD exch hold mode
  refine ⟨wait.stuckD.trans stuckD, wait.seenFree.trans seenFree, wait.dFree.trans dFree, fun h => ?_, ?_, ?_,
    exch'.trans (congrArg Option.isSome exch), hold'.trans hold, mode'.trans mode, ?_, ?_⟩
  · rw [State.grantLost_link]
    exact job.keep _ (s.stuckDEvent_noticed ch h)
  · rw [State.grantLost_health, busClear, State.stuckDEvent_busClear]
  · rw [State.grantLost_log, log.log]
  · simp [rules]
  · simp [images]

theorem StuckDDeclared.retimeAll {ch : Chan} {s t : State} (h : StuckDDeclared ch s t) :
    StuckDDeclared ch s t.retimeAll := by
  obtain ⟨h1, h2, h3, h4, h5, h6, h7, h8, h9, h10, h11⟩ := h
  constructor <;> simpa

/-- A job on the channel that a declaration fails (R170, R173). -/
theorem State.declareStuckD_ended {s : State} {j : Job} (clear : (s.chan j.chan).health.stuckD = false)
    (job : s.engine.job = some j) : JobEnded j (j.result (j.endingCause.getD .stuck) j.unitAddress)
      (s.hand (some j.chan) (.event (.stuckD true))) (s.declareStuckD j.chan) := by
  obtain ⟨l, m, b, chan⟩ := s.stuckDEvent_chan j.chan
  obtain ⟨told, -, -, -, engine⟩ := s.stuckDEvent_told j.chan
  have job' : (s.stuckDEvent j.chan).engine.job = some j := by rw [engine, job]
  have ends : (s.stuckDEvent j.chan).endJobOn j.chan .stuck = (s.stuckDEvent j.chan).endJob .stuck :=
    if_pos (by simp [State.jobOn, job'])
  rw [State.declareStuckD_clear clear, ends]
  refine JobEnded.grantLost ((State.endJob_ended job' .stuck).before_alike ?_ ?_ ?_ told) <;> rw [chan, State.hand_chan]

/-- A declaration that ends no job (R150). -/
theorem State.declareStuckD_quiet {s : State} {ch : Chan} (clear : (s.chan ch).health.stuckD = false)
    (job : s.jobOn ch = false) : OnlyChannelsAndLog s (s.declareStuckD ch)
      ∧ (s.declareStuckD ch).chan (other ch) = s.chan (other ch)
      ∧ ∀ x, (s.chan ch).phase = .grantWait → (s.chan ch).grantLimitTaken = true → (s.chan ch).exch = some x →
          RefusedAs .busy x ((s.declareStuckD ch).chan ch) := by
  obtain ⟨l, m, b, chan⟩ := s.stuckDEvent_chan ch
  obtain ⟨-, ended, rules, images, engine⟩ := s.stuckDEvent_told ch
  obtain ⟨f, lost⟩ := (s.stuckDEvent ch).grantLost_onChan ch
  rw [State.declareStuckD_clear clear, State.endJobOn_none ((State.jobOn_congr engine ch).trans job)]
  refine ⟨?_, ?_, fun x phase limit exch => State.grantLost_refused ?_ ?_ ?_ ?_⟩
  · rw [lost]
    exact (OnlyChannelsAndLog.of_onlyEnded ended rules images).onChan f
  · rw [lost, State.chan_onChan_other, State.stuckDEvent_chan_other]
  all_goals rw [chan]
  · exact phase
  · exact limit
  · exact exch

end Sys2Proof.Machine
end

section
/-! STUCK_C and STUCK_D declared and cleared (R149, R150): O38. -/

namespace Sys2Proof.Machine

variable {s : State} {ch : Chan}

/-! ### The four commands -/

theorem execStuckCDeclare_declared {m : Timer} (reset : s.inReset = false)
    (run : (s.chan ch).meters.stuckClock = some m ∨ (s.chan ch).meters.stuckData = some m) (past : m.limit < m.elapsed)
    (clear : (s.chan ch).health.stuckC = false) (hold : (s.chan ch).hold = none) (mode : (s.chan ch).mode ≠ .isolated) :
    execStuckCDeclare ch s = .next (s.declareStuckC ch).retimeAll := by
  have stuck : (timerPast (s.chan ch).meters.stuckClock || timerPast (s.chan ch).meters.stuckData) = true := by
    rw [Bool.or_eq_true, timerPast_iff, timerPast_iff]
    exact run.imp (⟨m, ·, past⟩) (⟨m, ·, past⟩)
  exact if_pos ⟨reset, stuck, clear, hold, mode⟩

theorem execStuckCDeclare_within
    (within : ∀ m, ((s.chan ch).meters.stuckClock = some m ∨ (s.chan ch).meters.stuckData = some m) →
      m.elapsed ≤ m.limit) : execStuckCDeclare ch s = .next s := by
  have clock := timerPast_of_within fun m h => within m (.inl h)
  have data := timerPast_of_within fun m h => within m (.inr h)
  exact if_neg fun h => by simp [clock, data] at h

theorem execStuckCClear_cleared {m : Timer} (reset : s.inReset = false) (run : (s.chan ch).meters.cIdle = some m)
    (due : m.limit ≤ m.elapsed) (stuck : (s.chan ch).health.stuckC = true) :
    execStuckCClear ch s = .next (s.clearStuckC ch).retimeAll :=
  if_pos ⟨reset, run ▸ timerDue_some.2 due, stuck⟩

theorem execStuckDLineTimeout_declared {m : Timer} (reset : s.inReset = false)
    (run : (s.chan ch).meters.stuckD = some m) (past : m.limit < m.elapsed)
    (clear : (s.chan ch).health.stuckD = false) :
    execStuckDLineTimeout ch s = .next (s.declareStuckD ch).retimeAll :=
  if_pos ⟨reset, (timerPast_iff _).2 ⟨m, run, past⟩, clear⟩

theorem execStuckDLineTimeout_within (within : ∀ m, (s.chan ch).meters.stuckD = some m → m.elapsed ≤ m.limit) :
    execStuckDLineTimeout ch s = .next s :=
  if_neg fun h => by simp [timerPast_of_within within] at h

theorem execStuckDClear_cleared {m : Timer} (reset : s.inReset = false) (run : (s.chan ch).meters.dClear = some m)
    (due : m.limit ≤ m.elapsed) (stuck : (s.chan ch).health.stuckD = true) :
    execStuckDClear ch s = .next (s.clearStuckD ch).retimeAll :=
  if_pos ⟨reset, run ▸ timerDue_some.2 due, stuck⟩

/-- A clearing of STUCK_D with no exchange in flight changes neither table (R60, R70). -/
theorem StuckDTold.quiet {t : State} (h : StuckDTold ch s t) (exch : (s.chan ch).exch = none) :
    OnlyChannelsAndLog s t := by
  refine .of_onlyEnded h.ended ?_ ?_
  · rw [h.rules, State.endExchange_rules_eq, exch]
  · rw [h.images, State.endExchange_images_eq, exch]

/-- Settles O38: each part of the statement is what one lemma says of a declaration or a clearing. -/
theorem stuckLines : Obligations.StuckLines := by
  intro s ch reset
  have apart : ∀ t : State, t.chan (other ch) = s.chan (other ch) →
      SameChannel (s.chan (other ch)) (t.retimeAll.chan (other ch)) := fun t h =>
    h ▸ t.sameChannel_retimeAll (other ch)
  refine ⟨fun m run past clear hold mode => ?_, execStuckCDeclare_within, execStuckDLineTimeout_within,
    fun m run due stuck => ?_, fun m run past clear => ?_, fun m run due stuck => ?_⟩
  · obtain ⟨stuckC, exch, phase, pull, holder, closing⟩ :=
      (s.declareStuckC_declared ch).same (State.sameChannel_retimeAll _ ch)
    exact ⟨_, execStuckCDeclare_declared reset run past clear hold mode, stuckC, exch, phase, pull, holder, closing,
      s.declareStuckC_log ch, s.declareStuckC_noticed ch, apart _ (s.declareStuckC_chan ch).2,
      (s.declareStuckC_ended ch).trans (.retimeAll _)⟩
  · obtain ⟨here, other⟩ := s.clearStuckC_chan ch
    have same := (s.clearStuckC ch).sameChannel_retimeAll ch
    rw [here] at same
    exact ⟨_, execStuckCClear_cleared reset run due stuck, same, s.clearStuckC_log ch, s.clearStuckC_noticed ch,
      apart _ other, (s.clearStuckC_quiet ch).retimeAll⟩
  · obtain ⟨stuckD, seenFree, dFree, healthy, busClear, log, exch, hold, mode, rules, images⟩ :=
      (State.declareStuckD_declared clear).retimeAll
    refine ⟨_, execStuckDLineTimeout_declared reset run past clear, stuckD, seenFree, dFree, healthy,
      fun high free idle => ?_, fun held => ?_, log, exch, hold, mode, rules, images, fun j job chan => ?_,
      fun job => ?_⟩
    · rw [busClear, if_pos ⟨high, free, idle⟩]
    · rw [busClear, if_neg]
      rintro ⟨high, free, idle⟩
      simp [high, free, idle] at held
    · subst chan
      exact (State.declareStuckD_ended clear job).retimeAll
    · obtain ⟨quiet, other, refused⟩ := State.declareStuckD_quiet clear job
      exact ⟨quiet.retimeAll, apart _ other, fun x wait limit exch => (refused x wait limit exch).retimeAll⟩
  · have same := s.clearStuckD_sameChannel ch
    have told := s.clearStuckD_stuckDTold ch
    have away := told.ended.elsewhere told.apart
    rw [Channel.stuckDCleared_eq, ← State.endExchange_chan_aborted] at same
    refine ⟨_, execStuckDClear_cleared reset run due stuck, ?_, ?_, ?_, ?_, ?_, ?_, ?_, fun active => ?_, told.healthy,
      told.log, told.held, told.rules, told.images, ?_, ?_, fun exch _ => told.quiet exch, away.engine, away.supply,
      told.apart⟩ <;> rw [same]
    exact if_pos active

end Sys2Proof.Machine
end

section
/-! The staging requests and the check value (R159, R160): O40 and O41. -/

namespace Sys2Proof.Machine

variable {s : State} {offset count : Half} {bytes : List Byte}

/-! ### STAGE WRITE and STAGE READ (R159) -/

/-- What any address reads after a run is written, byte by byte of the run. -/
theorem memRead_memWriteList_getElem? {m : Mem} (wf : memWf m = true) (a x : Nat) (l : List Byte) :
    memRead (memWriteList m a l) x = if a ≤ x then l[x - a]?.getD (memRead m x) else memRead m x := by
  rw [memRead_memWriteList wf]
  by_cases from_a : a ≤ x
  · by_cases inside : x < a + l.length
    · rw [if_pos ⟨from_a, inside⟩, if_pos from_a, List.getD_eq_getElem?_getD, List.getElem?_eq_getElem (by omega)]
      rfl
    · rw [if_neg (by omega), if_pos from_a, List.getElem?_eq_none (by omega)]
      rfl
  · rw [if_neg (by omega), if_neg from_a]

theorem State.regionTouched_iff (a n : Nat) : s.regionTouched a n = true
    ↔ ∃ (j : Job) (o : Nat), s.engine.job = some j ∧ j.staging = some o ∧ a < o + j.length ∧ o < a + n := by
  unfold State.regionTouched
  cases s.engine.job with
  | none => simp
  | some j => cases staged : j.staging <;> simp [staged]

theorem ownStageWrite_refused
    (outside : ¬ (bytes ≠ [] ∧ bytes.length ≤ 480 ∧ offset.toNat + bytes.length ≤ 4096)) :
    ownStageWrite offset bytes s = (s, refuse .badParam) := by
  refine if_pos ?_
  by_cases empty : bytes = []
  · exact .inl empty
  · have long := not_and.1 outside empty
    rw [Config.stagingSize]
    omega

theorem ownStageWrite_fits (fits : bytes ≠ [] ∧ bytes.length ≤ 480 ∧ offset.toNat + bytes.length ≤ 4096) :
    ownStageWrite offset bytes s = if s.regionTouched offset.toNat bytes.length then (s, refuse .busy)
      else ({ s with engine := { s.engine with staging := memWriteList s.engine.staging offset.toNat bytes } },
        okWith []) := by
  obtain ⟨given, short, inside⟩ := fits
  refine if_neg ?_
  rw [Config.stagingSize]
  rintro (empty | bad)
  · exact given empty
  · omega

theorem ownStageRead_refused (outside : count = 0 ∨ 480 < count.toNat ∨ 4096 < offset.toNat + count.toNat) :
    ownStageRead offset count s = (s, refuse .badParam) :=
  if_pos (outside.imp_left fun none => none ▸ rfl)

theorem ownStageRead_answered (given : count ≠ 0) (short : count.toNat ≤ 480)
    (inside : offset.toNat + count.toNat ≤ 4096) : ownStageRead offset count s
      = (s, okWith ((List.range count.toNat).map fun i => memRead s.engine.staging (offset.toNat + i))) := by
  rw [← memReadList_eq_map]
  refine if_neg ?_
  rw [Config.stagingSize]
  have : count.toNat ≠ 0 := fun none => given (BitVec.eq_of_toNat_eq none)
  omega

/-- Settles O40, request by request. -/
theorem stagingRequests : Obligations.StagingRequests := by
  intro s tag offset hr wf
  have write (bytes) : exec (.stageWrite tag offset bytes) s
      = .next (s.serve tag 0x70 (ownStageWrite offset bytes)) := rfl
  have read (count) : exec (.stageRead tag offset count) s
      = .next (s.serve tag 0x71 (ownStageRead offset count)) := rfl
  simp only [write, read, s.serve_of_ready hr]
  refine ⟨fun bytes => ⟨fun outside => ?_, fun fits shares => ?_, fun fits apart => ?_⟩, fun count =>
    ⟨fun outside => ?_, fun given short inside => ?_⟩⟩
  · rw [ownStageWrite_refused outside]
    rfl
  · rw [ownStageWrite_fits fits, if_pos ((State.regionTouched_iff ..).2 shares)]
    rfl
  · rw [ownStageWrite_fits fits, if_neg fun touched => apart ((State.regionTouched_iff ..).1 touched)]
    exact ⟨_, rfl, memWriteList_wf wf, fun a => memRead_memWriteList_getElem? wf offset.toNat a bytes⟩
  · rw [ownStageRead_refused outside]
    rfl
  · rw [ownStageRead_answered given short inside]
    rfl

/-! ### The check value (R160) -/

/-- The two sums after one byte more. -/
def sumsAfter (p : Nat × Nat) (b : Byte) : Nat × Nat :=
  ((p.1 + b.toNat) % 65521, (p.2 + (p.1 + b.toNat) % 65521) % 65521)

theorem foldSums_eq_foldl (a b : Nat) (l : List Byte) : foldSums a b l = l.foldl sumsAfter (a, b) := by
  induction l generalizing a b with
  | nil => rfl
  | cons x l ih => exact ih _ _

/-- A burst folded in is its bytes taken one after the other. -/
theorem Job.folded_eq (j : Job) (bytes : List Byte) : j.folded bytes = { j with
    sumA := (bytes.foldl sumsAfter (j.sumA, j.sumB)).1, sumB := (bytes.foldl sumsAfter (j.sumA, j.sumB)).2
    done := j.done + 1 } := by
  rw [Job.folded, foldSums_eq_foldl]

/-- Bursts folded in one after the other leave the sums of their bytes in one run, however they were cut. -/
theorem Job.foldl_folded (j : Job) (bursts : List (List Byte)) :
    (bursts.foldl (fun k b => k.folded b) j).kind = j.kind
      ∧ (bursts.foldl (fun k b => k.folded b) j).sumA = (bursts.flatten.foldl sumsAfter (j.sumA, j.sumB)).1
      ∧ (bursts.foldl (fun k b => k.folded b) j).sumB = (bursts.flatten.foldl sumsAfter (j.sumA, j.sumB)).2 := by
  induction bursts generalizing j with
  | nil => exact ⟨rfl, rfl, rfl⟩
  | cons burst bursts ih =>
    rw [List.flatten_cons, List.foldl_append, List.foldl_cons, Job.folded_eq]
    exact ih _

theorem ownStageCheck_refused (outside : count = 0 ∨ 4096 < count.toNat ∨ 4096 < offset.toNat + count.toNat) :
    ownStageCheck offset count s = (s, refuse .badParam) := by
  refine if_pos ?_
  rw [Config.stagingSize]
  rcases outside with none | long | beyond
  · exact .inl (none ▸ rfl)
  · omega
  · exact .inr beyond

theorem ownStageCheck_answered (given : count ≠ 0) (inside : offset.toNat + count.toNat ≤ 4096) :
    ownStageCheck offset count s = (s, okWith (le32 (checkOf
      ((List.range count.toNat).map fun i => memRead s.engine.staging (offset.toNat + i))))) := by
  rw [← memReadList_eq_map]
  refine if_neg ?_
  rw [Config.stagingSize]
  have : count.toNat ≠ 0 := fun none => given (BitVec.eq_of_toNat_eq none)
  omega

theorem checkOf_eq (l : List Byte) :
    checkOf l = (l.foldl sumsAfter (1, 0)).2 * 65536 + (l.foldl sumsAfter (1, 0)).1 := by
  rw [checkOf, checkValue, foldSums_eq_foldl]

/-- A READ or CHECK job that is DONE brings its check value (R160, R173). -/
theorem Job.result_check {j : Job} (reads : j.kind ≠ .write) (a : Nat) :
    (j.result .none a).check = some (checkValue j.sumA j.sumB) := if_pos ⟨rfl, reads⟩

/-- Settles O41: the request by its range, and a job's bursts by the sums they leave. -/
theorem stageCheck : Obligations.StageCheck := by
  refine ⟨fun s tag offset length hr => ?_, fun j bursts address kind one zero => ?_⟩
  · have check : exec (.stageCheck tag offset length) s
        = .next (s.serve tag 0x72 (ownStageCheck offset length)) := rfl
    simp only [check, s.serve_of_ready hr]
    refine ⟨fun outside => ?_, fun given _ inside => ?_⟩
    · rw [ownStageCheck_refused outside]
      rfl
    · rw [ownStageCheck_answered given inside, checkOf_eq]
      rfl
  · obtain ⟨kind', a, b⟩ := j.foldl_folded bursts
    rw [one, zero] at a b
    have checks : (bursts.foldl (fun k b => k.folded b) j).kind ≠ .write := by
      rw [kind', kind]
      exact nofun
    rw [Job.result_check checks, checkValue, a, b]
    rfl

end Sys2Proof.Machine
end

section
/-! SUPPORT. A unit that ends with its STOP: the job goes on to its next unit, which is granted or waited for, or it
ends (R164, R166 to R173). -/

namespace Sys2Proof.Machine

variable {s t u : State} {j k : Job} {e : Engine}

/-! ### The running job -/

@[simp] theorem State.chan_onJob (s : State) (f : Job → Job) (ch : Chan) : (s.onJob f).chan ch = s.chan ch := by
  cases ch <;> rfl

theorem State.chan_withEngine (s : State) (e : Engine) (ch : Chan) :
    ({ s with engine := e } : State).chan ch = s.chan ch := by
  cases ch <;> rfl

@[simp] theorem State.chan_keepBurst (s : State) (l : List Byte) (ch : Chan) : (s.keepBurst l).chan ch = s.chan ch := by
  cases ch <;> rfl

theorem State.onJob_eq (job : s.engine.job = some j) (f : Job → Job) :
    s.onJob f = { s with engine := { s.engine with job := some (f j) } } := by
  rw [State.onJob, job]
  rfl

/-! ### A job that ends -/

theorem State.finishJob_engine (job : s.engine.job = some j) (cause : JobCause) (a : Nat) :
    (s.finishJob cause a).engine = { s.engine with
      job := none, last := some (j.result (j.endingCause.getD cause) a), unit := [], burst := [] } := by
  rw [s.finishJob_eq job, State.occur_engine, State.jobOver_engine]

theorem State.endJob_eq (job : s.engine.job = some j) (cause : JobCause) :
    s.endJob cause = s.finishJob cause j.unitAddress := by
  unfold State.endJob
  rw [job]

/-- Of the job that ends, its end asks for no more than its result says. -/
theorem State.jobOver_onJob (s : State) (f : Job → Job) (r : JobResult) (chan : k.chan = j.chan)
    (hold : k.holdReset = j.holdReset) : (s.onJob f).jobOver k r = s.jobOver j r := by
  unfold State.jobOver
  rw [chan, hold]
  cases j.chan <;> rfl

/-- A running job ended with `cause` at any address (R169, R173). -/
theorem State.finishJob_ended (job : s.engine.job = some j) (cause : JobCause) (a : Nat) :
    JobEnded j (j.result (j.endingCause.getD cause) a) s (s.finishJob cause a) := by
  have there : (s.onJob fun j => { j with unitAddress := a }).engine.job = some { j with unitAddress := a } := by
    rw [State.onJob_eq job]
  have same : (s.onJob fun j => { j with unitAddress := a }).endJob cause = s.finishJob cause a := by
    rw [State.endJob_eq there, State.finishJob_eq _ there, State.finishJob_eq _ job]
    exact congrArg (State.occur · .jobEnd none) (s.jobOver_onJob _ _ rfl rfl)
  rw [← same]
  exact JobEnded.before (j := j) (State.endJob_ended there cause) (by rw [State.chan_onJob]) (by rw [State.chan_onJob])
    ⟨rfl, rfl, rfl⟩

/-! ### A unit asked for (R164) -/

theorem State.grantUnit_chan_same (s : State) (ch : Chan) (j : Job) :
    (s.grantUnit ch j).chan ch = (s.chan ch).grantEngine j.unitBytes j.unitRestarts := by
  cases ch <;> rfl

theorem State.grantUnit_chan_other (s : State) (ch : Chan) (j : Job) :
    (s.grantUnit ch j).chan (other ch) = s.chan (other ch) := by
  cases ch <;> rfl

theorem State.engineAsk_granted (job : s.engine.job = some j) (grantable : (s.chan j.chan).grantable = true)
    (relay : (s.chan j.chan).arb.relayWaits = false) : s.engineAsk = s.grantUnit j.chan j := by
  unfold State.engineAsk
  rw [job]
  exact if_pos (by rw [grantable, relay]; rfl)

theorem State.engineAsk_waiting (job : s.engine.job = some j)
    (taken : (s.chan j.chan).grantable = false ∨ (s.chan j.chan).arb.relayWaits = true) :
    s.engineAsk = s.onChan j.chan fun c => { c with arb := { c.arb with engineWaits := true } } := by
  unfold State.engineAsk
  rw [job]
  refine if_neg ?_
  rcases taken with no | relay
  · rw [no]
    exact nofun
  · rw [relay, Bool.not_true, Bool.and_false]
    exact nofun

@[simp] theorem State.engineAsk_staging (s : State) : s.engineAsk.engine.staging = s.engine.staging := by
  unfold State.engineAsk
  (repeat' split) <;> simp

@[simp] theorem State.engineAsk_burst (s : State) : s.engineAsk.engine.burst = s.engine.burst := by
  unfold State.engineAsk
  (repeat' split) <;> simp

/-! ### The engine's STOP (R39, R166) -/

/-- After the engine's STOP the D-side is grantable where it is seen free and no bus clear runs. -/
theorem Channel.grantable_stopMade (c : Channel) : c.stopMade.grantable = true
    ↔ (c.mode = .active ∨ c.seenFree = true) ∧ c.health.busClear = none := by
  by_cases active : c.mode = .active <;>
    simp [Channel.grantable, Channel.stopMade, Channel.dFreePoint, Channel.giveUp, Channel.releaseD, active]

/-- The engine's STOP made on channel `ch`, with the engine as `e`. -/
def State.stopWith (s : State) (ch : Chan) (e : Engine) : State := { s.onChan ch Channel.stopMade with engine := e }

theorem State.stopWith_chan (s : State) (ch : Chan) (e : Engine) : (s.stopWith ch e).chan ch = (s.chan ch).stopMade
    ∧ (s.stopWith ch e).chan (other ch) = s.chan (other ch) := by
  cases ch <;> exact ⟨rfl, rfl⟩

theorem State.stopWith_logAlike (s : State) (ch : Chan) (e : Engine) : LogAlike (s.stopWith ch e) s := by
  cases ch <;> exact ⟨rfl, rfl, rfl⟩

theorem State.stopMade_eq (s : State) (ch : Chan) : s.onChan ch Channel.stopMade = s.stopWith ch s.engine := by
  cases ch <;> rfl

theorem State.unitStop_eq (job : s.engine.job = some j) : s.unitStop = s.stopWith j.chan s.engine := by
  rw [← State.stopMade_eq, State.unitStop, job]

/-- The engine with `k` as its running job. -/
def Engine.withJob (e : Engine) (k : Job) : Engine := { e with job := some k }

theorem State.stopWith_onJob (job : e.job = some k) (ch : Chan) (f : Job → Job) :
    (s.stopWith ch e).onJob f = s.stopWith ch (e.withJob (f k)) :=
  State.onJob_eq (s := s.stopWith ch e) job f

/-- A job that goes on after the STOP of its unit (R164). -/
theorem State.stopWith_goesOn (job : e.job = some k) (last : e.last = s.engine.last) (unit : e.unit = s.engine.unit) :
    JobGoesOn k true s (s.stopWith k.chan e).engineAsk := by
  obtain ⟨here, apart⟩ := s.stopWith_chan k.chan e
  have free := (s.chan k.chan).grantable_stopMade
  rw [← here] at free
  have relay : ((s.stopWith k.chan e).chan k.chan).arb.relayWaits = (s.chan k.chan).arb.relayWaits := by
    rw [here]
    rfl
  by_cases granted : ((s.stopWith k.chan e).chan k.chan).grantable = true ∧ (s.chan k.chan).arb.relayWaits = false
  · obtain ⟨grantable, quiet⟩ := granted
    obtain ⟨seen, idle⟩ := free.1 grantable
    rw [State.engineAsk_granted (s := s.stopWith k.chan e) job grantable (relay.trans quiet)]
    refine ⟨?_, ?_, ?_, ?_, ?_, ?_, ?_⟩
    · rw [State.grantUnit_engine]; exact job
    · rw [State.grantUnit_engine]; exact last
    · rw [State.grantUnit_log]; exact (s.stopWith_logAlike k.chan e).log
    · rw [State.grantUnit_link]; exact s.onChan_link k.chan _
    · rw [State.grantUnit_supply]; exact s.onChan_supply k.chan _
    · rw [State.grantUnit_chan_other, apart]; rfl
    · rw [if_pos ⟨rfl, seen, idle, quiet⟩, State.grantUnit_chan_same, here, State.grantUnit_engine]
      refine ⟨?_, rfl, rfl, k.unitIs_items _⟩
      show Arbiter.mk .engine .engine (s.chan k.chan).arb.relayWaits false = _
      rw [quiet]
  · rw [State.engineAsk_waiting (s := s.stopWith k.chan e) job (by rw [relay]; grind)]
    refine ⟨?_, ?_, ?_, ?_, ?_, ?_, ?_⟩
    · rw [State.onChan_engine]; exact job
    · rw [State.onChan_engine]; exact last
    · rw [State.onChan_log]; exact (s.stopWith_logAlike k.chan e).log
    · rw [State.onChan_link]; exact s.onChan_link k.chan _
    · rw [State.onChan_supply]; exact s.onChan_supply k.chan _
    · rw [State.chan_onChan_other, apart]; rfl
    · rw [if_neg fun ⟨_, seen, idle, quiet⟩ => granted ⟨free.2 ⟨seen, idle⟩, quiet⟩, State.chan_onChan_same, here,
        State.onChan_engine]
      exact ⟨rfl, unit⟩

/-- A job that ends with the STOP of its unit. -/
theorem State.stopWith_finishJob (job : e.job = some k) (cause : JobCause) (a : Nat) :
    JobEnded k (k.result (k.endingCause.getD cause) a) s ((s.stopWith k.chan e).finishJob cause a) := by
  obtain ⟨here, -⟩ := s.stopWith_chan k.chan e
  refine (State.finishJob_ended (s := s.stopWith k.chan e) job cause a).before ?_ ?_ (s.stopWith_logAlike k.chan e) <;>
    rw [here] <;> rfl

/-- A job that has no ending cause ends with the one that ends it. -/
theorem State.stopWith_ends (job : e.job = some k) (going : k.endingCause = none) (cause : JobCause) (a : Nat) :
    JobEnded k (k.result cause a) s ((s.stopWith k.chan e).finishJob cause a) := by
  have ended := State.stopWith_finishJob (s := s) job cause a
  rwa [going] at ended

/-! ### One or the other -/

/-- From `s` to `t` the job goes on as `k` where `c`, and elsewhere job `j` has ended with result `r`. -/
def GoesOnOrEnds (c : Prop) [Decidable c] (k j : Job) (r : JobResult) (s t : State) : Prop :=
  if c then JobGoesOn k true s t else JobEnded j r s t

theorem GoesOnOrEnds.imp {c : Prop} [Decidable c] {r : JobResult} (h : GoesOnOrEnds c k j r s t)
    (on : JobGoesOn k true s t → JobGoesOn k true s u) (ends : JobEnded j r s t → JobEnded j r s u) :
    GoesOnOrEnds c k j r s u := by
  unfold GoesOnOrEnds at *
  split
  · rw [if_pos ‹_›] at h
    exact on h
  · rw [if_neg ‹_›] at h
    exact ends h

theorem GoesOnOrEnds.retimeAll {c : Prop} [Decidable c] {r : JobResult} (h : GoesOnOrEnds c k j r s t) :
    GoesOnOrEnds c k j r s t.retimeAll := h.imp .retimeAll .retimeAll

theorem JobGoesOn.keepBurst {b : Bool} (h : JobGoesOn k b s t) (l : List Byte) : JobGoesOn k b s (t.keepBurst l) := by
  obtain ⟨job, last, log, link, supply, apart, asked⟩ := h
  refine ⟨job, last, log, link, supply, ?_, ?_⟩
  · rwa [State.chan_keepBurst]
  · rwa [State.chan_keepBurst]

theorem JobEnded.burstEmptied {r : JobResult} (h : JobEnded j r s t) : JobEnded j r s (t.keepBurst []) := by
  unfold JobEnded at *
  rw [State.chan_keepBurst]
  obtain ⟨none, last, unit, -, rest⟩ := h
  exact ⟨none, last, unit, rfl, rest⟩

theorem GoesOnOrEnds.burstEmptied {c : Prop} [Decidable c] {r : JobResult} (h : GoesOnOrEnds c k j r s t) :
    GoesOnOrEnds c k j r s (t.keepBurst []) := h.imp (.keepBurst · []) .burstEmptied

/-- A chunk or burst that failed is tried again to the third attempt, and then ends the job (R167). -/
theorem State.stopWith_failAttempt (job : e.job = some j) (last : e.last = s.engine.last)
    (unit : e.unit = s.engine.unit) (going : j.endingCause = none) (cause : JobCause) :
    GoesOnOrEnds (j.attempt < 3) { j with attempt := j.attempt + 1 } j (j.result cause j.unitAddress) s
      ((s.stopWith j.chan e).failAttempt cause) := by
  have run : (s.stopWith j.chan e).engine.job = some j := job
  unfold State.failAttempt GoesOnOrEnds
  rw [run]
  dsimp only
  split
  · rw [State.stopWith_onJob job]
    exact State.stopWith_goesOn (e := e.withJob { j with attempt := j.attempt + 1 }) rfl last unit
  · rw [State.endJob_eq run]
    exact State.stopWith_ends job going ..

/-- A burst whose bytes are used leads to the next burst of the range, or the job is DONE (R169). -/
theorem State.stopWith_burstUsed (job : e.job = some k) (last : e.last = s.engine.last)
    (unit : e.unit = s.engine.unit) (going : k.endingCause = none) :
    GoesOnOrEnds (k.after < k.start + k.length) (k.cut .burst k.after) k (k.result .none k.unitAddress) s
      (s.stopWith k.chan e).burstUsed := by
  have run : (s.stopWith k.chan e).engine.job = some k := job
  unfold State.burstUsed GoesOnOrEnds Job.more
  rw [run]
  simp only [decide_eq_true_eq]
  split
  · rw [State.stopWith_onJob job]
    exact State.stopWith_goesOn (e := e.withJob (k.cut .burst k.after)) rfl last unit
  · rw [State.endJob_eq run]
    exact State.stopWith_ends job going ..

end Sys2Proof.Machine
end

section
/-! The ends of the engine's units (R166 to R173): O43. -/

namespace Sys2Proof.Machine

variable {s t : State} {j k : Job} {e : Engine} {bit : AckBit}

/-! ### A unit in progress -/

theorem State.jobEnding_eq (job : s.engine.job = some j) : s.jobEnding = decide (j.phase = .ending) := by
  rw [State.jobEnding, job]

/-- The engine holds the D-side for a unit, and not for the STOP of a probe. -/
theorem State.unitRuns_of {unit : JobUnit} (job : s.engine.job = some j)
    (runs : (s.chan j.chan).arb.holder = .engine ∧ j.unit = unit ∧ j.probeAck = none) : s.unitRuns unit = true := by
  obtain ⟨holder, kind, ack⟩ := runs
  simp [State.unitRuns, job, holder, kind, ack]

@[simp] theorem State.finishJob_staging (s : State) (cause : JobCause) (a : Nat) :
    (s.finishJob cause a).engine.staging = s.engine.staging := by
  cases job : s.engine.job with
  | none => rw [State.finishJob, job]
  | some j => rw [State.finishJob_engine job]

@[simp] theorem State.endJob_staging (s : State) (cause : JobCause) :
    (s.endJob cause).engine.staging = s.engine.staging := by
  unfold State.endJob
  split <;> simp

@[simp] theorem State.burstUsed_staging (s : State) : s.burstUsed.engine.staging = s.engine.staging := by
  unfold State.burstUsed
  (repeat' split) <;> simp [State.onJob]

/-! ### A unit that ends in ENDING (R171, R172) -/

section
variable (reset : s.inReset = false) (job : s.engine.job = some j)
include reset job

theorem State.exec_chunkEnd_ending (runs : s.unitRuns .chunk = true) (ending : j.phase = .ending) (r : ChunkResult) :
    exec (.chunkEnd r) s = .next ((s.stopWith j.chan s.engine).endJob .none).retimeAll := by
  show execChunkEnd r s = _
  rw [execChunkEnd, if_pos ⟨reset, runs⟩, State.jobEnding_eq job, State.unitStop_eq job]
  exact if_pos (decide_eq_true ending)

theorem State.exec_burstEnd_ending (runs : s.unitRuns .burst = true) (ending : j.phase = .ending) (r : BurstResult) :
    exec (.burstEnd r) s = .next ((s.stopWith j.chan s.engine).endJob .none).retimeAll := by
  have phase : s.jobEnding = true := (State.jobEnding_eq job).trans (decide_eq_true ending)
  show execBurstEnd r s = _
  rw [execBurstEnd, if_pos ⟨reset, runs, .inl phase⟩, State.unitStop_eq job]
  exact if_pos phase

/-- The STOP of a probe (R168, log entry 24). -/
theorem State.exec_dStopComplete_probe (holder : (s.chan j.chan).arb.holder = .engine)
    (stops : j.probeAck.isSome = true) :
    exec (.dStopComplete j.chan) s = .next (s.stopWith j.chan s.engine).afterProbe.retimeAll := by
  show execDStopComplete j.chan s = _
  rw [execDStopComplete, if_neg (by simp [Channel.relayCloses, holder]),
    if_pos ⟨reset, by simp [State.probeStops, job, stops, holder]⟩, State.stopMade_eq]

end

theorem State.stopWith_afterProbe_ending (job : e.job = some j) (ending : j.phase = .ending) (ch : Chan) :
    (s.stopWith ch e).afterProbe
      = (s.stopWith ch (e.withJob { j with probeAck := none })).endJob .none := by
  rw [State.afterProbe, show (s.stopWith ch e).engine.job = some j from job, State.stopWith_onJob job]
  exact if_pos ending

/-- A job in ENDING ends with its ending cause at the STOP of its unit. -/
theorem State.stopWith_over (job : e.job = some k) :
    JobEnded k (k.result (k.endingCause.getD .none) k.unitAddress) s ((s.stopWith k.chan e).endJob .none).retimeAll
      ∧ ((s.stopWith k.chan e).endJob .none).retimeAll.engine.staging = e.staging := by
  refine ⟨JobEnded.retimeAll ?_, State.endJob_staging ..⟩
  rw [State.endJob_eq (s := s.stopWith k.chan e) job]
  exact State.stopWith_finishJob job ..

/-! ### A chunk (R167) -/

theorem State.exec_chunkEnd_going (reset : s.inReset = false) (job : s.engine.job = some j)
    (runs : s.unitRuns .chunk = true) (going : j.phase ≠ .ending) (r : ChunkResult) :
    exec (.chunkEnd r) s = match r with
      | .complete => .next (s.stopWith j.chan (s.engine.withJob j.toPoll)).engineAsk.retimeAll
      | .addressNack => .next ((s.stopWith j.chan s.engine).failAttempt .addressNack).retimeAll
      | .dataNack => .next ((s.stopWith j.chan s.engine).failAttempt .dataNack).retimeAll := by
  show execChunkEnd r s = _
  rw [execChunkEnd, if_pos ⟨reset, runs⟩, State.jobEnding_eq job, decide_eq_false going, State.unitStop_eq job]
  dsimp only
  rw [State.stopWith_onJob job]
  cases r <;> rfl

/-! ### A probe (R168) -/

theorem Job.written_eq (j : Job) : j.written =
    let k : Job := { j with done := j.done + 1, pollTimer := none, pollExpired := false }
    if j.after < j.start + j.length then { k.cut .chunk j.after with phase := .write }
    else if j.verify = true then { k.cut .burst j.start with phase := .verify }
    else k := by
  unfold Job.written Job.more
  simp only [decide_eq_true_eq]
  rfl

theorem Job.probed_chan (j : Job) (bit : AckBit) : (j.probed bit).chan = j.chan := by
  rw [Job.probed, Job.written_eq]
  dsimp only
  (repeat' split) <;> rfl

/-- The state in which the engine makes the STOP of a probe with acknowledge bit `bit`. -/
def State.probeStopping (s : State) (j : Job) (bit : AckBit) : State :=
  ({ s with engine := { s.engine with job := some (j.probed bit) } } : State).onChan j.chan fun c =>
    c.beginD (.stop false) c.inUse.bit

theorem State.exec_probeEnd (reset : s.inReset = false) (job : s.engine.job = some j)
    (runs : s.unitRuns .probe = true) : exec (.probeEnd bit) s = .next (s.probeStopping j bit).retimeAll := by
  show execProbeEnd bit s = _
  rw [execProbeEnd, if_pos ⟨reset, runs⟩, State.onJob_eq job, State.unitStops]
  dsimp only
  rw [Job.probed_chan]
  rfl

theorem State.probeStopping_chan (s : State) (j : Job) (bit : AckBit) :
    SameChannel ((s.chan j.chan).beginD (.stop false) (s.chan j.chan).inUse.bit)
      ((s.probeStopping j bit).retimeAll.chan j.chan) := by
  have same := (s.probeStopping j bit).sameChannel_retimeAll j.chan
  unfold State.probeStopping at same ⊢
  rwa [State.chan_onChan_same, State.chan_withEngine] at same

/-- What the STOP of a probe leaves its job to (R168). -/
theorem State.stopWith_afterProbe (job : e.job = some j) (last : e.last = s.engine.last)
    (unit : e.unit = s.engine.unit) (going : j.phase ≠ .ending) (cause : j.endingCause = none)
    (ack : j.probeAck = some bit) :
    if j.pollExpired = true then
      JobEnded j (j.result .pollTimeout j.unitAddress) s (s.stopWith j.chan e).afterProbe.retimeAll
    else GoesOnOrEnds (¬ (j.phase = .poll ∧ bit = .ack)) { j with probeAck := none } j
      (j.result .none j.unitAddress) s (s.stopWith j.chan e).afterProbe.retimeAll := by
  have ends (c : JobCause) : JobEnded j (j.result c j.unitAddress) s
      ((s.stopWith j.chan (e.withJob { j with probeAck := none })).endJob c).retimeAll := by
    rw [State.endJob_eq (j := { j with probeAck := none }) rfl]
    exact JobEnded.retimeAll (State.stopWith_ends (e := e.withJob { j with probeAck := none }) rfl cause ..)
  have decided : j.phase = .poll ∧ j.probeAck = some .ack ↔ j.phase = .poll ∧ bit = .ack := by
    rw [ack, Option.some_inj]
  rw [State.afterProbe, show (s.stopWith j.chan e).engine.job = some j from job, State.stopWith_onJob job]
  dsimp only
  rw [if_neg going]
  by_cases expired : j.pollExpired = true
  · rw [if_pos expired, if_pos expired]
    exact ends .pollTimeout
  · rw [if_neg expired, if_neg expired]
    unfold GoesOnOrEnds
    by_cases written : j.phase = .poll ∧ bit = .ack
    · rw [if_pos (decided.2 written), if_neg (not_not.2 written)]
      exact ends .none
    · rw [if_neg (mt decided.1 written), if_pos written]
      exact JobGoesOn.retimeAll
        (State.stopWith_goesOn (e := e.withJob { j with probeAck := none }) rfl last unit)

/-! ### The poll limit (R168) -/

theorem State.exec_pollLimitExpiry (reset : s.inReset = false) (job : s.engine.job = some j) (poll : j.phase = .poll)
    (due : timerDue j.pollTimer = true) : exec .pollLimitExpiry s
      = if (s.chan j.chan).arb.holder = .engine then
          .next { s with engine := { s.engine with job := some { j with pollExpired := true } } }
        else .next (s.finishJob .pollTimeout j.unitAddress).retimeAll := by
  show execPollLimitExpiry s = _
  rw [execPollLimitExpiry, job]
  dsimp only
  rw [if_pos ⟨reset, poll, due⟩, State.onJob_eq job, State.endJob_eq job]

/-! ### A burst (R169) -/

theorem firstDifference_self (l : List Byte) : firstDifference l l = none := by
  induction l with
  | nil => rfl
  | cons a l ih => rw [firstDifference, if_pos rfl, ih]; rfl

/-- Two runs that agree below a position and differ there differ there first. -/
theorem firstDifference_at {l m : List Byte} {i : Nat} (left : i < l.length) (right : i < m.length)
    (same : l.take i = m.take i) (differ : l[i]? ≠ m[i]?) : firstDifference l m = some i := by
  induction i generalizing l m with
  | zero =>
    match l, m with
    | a :: l, b :: m => exact if_neg fun h => differ (congrArg some h)
  | succ i ih =>
    match l, m with
    | a :: l, b :: m =>
      obtain ⟨head, tail⟩ := List.cons.inj same
      rw [firstDifference, if_pos head, ih (Nat.lt_of_succ_lt_succ left) (Nat.lt_of_succ_lt_succ right) tail differ]
      rfl

theorem State.exec_burstEnd_going {r : BurstResult} (reset : s.inReset = false) (job : s.engine.job = some j)
    (runs : s.unitRuns .burst = true) (going : j.phase ≠ .ending) (fits : s.burstFits r = true) :
    exec (.burstEnd r) s = match r with
      | .complete bytes =>
        .next ((s.stopWith j.chan { s.engine with burst := bytes }).useBurst.keepBurst []).retimeAll
      | .addressNack =>
        .next ((s.stopWith j.chan { s.engine with burst := [] }).failAttempt .addressNack).retimeAll
      | .dataNack => .next ((s.stopWith j.chan { s.engine with burst := [] }).failAttempt .dataNack).retimeAll := by
  have phase : s.jobEnding = false := (State.jobEnding_eq job).trans (decide_eq_false going)
  show execBurstEnd r s = _
  rw [execBurstEnd, if_pos ⟨reset, runs, .inr fits⟩, phase, State.unitStop_eq job]
  cases r <;> rfl

theorem State.burstFits_complete {bytes : List Byte} (job : s.engine.job = some j)
    (long : bytes.length = j.unitLength) : s.burstFits (.complete bytes) = true := by
  rw [State.burstFits, job]
  exact decide_eq_true long

theorem State.failAttempt_burst (s : State) (cause : JobCause) (empty : s.engine.burst = []) :
    (s.failAttempt cause).engine.burst = [] := by
  unfold State.failAttempt
  split
  · exact empty
  · rename_i j job
    split
    · rw [State.engineAsk_burst]
      exact empty
    · rw [State.endJob_eq job, State.finishJob_engine job]

/-- The staging bytes of the job's current unit (R158, R161). -/
def Job.staged (j : Job) (m : Mem) : List Byte :=
  (List.range j.unitLength).map fun i => memRead m (j.offset j.unitAddress + i)

theorem Job.staged_eq (j : Job) (m : Mem) : j.staged m = memReadList m (j.offset j.unitAddress) j.unitLength :=
  (memReadList_eq_map ..).symm

section
variable (job : e.job = some j)
include job

/-- The bytes of a burst in VERIFY are compared with those of the staging buffer (R169). -/
theorem State.useBurst_write (kind : j.kind = .write) : (s.stopWith j.chan e).useBurst
    = match firstDifference e.burst (j.staged e.staging) with
      | some i => (s.stopWith j.chan e).finishJob .verifyMismatch (j.unitAddress + i)
      | none => (s.stopWith j.chan e).burstUsed := by
  rw [State.useBurst, show (s.stopWith j.chan e).engine.job = some j from job, Job.staged_eq]
  dsimp only
  rw [kind]
  rfl

theorem State.useBurst_read (kind : j.kind = .read) : (s.stopWith j.chan e).useBurst
    = (s.stopWith j.chan (Engine.withJob
        { e with staging := memWriteList e.staging (j.offset j.unitAddress) e.burst } (j.folded e.burst))).burstUsed := by
  rw [State.useBurst, show (s.stopWith j.chan e).engine.job = some j from job]
  dsimp only
  rw [kind]
  exact congrArg State.burstUsed (State.onJob_eq (j := j) job _)

theorem State.useBurst_check (kind : j.kind = .check) : (s.stopWith j.chan e).useBurst
    = (s.stopWith j.chan (e.withJob (j.folded e.burst))).burstUsed := by
  rw [State.useBurst, show (s.stopWith j.chan e).engine.job = some j from job]
  dsimp only
  rw [kind]
  exact congrArg State.burstUsed (State.onJob_eq (j := j) job _)

theorem State.useBurst_staging (kind : j.kind ≠ .read) :
    (s.stopWith j.chan e).useBurst.engine.staging = e.staging := by
  cases is : j.kind with
  | write =>
    rw [State.useBurst_write job is]
    split
    · exact State.finishJob_staging ..
    · exact State.burstUsed_staging _
  | read => exact absurd is kind
  | check =>
    rw [State.useBurst_check job is]
    exact State.burstUsed_staging _

end

/-- What a job comes to whose burst has been used without failure, with its record as `k` (R169). -/
def BurstUsed (j k : Job) (s t : State) : Prop :=
  GoesOnOrEnds (j.after < j.start + j.length) (k.cut .burst j.after) j (k.result .none j.unitAddress) s t

/-- How a complete burst of `bytes` leaves its job, from state `s` to state `t` (R169). -/
structure BurstTaken (j : Job) (bytes : List Byte) (s t : State) : Prop where
  emptied : t.engine.burst = []
  kept : j.kind ≠ .read → t.engine.staging = s.engine.staging
  alike : j.kind = .write → bytes = j.staged s.engine.staging → BurstUsed j j s t
  differs : j.kind = .write → ∀ i, i < bytes.length →
    bytes.take i = (j.staged s.engine.staging).take i → bytes[i]? ≠ (j.staged s.engine.staging)[i]? →
      JobEnded j (j.result .verifyMismatch (j.unitAddress + i)) s t
  read : j.kind = .read → t.engine.staging = memWriteList s.engine.staging (j.offset j.unitAddress) bytes
    ∧ BurstUsed j (j.folded bytes) s t
  check : j.kind = .check → BurstUsed j (j.folded bytes) s t

theorem State.useBurst_taken {bytes : List Byte} (job : s.engine.job = some j) (going : j.endingCause = none)
    (long : bytes.length = j.unitLength) : BurstTaken j bytes s
      ((s.stopWith j.chan { s.engine with burst := bytes }).useBurst.keepBurst []).retimeAll where
  emptied := rfl
  kept kind := State.useBurst_staging (e := { s.engine with burst := bytes }) job kind
  alike kind same := by
    rw [State.useBurst_write (e := { s.engine with burst := bytes }) job kind]
    dsimp only
    rw [← same, firstDifference_self]
    exact (State.stopWith_burstUsed (e := { s.engine with burst := bytes }) job rfl rfl going).burstEmptied.retimeAll
  differs kind i inside same differ := by
    rw [State.useBurst_write (e := { s.engine with burst := bytes }) job kind]
    dsimp only
    rw [firstDifference_at inside (by simpa [Job.staged, ← long] using inside) same differ]
    exact (State.stopWith_ends (e := { s.engine with burst := bytes }) job going ..).burstEmptied.retimeAll
  read kind := by
    rw [State.useBurst_read (e := { s.engine with burst := bytes }) job kind]
    exact ⟨State.burstUsed_staging _, (State.stopWith_burstUsed (e := Engine.withJob { s.engine with
      staging := memWriteList s.engine.staging (j.offset j.unitAddress) bytes, burst := bytes } (j.folded bytes))
      rfl rfl rfl going).burstEmptied.retimeAll⟩
  check kind := by
    rw [State.useBurst_check (e := { s.engine with burst := bytes }) job kind]
    exact (State.stopWith_burstUsed (e := Engine.withJob { s.engine with burst := bytes } (j.folded bytes))
      rfl rfl rfl going).burstEmptied.retimeAll

/-- Settles O43, unit by unit. -/
theorem unitsEnd : Obligations.UnitsEnd := by
  intro s j reset job
  refine ⟨fun ending i h => ?_, fun ⟨phase, cause⟩ runs => ⟨?_, ?_, ?_⟩, fun runs bit => ?_,
    fun bit ⟨phase, cause⟩ holder ack => ?_, fun ⟨phase, cause⟩ runs => ⟨?_, ?_, fun bytes long => ?_⟩,
    fun m poll cause run due => ?_⟩
  · rcases h with ⟨r, rfl, runs⟩ | ⟨r, rfl, runs⟩ | ⟨rfl, holder, stops⟩
    · exact ⟨_, State.exec_chunkEnd_ending reset job (State.unitRuns_of job runs) ending r,
        State.stopWith_over job⟩
    · exact ⟨_, State.exec_burstEnd_ending reset job (State.unitRuns_of job runs) ending r,
        State.stopWith_over job⟩
    · refine ⟨_, State.exec_dStopComplete_probe reset job holder stops, ?_⟩
      rw [State.stopWith_afterProbe_ending job ending]
      exact State.stopWith_over (e := s.engine.withJob { j with probeAck := none }) (k := { j with probeAck := none })
        rfl
  · exact ⟨_, State.exec_chunkEnd_going reset job (State.unitRuns_of job runs) phase .complete,
      JobGoesOn.retimeAll (State.stopWith_goesOn (e := s.engine.withJob j.toPoll) rfl rfl rfl)⟩
  · exact ⟨_, State.exec_chunkEnd_going reset job (State.unitRuns_of job runs) phase .addressNack,
      (State.stopWith_failAttempt job rfl rfl cause .addressNack).retimeAll⟩
  · exact ⟨_, State.exec_chunkEnd_going reset job (State.unitRuns_of job runs) phase .dataNack,
      (State.stopWith_failAttempt job rfl rfl cause .dataNack).retimeAll⟩
  · have told : OnlyChannel j.chan _ (s.probeStopping j bit).retimeAll := State.onlyChannel_onChan ..
    rw [Job.probed, Job.written_eq] at told
    refine ⟨_, State.exec_probeEnd reset job (State.unitRuns_of job runs), told, ?_⟩
    rw [s.probeStopping_chan j bit]
    exact ⟨rfl, rfl, rfl, rfl, rfl, rfl, rfl⟩
  · refine ⟨_, State.exec_dStopComplete_probe reset job holder (by rw [ack]; rfl), ?_⟩
    have after := State.stopWith_afterProbe (s := s) job rfl rfl phase cause ack
    unfold GoesOnOrEnds at after
    rwa [ite_not] at after
  · exact ⟨_, State.exec_burstEnd_going reset job (State.unitRuns_of job runs) phase (r := .addressNack) rfl,
      (State.stopWith_failAttempt (e := { s.engine with burst := [] }) job rfl rfl cause .addressNack).retimeAll,
      State.failAttempt_burst _ _ rfl⟩
  · exact ⟨_, State.exec_burstEnd_going reset job (State.unitRuns_of job runs) phase (r := .dataNack) rfl,
      (State.stopWith_failAttempt (e := { s.engine with burst := [] }) job rfl rfl cause .dataNack).retimeAll,
      State.failAttempt_burst _ _ rfl⟩
  · obtain ⟨emptied, kept, alike, differs, read, check⟩ := State.useBurst_taken job cause long
    rw [Job.folded_eq] at read check
    exact ⟨_, State.exec_burstEnd_going reset job (State.unitRuns_of job runs) phase (State.burstFits_complete job long),
      emptied, kept, alike, differs, read, check⟩
  · rw [State.exec_pollLimitExpiry reset job poll ((timerDue_iff _).2 ⟨m, run, due⟩)]
    refine ⟨fun holder => if_pos holder, fun holder => ⟨_, if_neg holder, ?_⟩⟩
    have ended := State.finishJob_ended job .pollTimeout j.unitAddress
    rw [cause] at ended
    exact ended.retimeAll

end Sys2Proof.Machine
end

section
/-! JOB START, JOB ABORT and JOB STATUS (R161 to R164, R171, R174): O42. -/

namespace Sys2Proof.Machine

variable {s : State} {raw : RawJob} {ch : Chan} {kind : JobKind} {j : Job}

/-! ### The job a request asks for (R161, R162) -/

/-- The numbers of a JOB START are in their ranges (R162). -/
def JobInRange (raw : RawJob) : Prop :=
  raw.kind.toNat ≤ 2 ∧ raw.channel.toNat ≤ 1 ∧ raw.device.toNat ≤ 127
    ∧ (raw.width = 1 ∨ raw.width = 2) ∧ raw.page.toNat ∈ [1, 2, 4, 8, 16, 32, 64, 128, 256]
    ∧ 1 ≤ raw.length.toNat ∧ raw.length.toNat ≤ 4096
    ∧ raw.start.toNat + raw.length.toNat ≤ (if raw.width = 1 then 256 else 65536)
    ∧ (raw.staging = none ↔ raw.kind = 2) ∧ (∀ o, raw.staging = some o → o.toNat + raw.length.toNat ≤ 4096)
    ∧ (raw.verify.isSome = true → raw.kind = 0) ∧ (∀ v, raw.verify = some v → v.toNat ≤ 1)
    ∧ (∀ v, raw.holdReset = some v → v.toNat ≤ 1)

/-- The job of a request of `kind` on channel `ch`, with its first chunk or burst (R161, R163, R167). -/
def jobAsked (raw : RawJob) (ch : Chan) (kind : JobKind) : Job :=
  { id := raw.id, kind := kind, chan := ch, device := BitVec.ofNat 7 raw.device.toNat
    width := raw.width.toNat, page := raw.page.toNat, start := raw.start.toNat, length := raw.length.toNat
    staging := raw.staging.map BitVec.toNat
    pollLimit := (raw.pollLimit.map fun v => max 1 (min 100 v.toNat)).getD 10
    verify := decide (raw.verify = some 1), holdReset := decide (raw.holdReset = some 1)
    phase := kind.phase
    unit := if kind = .write then .chunk else .burst
    unitAddress := raw.start.toNat
    unitLength := min raw.length.toNat (raw.page.toNat - raw.start.toNat % raw.page.toNat)
    attempt := 1, done := 0, sumA := 1, sumB := 0, endingCause := none, pollTimer := none
    pollExpired := false, probeAck := none }

theorem jobKindOf_eq_some_iff {b : Byte} {kind : JobKind} : jobKindOf b = some kind ↔ b = kind.code := by
  constructor
  · intro named
    unfold jobKindOf at named
    split at named
    case h_4 => exact absurd named nofun
    all_goals
      obtain rfl := Option.some.inj named
      exact BitVec.eq_of_toNat_eq ‹_›
  · rintro rfl
    cases kind <;> rfl

theorem jobKind_listed {b : Byte} : b.toNat ≤ 2 ↔ ∃ kind : JobKind, b = kind.code := by
  constructor
  · intro h
    have names : b = 0 ∨ b = 1 ∨ b = 2 := by bv_omega
    rcases names with rfl | rfl | rfl
    · exact ⟨.write, rfl⟩
    · exact ⟨.read, rfl⟩
    · exact ⟨.check, rfl⟩
  · rintro ⟨kind, rfl⟩
    cases kind <;> decide

theorem chanOf_eq_some_iff {b : Byte} : chanOf b = some ch ↔ b = chanCode ch := by
  constructor
  · intro named
    unfold chanOf at named
    split at named
    · obtain rfl := Option.some.inj named
      assumption
    · split at named
      · obtain rfl := Option.some.inj named
        assumption
      · exact absurd named nofun
  · rintro rfl
    exact chanOf_code ch

theorem chan_listed {b : Byte} : b.toNat ≤ 1 ↔ ∃ ch, b = chanCode ch := by
  rw [Byte.le_one_iff]
  constructor
  · rintro (rfl | rfl)
    · exact ⟨.c0, rfl⟩
    · exact ⟨.c1, rfl⟩
  · rintro ⟨ch, rfl⟩
    cases ch
    · exact .inl rfl
    · exact .inr rfl

theorem optBool_eq_some_iff {o : Option Byte} {v : Bool} :
    optBool o = some v ↔ (∀ b, o = some b → b.toNat ≤ 1) ∧ v = decide (o = some 1) := by
  cases o with
  | none => cases v <;> simp [optBool]
  | some b => simp [optBool, boolOf_eq_some_iff]

theorem stagingFits_iff {o : Option Half} {n : Nat} : stagingFits kind o n = true
    ↔ (o = none ↔ kind = .check) ∧ ∀ a, o = some a → a.toNat + n ≤ 4096 := by
  cases o with
  | none => simp [stagingFits]
  | some a =>
    rw [stagingFits, decide_eq_true_eq, Config.stagingSize]
    simp

theorem JobKind.code_inj {k l : JobKind} : k.code = l.code ↔ k = l := by
  cases k <;> cases l <;> decide

/-- The checks of R162 passed by a request that names its kind and its channel. -/
theorem jobInRange_iff (named : raw.kind = kind.code) (chan : raw.channel = chanCode ch) : JobInRange raw
    ↔ jobFits raw kind = true ∧ (∀ v, raw.verify = some v → v.toNat ≤ 1)
      ∧ ∀ v, raw.holdReset = some v → v.toNat ≤ 1 := by
  have listed := jobKind_listed.2 ⟨kind, named⟩
  have known := chan_listed.2 ⟨ch, chan⟩
  have check : raw.kind = 2 ↔ kind = .check := named ▸ JobKind.code_inj (l := .check)
  have write : raw.kind = 0 ↔ kind = .write := named ▸ JobKind.code_inj (l := .write)
  have verify : (raw.verify.isSome = true → kind = .write) ↔ raw.verify = none ∨ kind = .write := by
    cases raw.verify <;> simp
  simp only [JobInRange, jobFits, pageSize, Bool.and_eq_true, decide_eq_true_eq, List.contains_iff_mem,
    stagingFits_iff, check, write, verify, listed, known, true_and]
  constructor
  · rintro ⟨device, width, page, low, high, range, staged, region, verify, verified, held⟩
    exact ⟨⟨⟨⟨device, width, low, high, range, verify⟩, page⟩, staged, region⟩, verified, held⟩
  · rintro ⟨⟨⟨⟨device, width, low, high, range, verify⟩, page⟩, staged, region⟩, verified, held⟩
    exact ⟨device, width, page, low, high, range, staged, region, verify, verified, held⟩

theorem pollLimitOf_eq (o : Option Byte) :
    pollLimitOf o = (o.map fun v => max 1 (min 100 v.toNat)).getD 10 := by
  cases o <;> rfl

/-- The first unit of a job is cut at its page like every later one (R167). -/
theorem jobAsked_eq (raw : RawJob) (ch : Chan) (kind : JobKind) : jobAsked raw ch kind
    = Job.cut { jobAsked raw ch kind with
        device := raw.device.setWidth 7, pollLimit := pollLimitOf raw.pollLimit, unit := kind.unit
        unitAddress := 0, unitLength := 0 } kind.unit raw.start.toNat := by
  have unit : kind.unit = if kind = .write then .chunk else .burst := by cases kind <;> rfl
  have device : raw.device.setWidth 7 = BitVec.ofNat 7 raw.device.toNat := by
    apply BitVec.eq_of_toNat_eq
    simp
  rw [Job.cut, Job.remaining, unit, device, pollLimitOf_eq, jobAsked, Nat.add_sub_cancel_left]

/-- A request is a job exactly where its numbers are in their ranges. -/
theorem jobOf_eq_some_iff : jobOf raw = some j
    ↔ JobInRange raw ∧ ∃ ch kind, raw.channel = chanCode ch ∧ raw.kind = kind.code ∧ j = jobAsked raw ch kind := by
  constructor
  · intro asked
    unfold jobOf at asked
    split at asked
    · rename_i kind ch verify hold named chan verifies holds
      split at asked
      · rename_i fits
        rw [jobKindOf_eq_some_iff] at named
        rw [chanOf_eq_some_iff] at chan
        obtain ⟨verified, rfl⟩ := optBool_eq_some_iff.1 verifies
        obtain ⟨held, rfl⟩ := optBool_eq_some_iff.1 holds
        exact ⟨(jobInRange_iff named chan).2 ⟨fits, verified, held⟩, ch, kind, chan, named,
          (Option.some.inj asked).symm.trans (jobAsked_eq raw ch kind).symm⟩
      · exact absurd asked nofun
    · exact absurd asked nofun
  · rintro ⟨fits, ch, kind, chan, named, rfl⟩
    obtain ⟨fits, verified, held⟩ := (jobInRange_iff named chan).1 fits
    rw [jobOf, jobKindOf_eq_some_iff.2 named, chanOf_eq_some_iff.2 chan, optBool_eq_some_iff.2 ⟨verified, rfl⟩,
      optBool_eq_some_iff.2 ⟨held, rfl⟩]
    dsimp only
    rw [if_pos fits]
    exact congrArg some (jobAsked_eq raw ch kind).symm

/-! ### JOB START (R162, R163) -/

theorem jobOf_asked (fits : JobInRange raw) (chan : raw.channel = chanCode ch) (named : raw.kind = kind.code) :
    jobOf raw = some (jobAsked raw ch kind) := jobOf_eq_some_iff.2 ⟨fits, ch, kind, chan, named, rfl⟩

theorem ownJobStart_refused (bad : ¬ JobInRange raw) : ownJobStart raw s = (s, refuse .badParam) := by
  have unread : jobOf raw = none := Option.eq_none_iff_forall_not_mem.2 fun j asked =>
    have ⟨fits, _⟩ := jobOf_eq_some_iff.1 asked
    bad fits
  rw [ownJobStart, unread]

section
variable (asked : jobOf raw = some j)
include asked

theorem ownJobStart_busy (runs : s.engine.job.isSome = true) : ownJobStart raw s = (s, refuse .busy) := by
  rw [ownJobStart, asked]
  exact if_pos runs

theorem ownJobStart_wrongMode (idle : s.engine.job = none)
    (wrong : (s.chan j.chan).mode ≠ .active ∨ s.supply.state = .stopping) :
    ownJobStart raw s = (s, refuse .wrongMode) := by
  rw [ownJobStart, asked, idle]
  exact if_pos wrong

theorem ownJobStart_admitted (idle : s.engine.job = none) (active : (s.chan j.chan).mode = .active)
    (on : s.supply.state ≠ .stopping) :
    ownJobStart raw s = (s.admitJob j, okOrAdjusted (pollClamped raw.pollLimit) []) := by
  rw [ownJobStart, asked, idle]
  exact if_neg (not_or.2 ⟨not_not.2 active, on⟩)

end

/-- A poll limit outside 1 to 100 ms is brought into that range (R162). -/
theorem pollClamped_eq (o : Option Byte) :
    pollClamped o = !o.all fun v => decide (1 ≤ v.toNat ∧ v.toNat ≤ 100) := by
  cases o with
  | none => rfl
  | some v =>
    rw [Option.all_some, ← decide_not]
    refine decide_eq_decide.2 ?_
    rw [pollLimitOf, clampTo]
    omega

theorem okOrAdjusted_not (kept : Bool) (results : List Byte) :
    okOrAdjusted (!kept) results = ⟨if kept then .ok else .adjusted, results⟩ := by
  cases kept <;> rfl

/-- The state with job `j` in the engine, its first unit not asked for yet. -/
def State.admitted (s : State) (j : Job) : State :=
  { s with
    engine := { s.engine with job := some j, unit := [] }
    supply := { s.supply with claims := { s.supply.claims with job := s.supply.claims.job || j.holdReset } } }

theorem State.admitJob_eq (s : State) (j : Job) : s.admitJob j = (s.admitted j).engineAsk.retimeAll := by
  unfold State.admitJob State.admitted
  cases j.holdReset with
  | true => rw [Bool.or_true]; rfl
  | false => rw [Bool.or_false]; rfl

theorem State.admitted_chan (s : State) (j : Job) (ch : Chan) : (s.admitted j).chan ch = s.chan ch := by
  cases ch <;> rfl

/-- A unit asked for changes the channels and the transaction the engine issues. -/
theorem State.engineAsk_frame (s : State) : s.engineAsk = { s with
    ch0 := s.engineAsk.ch0, ch1 := s.engineAsk.ch1
    engine := { s.engine with unit := s.engineAsk.engine.unit } } := by
  unfold State.engineAsk
  split
  · rfl
  · rename_i j _
    split <;> generalize j.chan = ch <;> cases ch <;> rfl

/-- A unit asked for leaves the other channel and its own channel's exchange. -/
theorem State.engineAsk_chan (job : s.engine.job = some j) :
    s.engineAsk.chan (other j.chan) = s.chan (other j.chan)
      ∧ (s.engineAsk.chan j.chan).exch = (s.chan j.chan).exch := by
  unfold State.engineAsk
  rw [job]
  dsimp only
  split
  · exact ⟨State.grantUnit_chan_other .., by rw [State.grantUnit_chan_same]; rfl⟩
  · exact ⟨State.chan_onChan_other .., by rw [State.chan_onChan_same]⟩

/-- An admitted job is granted the D-side at once, under the plan as it stands (R36, R164). -/
theorem State.admitJob_granted (grantable : (s.chan j.chan).grantable = true)
    (quiet : (s.chan j.chan).arb.relayWaits = false) :
    ((s.admitJob j).chan j.chan).arb.holder = .engine ∧ ((s.admitJob j).chan j.chan).arb.last = .engine
      ∧ ((s.admitJob j).chan j.chan).dOp = .unit ∧ ((s.admitJob j).chan j.chan).latched = some (s.chan j.chan).plan
      ∧ UnitIs j s.engine.staging (s.admitJob j).engine.unit := by
  rw [← s.admitted_chan j] at grantable quiet
  rw [State.admitJob_eq, State.engineAsk_granted (s := s.admitted j) rfl grantable quiet,
    State.sameChannel_retimeAll _ j.chan, State.grantUnit_chan_same, State.admitted_chan, State.retimeAll_engine,
    State.grantUnit_engine]
  exact ⟨rfl, rfl, rfl, rfl, j.unitIs_items _⟩

/-- An admitted job waits for a D-side it cannot be granted (R164). -/
theorem State.admitJob_waits (taken : (s.chan j.chan).grantable = false ∨ (s.chan j.chan).arb.relayWaits = true) :
    ((s.admitJob j).chan j.chan).arb = { (s.chan j.chan).arb with engineWaits := true }
      ∧ ((s.admitJob j).chan j.chan).dOp = (s.chan j.chan).dOp ∧ (s.admitJob j).engine.unit = [] := by
  rw [← s.admitted_chan j] at taken
  rw [State.admitJob_eq, State.engineAsk_waiting (s := s.admitted j) rfl taken,
    State.sameChannel_retimeAll _ j.chan, State.chan_onChan_same, State.admitted_chan, State.retimeAll_engine,
    State.onChan_engine]
  exact ⟨rfl, rfl, rfl⟩

theorem State.admitJob_frame (s : State) (j : Job) : s.admitJob j = { s with
    ch0 := (s.admitJob j).ch0, ch1 := (s.admitJob j).ch1
    engine := { s.engine with job := some j, unit := (s.admitJob j).engine.unit }
    supply := { s.supply with claims := { s.supply.claims with job := s.supply.claims.job || j.holdReset } } } := by
  rw [State.admitJob_eq, State.sameBlocks_retimeAll, (s.admitted j).engineAsk_frame]
  rfl

theorem State.admitJob_chan (s : State) (j : Job) :
    SameChannel (s.chan (other j.chan)) ((s.admitJob j).chan (other j.chan))
      ∧ ((s.admitJob j).chan j.chan).exch = (s.chan j.chan).exch := by
  obtain ⟨apart, exch⟩ := State.engineAsk_chan (s := s.admitted j) rfl
  rw [State.admitted_chan] at apart exch
  rw [State.admitJob_eq]
  exact ⟨apart ▸ State.sameChannel_retimeAll .., (State.retimeAll_chan_exch ..).trans exch⟩

/-! ### JOB ABORT (R171) -/

theorem State.enterEnding_idle (idle : s.engine.job = none ∨ s.jobEnding = true) (cause : JobCause) :
    s.enterEnding cause = s := by
  unfold State.enterEnding
  cases job : s.engine.job with
  | none => rfl
  | some j =>
    refine if_pos ?_
    simpa [State.jobEnding, job] using idle

theorem Engine.nackRest_eq (e : Engine) : e.nackRest = { e with unit := e.unit.map fun
    | .receive _ => .receive .nack
    | item => item } := by
  unfold Engine.nackRest
  congr 2
  funext item
  cases item with
  | receive bit => cases bit <;> rfl
  | _ => rfl

section
variable (job : s.engine.job = some j) (going : j.phase ≠ .ending)
include job going

/-- A unit in progress is cut short by a JOB ABORT (R171, log entry 24). -/
theorem State.enterEnding_holds (holds : (s.chan j.chan).arb.holder = .engine) : s.enterEnding .hostAbort
    = { s with engine := { s.engine with
        job := some { j with phase := .ending, endingCause := some .hostAbort }
        unit := s.engine.unit.map fun
          | .receive _ => .receive .nack
          | item => item } } := by
  unfold State.enterEnding
  rw [job]
  dsimp only
  rw [if_neg going, if_neg (not_not.2 holds), if_pos rfl, Engine.nackRest_eq, State.onJob_eq job]

/-- Waiting or between units a job ends at once with the cause of its ending (R171, R172). -/
theorem State.enterEnding_ends (free : (s.chan j.chan).arb.holder ≠ .engine) (cause : JobCause) :
    JobEnded j (j.result cause j.unitAddress) s (s.enterEnding cause) := by
  have at_once : s.enterEnding cause
      = (s.onJob fun j => { j with phase := .ending, endingCause := some cause }).endJob cause := by
    unfold State.enterEnding
    rw [job]
    dsimp only
    rw [if_neg going, if_pos free]
  have ending : (s.onJob fun j => { j with phase := .ending, endingCause := some cause }).engine.job
      = some { j with phase := .ending, endingCause := some cause } := by
    rw [State.onJob_eq job]
  rw [at_once]
  exact JobEnded.before (j := j) (State.endJob_ended ending cause) (by rw [State.chan_onJob])
    (by rw [State.chan_onJob]) ⟨rfl, rfl, rfl⟩

end

/-! ### JOB STATUS (R174, log entry 18) -/

theorem lastResult_bytes (o : Option JobResult) : optField (o.map JobResult.bytes) = match o with
    | none => [0]
    | some r => 1 :: ([r.id, r.kind.code, chanCode r.chan, r.outcome.code, r.cause.code] ++ le16 r.done
        ++ le32 r.failing ++ (match r.check with
          | none => [0]
          | some v => 1 :: le32 v)) := by
  cases o with
  | none => rfl
  | some r =>
    rw [Option.map_some, JobResult.bytes]
    dsimp only
    cases r.check <;> rfl

theorem ownJobStatus_idle (idle : s.engine.job = none) :
    ownJobStatus s = (s, okWith ([0, 0, 0] ++ optField (s.engine.last.map JobResult.bytes))) := by
  rw [ownJobStatus, State.holdsOrWaits, idle]
  rfl

theorem ownJobStatus_running (job : s.engine.job = some j) : ownJobStatus s = (s, okWith
    ([j.phase.code, 1, j.id, j.kind.code, chanCode j.chan] ++ le8 j.device.toNat ++ le8 j.width ++ le16 j.page
      ++ le16 j.start ++ le16 j.length
      ++ (match j.staging with
          | none => [0]
          | some o => 1 :: le16 o)
      ++ le8 j.pollLimit ++ (if j.kind = .write then 1 :: yesNo j.verify else [0]) ++ yesNo j.holdReset
      ++ le16 j.unitAddress ++ le16 j.unitLength ++ le8 j.attempt ++ le16 j.done
      ++ (match j.endingCause with
          | none => [0]
          | some c => [1, c.code])
      ++ yesNo (decide ((s.chan j.chan).arb.holder = .engine ∨ (s.chan j.chan).arb.engineWaits = true))
      ++ optField (s.engine.last.map JobResult.bytes))) := by
  have waits : s.holdsOrWaits
      = decide ((s.chan j.chan).arb.holder = .engine ∨ (s.chan j.chan).arb.engineWaits = true) := by
    rw [State.holdsOrWaits, job, Bool.decide_or, Bool.decide_eq_true]
  have verify : optField (if j.kind = .write then some (yesNo j.verify) else none)
      = if j.kind = .write then 1 :: yesNo j.verify else [0] := by
    split <;> rfl
  have region : optField (j.staging.map le16) = match j.staging with
      | none => [0]
      | some o => 1 :: le16 o := by
    cases j.staging <;> rfl
  have cause : optField (j.endingCause.map fun c => [c.code]) = match j.endingCause with
      | none => [0]
      | some c => [1, c.code] := by
    cases j.endingCause <;> rfl
  rw [ownJobStatus, job, waits, Option.map_some, Job.bytes, verify, region, cause, optField]
  simp only [List.append_assoc, List.cons_append, List.nil_append]

/-- Settles O42, request by request. -/
theorem jobRequests : Obligations.JobRequests := by
  intro s tag hr
  have start (raw) : exec (.jobStart tag raw) s = .next (s.serve tag 0x73 (ownJobStart raw)) := rfl
  have abort : exec (.jobAbort tag) s = .next (s.serve tag 0x74 ownJobAbort) := rfl
  have status : exec (.jobStatus tag) s = .next (s.serve tag 0x75 ownJobStatus) := rfl
  simp only [start, abort, status, s.serve_of_ready hr]
  refine ⟨fun raw => ⟨fun bad => ?_, fun fits ch kind chan named => ⟨fun runs => ?_, fun idle wrong => ?_,
    fun idle active on => ?_⟩⟩, fun idle => ?_, fun j job going => ?_, fun idle => ?_, fun j job => ?_⟩
  · rw [ownJobStart_refused bad]
    rfl
  · rw [ownJobStart_busy (jobOf_asked fits chan named) runs]
    rfl
  · rw [ownJobStart_wrongMode (jobOf_asked fits chan named) idle wrong]
    rfl
  · obtain ⟨apart, exch⟩ := s.admitJob_chan (jobAsked raw ch kind)
    rw [ownJobStart_admitted (jobOf_asked fits chan named) idle active on, pollClamped_eq, okOrAdjusted_not]
    exact ⟨_, rfl, s.admitJob_frame _, apart, exch, State.admitJob_granted (j := jobAsked raw ch kind),
      State.admitJob_waits (j := jobAsked raw ch kind)⟩
  · refine ⟨_, rfl, ?_⟩
    rw [ownJobAbort, State.enterEnding_idle idle]
    exact s.measured_retimeAll
  · refine ⟨_, rfl, ?_⟩
    rw [ownJobAbort]
    split
    · rw [State.enterEnding_holds job going ‹_›]
      exact State.measured_retimeAll _
    · exact (State.enterEnding_ends job going ‹_› .hostAbort).retimeAll
  · rw [ownJobStatus_idle idle, lastResult_bytes]
    rfl
  · rw [ownJobStatus_running job, lastResult_bytes]
    rfl

end Sys2Proof.Machine
end
